-- ==== Sys2Proof/Word.lean ====
section
/-! DEFINITION. The bit-vector types the manual treats as bits: a data byte, a 32-bit management word,
a 29-bit CAN identifier and the six valve functions of a group. -/

namespace Sys2Proof

/-- One data byte of a CAN frame. -/
abbrev Byte := BitVec 8

/-- A management word (the value field of a request or a reply). -/
abbrev Word := BitVec 32

/-- An extended CAN identifier (R1). -/
abbrev CanId := BitVec 29

/-- A subset of the six functions of a valve group, bit 0 the first in the order of Table 4-2. -/
abbrev FnSet := BitVec 6

end Sys2Proof
end

