-- ==== Sys2Proof/Config.lean ====
section
/-! DEFINITION. The fixed capacities and periods of the part, and the free values: constants without a body that stand
for what the manual leaves open (no proof can see them). -/

namespace Sys2Proof.Config

/-- Frames a receive FIFO holds (R2). -/
def fifoCapacity : Nat := 16

/-- Frames a transmit queue holds (R6). -/
def queueCapacity : Nat := 48

/-- Record places of the Lift Log (R138). -/
def logCapacity : Nat := 2048

/-- Entries the Bin Table holds (R86). -/
def binCapacity : Nat := 4096

/-- Where every saturating 16-bit counter stops (R12, R14, R21, R101, R106, R135, R159). -/
def counterMax : Nat := 65535

/-- Recovery time of a port in OFF, in ms (R4). -/
def recoveryMs : Nat := 200

/-- Repeat time of the high-idle request, in ms (R77). -/
def repeatMs : Nat := 100

/-- Run-down time of the high-idle request, in ms (R77). -/
def runDownMs : Nat := 2000

/-- The tick of the Valve Output Unit, in ms (R78). -/
def tickMs : Nat := 20

/-- The frame interval of a still valve group, in ms (R82). -/
def stillMs : Nat := 100

/-- The gap limit of an open weighing window, in ms (R111). -/
def gapMs : Nat := 100

/-- The period of a status page, in ms (R167). -/
def periodMs : Nat := 500

/-- The spacing of a status page, in ms (R167). -/
def spacingMs : Nat := 50

/-- The one-second timer of the route clock, in ms (R31). -/
def secondMs : Nat := 1000

/-- The latest completion of a Bin Table update, in ms (R88). -/
def binUpdateMaxMs : Nat := 50

/-- DESIGN CHOICE (assumption 3). Internal events one command may set off before what is left waits for the next
command. The longest cascade the tables allow is below this number. -/
def cascadeBudget : Nat := 2 ^ 128

/-- FREE VALUE (assumption 5). The value field of a refused reply whose request names no word: R161 gives "the word as
it stands" and there is none. -/
opaque freeReplyValue : Nat → Word

/-- FREE VALUE (assumption 6). Which of two events is taken first where the manual says that either may be. -/
opaque freeChoice : Nat → Nat

/-- FREE VALUE (assumption 7). The time a Bin Table update takes, held to 50 ms by its reader: R88 fixes only the bound. -/
opaque freeUpdateMs : Nat → Nat

end Sys2Proof.Config
end

