-- ==== Sys2Proof/Syntax.lean ====
section
/-! DEFINITION. The commands of the block: one constructor of `Instr` for each row of spec/opcode_table.json. The table gives
the rows no operand bits; the operands here are what the rule a row names says the command carries. -/

namespace Sys2Proof

/-- The two CAN ports: C on the chassis bus, B on the body bus. -/
inductive PortId where
  | portC | portB
  deriving DecidableEq, Repr

/-- The two arms. -/
inductive ArmId where
  | armA | armB
  deriving DecidableEq, Repr

/-- The two chambers of the body. -/
inductive ChamberId where
  | chamber0 | chamber1
  deriving DecidableEq, Repr

/-- The four hydraulic consumers; each owns the valve group of the same place (groups 0 to 3, Table 4-2). -/
inductive Consumer where
  | armA | armB | packer0 | packer1
  deriving DecidableEq, Repr

/-- An extended data frame: its identifier and its data bytes, byte 0 first; the data length is the number of bytes. -/
structure Frame where
  id : CanId
  data : List Byte
  deriving DecidableEq, Repr

/-- What a bus can bring to a port (R1). -/
inductive BusFrame where
  /-- an extended data frame -/
  | extended (f : Frame)
  /-- a frame with an 11-bit identifier, or a remote frame -/
  | foreign
  deriving DecidableEq, Repr

/-- The fields of a well-formed management request besides its operation (Table 10-6); `node` is its requester. -/
structure Request where
  node : BitVec 4
  /-- byte 1: table in bits 4-7, word in bits 0-3 -/
  tableWord : Byte
  index : BitVec 16
  value : Word
  deriving DecidableEq, Repr

/-- The commands of the block. Operator commands carry the data bytes after byte 0 of their frame where the manual
reads any; a management operation carries its request. -/
inductive Instr where
  /-- POWER_ON: supply rises; `jumper` is the metrology jumper input read then (true: active). -/
  | powerOn (jumper : Bool)
  /-- WARM_RESET -/
  | warmReset
  /-- FRAME_ARRIVAL -/
  | frameArrival (p : PortId) (f : BusFrame)
  /-- FRAME_TAKEN -/
  | frameTaken (p : PortId)
  /-- START; `args` are data bytes 1 to 7 of the operator frame -/
  | start (a : ArmId) (args : List Byte)
  /-- PAUSE -/
  | pauseArm (a : ArmId)
  /-- CONTINUE -/
  | continueArm (a : ArmId)
  /-- ABORT -/
  | abortArm (a : ArmId)
  /-- MANUAL_ENTER -/
  | manualEnter (a : ArmId)
  /-- MANUAL_EXIT -/
  | manualExit (a : ArmId)
  /-- FAULT_CLEAR -/
  | faultClear (a : ArmId)
  /-- PACK_NOW; `args` are data bytes 1 to 7 of the operator frame -/
  | packNow (args : List Byte)
  /-- DISCHARGED; `args` as for PACK_NOW -/
  | discharged (args : List Byte)
  /-- CHAMBER_FAULT_CLEAR; `args` as for PACK_NOW -/
  | chamberFaultClear (args : List Byte)
  /-- ERROR_PASSIVE -/
  | errorPassive (p : PortId)
  /-- RETURN_TO_ACTIVE -/
  | returnToActive (p : PortId)
  /-- BUS_OFF -/
  | busOff (p : PortId)
  /-- RECOVERY_TIMER_EXPIRY -/
  | recoveryTimerExpiry (p : PortId)
  /-- TRANSMISSION_END -/
  | transmissionEnd (p : PortId)
  /-- FRESHNESS_LIMIT_EXPIRY of Signal Table entry `i` -/
  | freshnessLimitExpiry (i : Nat)
  /-- HOLD_TIME_EXPIRY of Signal Table entry `i` -/
  | holdTimeExpiry (i : Nat)
  /-- ONE_SECOND_TIMER_EXPIRY -/
  | oneSecondTimerExpiry
  /-- TRUE_DELAY_EXPIRY of group `g`, 1 to 32 -/
  | trueDelayExpiry (g : Nat)
  /-- STEP_TIMER_EXPIRY -/
  | stepTimerExpiry (a : ArmId)
  /-- DURATION_TIMER_EXPIRY -/
  | durationTimerExpiry (a : ArmId)
  /-- REPEAT_TIMER_EXPIRY -/
  | repeatTimerExpiry
  /-- RUN_DOWN_TIMER_EXPIRY -/
  | runDownTimerExpiry
  /-- VALVE_TICK -/
  | valveTick
  /-- STILL_FRAME_INTERVAL of the valve group of `c` -/
  | stillFrameInterval (c : Consumer)
  /-- GAP_TIMER_EXPIRY of the arm's Weighing Unit -/
  | gapTimerExpiry (a : ArmId)
  /-- PHASE_TIMER_EXPIRY -/
  | phaseTimerExpiry (c : ChamberId)
  /-- QUIET_TIMER_EXPIRY -/
  | quietTimerExpiry (c : ChamberId)
  /-- PERIOD_TIMER_EXPIRY of status page `page`, 0 to 3 -/
  | periodTimerExpiry (page : Nat)
  /-- SPACING_TIMER_EXPIRY of status page `page`, 0 to 3 -/
  | spacingTimerExpiry (page : Nat)
  /-- BIN_UPDATE_COMPLETE -/
  | binUpdateComplete
  /-- IDENTIFY -/
  | identify (q : Request)
  /-- EXAMINE -/
  | examine (q : Request)
  /-- DEPOSIT -/
  | deposit (q : Request)
  /-- INSERT -/
  | insertBin (q : Request)
  /-- REMOVE -/
  | removeBin (q : Request)
  /-- RELEASE -/
  | release (q : Request)
  /-- DAY -/
  | day (q : Request)
  /-- STEP -/
  | stepArm (q : Request)
  /-- WATCH_CONTINUE_PROCESS: WATCH_CONTINUE with value 1 -/
  | watchContinueProcess (q : Request)
  /-- WATCH_CONTINUE_DISCARD: WATCH_CONTINUE with value 0 -/
  | watchContinueDiscard (q : Request)
  /-- LOCK -/
  | lock (q : Request)
  /-- RESET -/
  | reset (q : Request)
  /-- CLEAR -/
  | clear (q : Request)
  /-- PORT_CLEAR: PORT with value 0 -/
  | portClear (q : Request)
  /-- PORT_SET: PORT with value 1 -/
  | portSet (q : Request)
  /-- PORT_RESTART: PORT with value 2 -/
  | portRestart (q : Request)
  deriving DecidableEq, Repr

end Sys2Proof
end

