-- ==== Sys2Proof/Decode.lean ====
section
/-! DEFINITION. `decodeTableWord`, over the rows of spec/opcode_table.json that give bits. This part's table gives bits to no
row (its commands are frames, requests, timer expiries and pin events), so no word spells a command. -/

namespace Sys2Proof

/-- The command that a word spells by the table's bits: none, since no row of the table gives bits. -/
def decodeTableWord (_nbits _w : Nat) : Option Instr := none

end Sys2Proof
end

