-- ==== Sys2Proof/Machine/State.lean ====
section
/-! DEFINITION. The state of the BC-460 as plain data: every table, queue, counter, timer, flag and register the manual gives
the part, the queue of waiting commands, and the model's own fields (named so). Then `State.reset`. -/

namespace Sys2Proof.Machine

/-! ## Shared shapes -/

/-- A timer with its remaining time in ms; a stopped timer keeps its remainder. -/
structure Timer where
  running : Bool
  left : Nat
  deriving DecidableEq, Repr

/-- A stopped timer with nothing left. -/
def Timer.stopped : Timer := { running := false, left := 0 }

/-- A timer started toward `ms`. -/
def Timer.start (ms : Nat) : Timer := { running := true, left := ms }

/-- A timer loaded with `ms` that does not run yet (R49). -/
def Timer.load (ms : Nat) : Timer := { running := false, left := ms }

/-- Stop with the remaining time kept. -/
def Timer.pause (t : Timer) : Timer := { t with running := false }

/-- Run on with the remaining time. -/
def Timer.resume (t : Timer) : Timer := { t with running := true }

/-- Two like things: the arms A and B, the chambers 0 and 1, the ports C and B. -/
structure Duo (α : Type) where
  fst : α
  snd : α
  deriving DecidableEq, Repr

/-- Four like things: the consumers arm A, arm B, packer 0, packer 1, or valve groups 0 to 3. -/
structure Quad (α : Type) where
  q0 : α
  q1 : α
  q2 : α
  q3 : α
  deriving DecidableEq, Repr

/-! ## Port units (Table 1-1) -/

inductive PortState where
  | active | passive | off
  deriving DecidableEq, Repr

/-- Origin recorded with a queued frame (Table 1-2). -/
inductive Origin where
  | forwarded | reply | status | mirror
  deriving DecidableEq, Repr

/-- A frame in a transmit queue (R6). `ofReset` marks the reply of a RESET, whose leaving brings the warm reset (R164). -/
structure QFrame where
  frame : Frame
  cls : Nat
  origin : Origin
  ofReset : Bool
  deriving DecidableEq, Repr

/-- What the transmitter is sending. -/
inductive Sending where
  | fromSlot (slot : Nat) (f : Frame)
  | fromQueue (q : QFrame)
  deriving DecidableEq, Repr

/-- The counters of Table 1-3; each 0 to 65535, saturating. -/
structure PortCounters where
  rxOverrun : Nat
  rxForeign : Nat
  rxFlushed : Nat
  miss : Nat
  /-- one per class 0 to 3 -/
  txDrop : List Nat
  /-- one per class 0 to 3 -/
  txEvict : List Nat
  txFlushed : Nat
  offDrop : Nat
  fwdRemoved : Nat
  fwdDisabled : Nat
  /-- one per command slot -/
  superseded : List Nat
  passiveCount : Nat
  activeCount : Nat
  busoffCount : Nat
  deriving DecidableEq, Repr

/-- One port unit (Table 1-1). -/
structure Port where
  state : PortState
  /-- bit rate in force, kbit/s (R1) -/
  bitRate : Nat
  /-- oldest first -/
  fifo : List Frame
  /-- in order of leaving: class, then age (R6) -/
  queue : List QFrame
  /-- port B: four; port C: one (R9) -/
  slots : List (Option Frame)
  transmitter : Option Sending
  recovery : Timer
  forwardEnable : Bool
  counters : PortCounters
  deriving DecidableEq, Repr

/-! ## Frame Router (Table 1-4) -/

inductive RouteSource where
  | portC | portB | any
  deriving DecidableEq, Repr

inductive RouteAction where
  | forward | consume | both | drop
  deriving DecidableEq, Repr

inductive RouteConsumer where
  | signals | armA | armB | tagA | tagB | weighA | weighB | chamber
  deriving DecidableEq, Repr

structure RouteEntry where
  valid : Bool
  source : RouteSource
  matchId : CanId
  mask : CanId
  action : RouteAction
  consumer : RouteConsumer
  /-- 0 (none) or 1 to 32 -/
  gate : Nat
  cls : Nat
  hits : Nat
  blocked : Nat
  deriving DecidableEq, Repr

/-! ## Signals, terms and groups (Tables 2-1, 2-5, 2-6) -/

inductive ByteOrder where
  | lsbFirst | msbFirst
  deriving DecidableEq, Repr

inductive SignalState where
  | never | fresh | held | lost
  deriving DecidableEq, Repr

structure SignalEntry where
  valid : Bool
  source : Nat
  startBit : Nat
  width : Nat
  order : ByteOrder
  isSigned : Bool
  numerator : Int
  denominator : Int
  offset : Int
  clampLow : Int
  clampHigh : Int
  freshnessLimit : Nat
  holdTime : Nat
  /-- absent in NEVER -/
  value : Option Int
  state : SignalState
  clamped : Bool
  shortFrames : Nat
  /-- the freshness timer, which runs on through the hold time (R26) -/
  timer : Timer
  deriving DecidableEq, Repr

inductive Comparison where
  | lt | le | eq | ne | ge | gt | inBand | bitSet
  deriving DecidableEq, Repr

structure TermEntry where
  valid : Bool
  signal : Nat
  comparison : Comparison
  thresholdA : Int
  thresholdB : Int
  hysteresis : Int
  result : Bool
  deriving DecidableEq, Repr

/-- A non-empty reference of a group. -/
structure GroupRef where
  term : Nat
  negate : Bool
  deriving DecidableEq, Repr

inductive GroupState where
  | isFalse | pending | isTrue
  deriving DecidableEq, Repr

structure GroupEntry where
  valid : Bool
  /-- six references, each empty or a term with a negate flag -/
  refs : List (Option GroupRef)
  trueDelay : Nat
  state : GroupState
  timer : Timer
  deriving DecidableEq, Repr

/-- The route clock (R31). -/
structure Clock where
  count : Nat
  isSet : Bool
  timer : Timer
  deriving DecidableEq, Repr

/-- The signal roles, in the order of Table 2-3. -/
inductive Role where
  | parkBrake | vehicleSpeed | engineSpeed | tilt | routeTime | latitude | longitude
  | armAPos | armBPos | blade0 | blade1 | press0 | press1 | joyA | joyB | serviceSwitch
  deriving DecidableEq, Repr

/-- The role groups, in the order of Table 2-4. -/
inductive RoleGroup where
  | liftPermitA | liftPermitB | runGuardA | runGuardB | manualPermitA | manualPermitB
  | packPermit0 | packPermit1 | dischargePermit0 | dischargePermit1
  deriving DecidableEq, Repr

/-! ## Lift programs (Tables 3-1, R42) -/

inductive EndKind where
  | position | time | tag | weighGross | weighTare | tipMark
  deriving DecidableEq, Repr

inductive TimeoutAction where
  | fault | next
  deriving DecidableEq, Repr

structure StepEntry where
  valid : Bool
  functions : FnSet
  level : Nat
  ramp : Nat
  demand : Nat
  endKind : EndKind
  endParam : Nat
  timeLimit : Nat
  onTimeout : TimeoutAction
  loopCount : Nat
  loopDistance : Nat
  deriving DecidableEq, Repr

structure ProgramEntry where
  valid : Bool
  firstStep : Nat
  stepCount : Nat
  returnStep : Nat
  deriving DecidableEq, Repr

/-! ## Arm Sequencers (Table 3-2, R44) -/

inductive ArmState where
  | idle | waitSupply | running | suspended | paused | held | manual | faulted
  deriving DecidableEq, Repr

inductive ArmFault where
  | none | stepTimeout | positionLost | bodyPortOff
  deriving DecidableEq, Repr

inductive ArmRefusal where
  | none | programInvalid | noPermit | logReserve | chamberFull
  deriving DecidableEq, Repr

/-- A tag with the moment it was read, in ms since the reset (R92). -/
structure TagRead where
  tag : Nat
  readAt : Nat
  deriving DecidableEq, Repr

structure Arm where
  state : ArmState
  program : Option Nat
  position : Option Nat
  /-- one loop counter for each of positions 1 to 32 -/
  loops : List Nat
  stepTimer : Timer
  durationTimer : Timer
  singleStep : Bool
  refused : Bool
  openRecord : Option Nat
  prior : Option ArmState
  grantedHeld : Bool
  manualGranted : Bool
  lastManualPos : Option Int
  fault : ArmFault
  refusal : ArmRefusal
  lastTag : Option TagRead
  cmdIgnored : Nat
  cmdBad : Nat
  /-- an end event of the current step is kept (R52) -/
  keptEnd : Bool
  deriving DecidableEq, Repr

/-! ## Supply Arbiter (Table 4-1) and Valve Output Unit (Table 4-3) -/

inductive HighIdle where
  | off | on | runDown
  deriving DecidableEq, Repr

structure Arbiter where
  capacity : Nat
  grants : Quad Nat
  /-- head first; each entry a consumer and its demand -/
  waiting : List (Consumer × Nat)
  highIdle : HighIdle
  repeatTimer : Timer
  runDownTimer : Timer
  deriving DecidableEq, Repr

structure ValveGroup where
  driving : Bool
  functions : FnSet
  /-- six targets -/
  targets : List Nat
  /-- six levels -/
  levels : List Nat
  ramp : Nat
  /-- 0 to 15 -/
  alive : Nat
  /-- ms since the last frame, 0 to 100 -/
  sinceFrame : Nat
  deriving DecidableEq, Repr

/-! ## Bin Identification Unit (chapter 5) -/

inductive BinStatus where
  | active | blocked
  deriving DecidableEq, Repr

inductive LastLift where
  | absent | set | unset
  deriving DecidableEq, Repr

/-- Words 0 to 5 of Table 5-1: what the staging entry holds (R87). -/
structure BinData where
  tag : Nat
  household : Nat
  stream : Nat
  sizeClass : Nat
  tariff : Nat
  status : BinStatus
  deriving DecidableEq, Repr

structure BinEntry where
  data : BinData
  liftCount : Nat
  lastLift : LastLift
  /-- route clock seconds; 0 when absent -/
  lastLiftTime : Nat
  deriving DecidableEq, Repr

inductive BinChange where
  | insert (d : BinData)
  | remove (tag : Nat)
  deriving DecidableEq, Repr

inductive RequestState where
  | none | waitRead | waitLookup
  deriving DecidableEq, Repr

/-- One arm's decision request (R93). -/
structure DecisionRequest where
  state : RequestState
  candidate : Option Nat
  record : Nat
  sizeClass : Nat
  /-- the time of the request, in ms since the reset -/
  askedAt : Nat
  deriving DecidableEq, Repr

/-- A lookup waiting on an update in flight (R90). -/
inductive WaitingLookup where
  | decision (a : ArmId)
  | manualTip (a : ArmId) (tag : Nat)
  | closeUpdate (tag : Nat) (time : Nat) (clockSet : Bool)
  deriving DecidableEq, Repr

structure BinUnit where
  /-- ascending order of tag (R86) -/
  entries : List BinEntry
  staging : BinData
  /-- the update in flight, or none: update state IDLE -/
  update : Option BinChange
  updateTimer : Timer
  waiting : List WaitingLookup
  requests : Duo DecisionRequest
  /-- TAG_VALID, TAG_NOREAD and TAG_SHORT, one pair each -/
  tagValid : Duo Nat
  tagNoRead : Duo Nat
  tagShort : Duo Nat
  closeMissed : Nat
  deriving DecidableEq, Repr

/-! ## Weighing (Tables 6-1, 6-2) -/

/-- The calibration of one arm (indices 0 and 1). -/
structure ArmCalibration where
  zero : Int
  gain : Nat
  capacityKg : Nat
  tiltLimit : Nat
  windowLength : Nat
  settleBand : Nat
  deriving DecidableEq, Repr

structure Calibration where
  arms : Duo ArmCalibration
  division : Nat
  /-- M[0] to M[15] -/
  tiltFactors : List Nat
  /-- true: UNLOCKED -/
  unlocked : Bool
  counter : Nat
  deriving DecidableEq, Repr

inductive WeighState where
  | idle | collectGross | grossDone | collectTare | done
  deriving DecidableEq, Repr

/-- The flags of word 6 of a record, in the order of Table 10-7. -/
structure RecFlags where
  gUnsettled : Bool := false
  tUnsettled : Bool := false
  gTilt : Bool := false
  tTilt : Bool := false
  tiltLost : Bool := false
  overrange : Bool := false
  belowMin : Bool := false
  negative : Bool := false
  noGross : Bool := false
  noTare : Bool := false
  lockOpen : Bool := false
  disturbed : Bool := false
  loadcellLost : Bool := false
  tipped : Bool := false
  sizeMismatch : Bool := false
  timeUnset : Bool := false
  posAbsent : Bool := false
  deriving DecidableEq, Repr

/-- The result of an ended window: grams when there is a value, and the window's flags (R117, R118). -/
structure WeighResult where
  grams : Option Int
  flags : RecFlags
  deriving DecidableEq, Repr

structure WeighUnit where
  state : WeighState
  record : Option Nat
  /-- oldest first -/
  window : List Int
  /-- window length in force -/
  lengthInForce : Nat
  /-- window condition: true OPEN, false STALLED (in a collecting state) -/
  isOpen : Bool
  disturbed : Bool
  gapTimer : Timer
  quiet : Bool
  gross : Option WeighResult
  tare : Option WeighResult
  /-- the live count with its time in ms since the reset -/
  live : Option (Int × Nat)
  sampleShort : Nat
  disturbCount : Nat
  gapCount : Nat
  deriving DecidableEq, Repr

/-! ## Compaction Controllers (Table 7-2) -/

inductive ChamberState where
  | idle | waitSupply | sweep | pack | ret | quiet | suspended | held | faulted
  deriving DecidableEq, Repr

inductive StrokePhase where
  | none | sweep | pack | ret
  deriving DecidableEq, Repr

inductive ChamberFault where
  | none | strokeTimeout
  deriving DecidableEq, Repr

inductive DischargeRefusal where
  | none | notIdle | noPermit | armInCycle | logFull
  deriving DecidableEq, Repr

inductive LoadState where
  | normal | warn | full
  deriving DecidableEq, Repr

structure Chamber where
  state : ChamberState
  phase : StrokePhase
  phaseTimer : Timer
  quietTimer : Timer
  quieted : Bool
  grantFlag : Bool
  operatorFlag : Bool
  pending : Bool
  /-- used in HELD (Table 7-2); outside HELD none, DESIGN CHOICE (assumption 50) -/
  prior : Option ChamberState
  grantedHeld : Bool
  fault : ChamberFault
  refusal : DischargeRefusal
  tipCounter : Nat
  tipsSinceDischarge : Nat
  fill : Nat
  mass : Nat
  load : LoadState
  cmdIgnored : Nat
  strokeFaults : Nat
  dischRefused : Nat
  /-- the stroke phase has been entered once (R129: "was never entered") -/
  entered : Bool
  deriving DecidableEq, Repr

/-! ## The Lift Log (Tables 8-1 to 8-3) -/

structure TariffEntry where
  rate : Nat
  liftFee : Nat
  unweighedFee : Nat
  deriving DecidableEq, Repr

inductive RecordKind where
  | lift | manualTip | discharge
  deriving DecidableEq, Repr

inductive CycleOutcome where
  | none | completed | refused | aborted | faulted | interrupted
  deriving DecidableEq, Repr

inductive Decision where
  | none | accept | relift | refuseBlocked | refuseStream | unknown | refuseUnknown | noTag | refuseNoTag
  deriving DecidableEq, Repr

structure LogRecord where
  seq : Nat
  kind : RecordKind
  closed : Bool
  outcome : CycleOutcome
  /-- arm B, or chamber 1 of a DISCHARGE record -/
  second : Bool
  sizeClass : Nat
  stream : Nat
  tariff : Nat
  decision : Decision
  /-- 0 when absent -/
  tag : Nat
  household : Nat
  gross : Option Int
  tare : Option Int
  nDiv : Option Nat
  flags : RecFlags
  charge : Nat
  time : Nat
  latitude : Int
  longitude : Int
  calCounter : Nat
  check : BitVec 16
  damaged : Bool
  /-- DISCHARGE records: mass in grams, tips since discharge and fill -/
  mass : Nat
  tips : Nat
  fill : Nat
  deriving DecidableEq, Repr

structure LiftLog where
  /-- oldest first -/
  records : List LogRecord
  nextSeq : Nat
  pointer : Nat
  manualTipLost : Nat
  deriving DecidableEq, Repr

/-! ## Frame Watch (Tables 9-1, 9-2) -/

inductive WatchSource where
  | portC | portB | any | own
  deriving DecidableEq, Repr

inductive WatchKind where
  | mirror | holdAfter | holdBefore
  deriving DecidableEq, Repr

structure WatchEntry where
  armed : Bool
  id : CanId
  mask : CanId
  source : WatchSource
  kind : WatchKind
  hits : Nat
  deriving DecidableEq, Repr

/-- Where a frame of the controller's own is going. -/
inductive OwnDest where
  | slot (p : PortId) (n : Nat)
  | queue (p : PortId) (cls : Nat) (origin : Origin) (ofReset : Bool)
  deriving DecidableEq, Repr

/-- The hold register's frame with its origin. -/
inductive HeldFrame where
  | received (p : PortId) (f : Frame)
  | own (d : OwnDest) (f : Frame)
  deriving DecidableEq, Repr

structure Watch where
  entries : List WatchEntry
  /-- hold state: true HELD, false FREE -/
  isHeld : Bool
  holdEntry : Option Nat
  register : Option HeldFrame
  /-- 0 to 255, wrapping -/
  reportCount : Nat
  holdIgnored : Nat
  heldDropped : Nat
  heldDiscarded : Nat
  deriving DecidableEq, Repr

/-! ## The Config Table (Table 10-5) and the Management Unit -/

inductive MissAction where
  | forward | drop
  deriving DecidableEq, Repr

inductive Policy where
  | continueCycle | refuse
  deriving DecidableEq, Repr

structure ArmSettings where
  fa : Nat
  fb : Nat
  manualMax : Nat
  manualRamp : Nat
  manualDemand : Nat
  tipThreshold : Nat
  deriving DecidableEq, Repr

/-- Table 7-1. -/
structure ChamberSettings where
  sweepFns : FnSet
  packFns : FnSet
  returnFns : FnSet
  sweepLevel : Nat
  packLevel : Nat
  returnLevel : Nat
  ramp : Nat
  sweepLimit : Nat
  packLimit : Nat
  returnLimit : Nat
  sweepEnd : Nat
  packPressure : Nat
  endBand : Nat
  homeBand : Nat
  strokeDemand : Nat
  autoPack : Nat
  quietLimit : Nat
  fillWarn : Nat
  fillFull : Nat
  massWarn : Nat
  massFull : Nat
  deriving DecidableEq, Repr

structure ConfigTable where
  bitRate : Duo Nat
  miss : Duo MissAction
  mreqBase : CanId
  mrepBase : CanId
  statBase : CanId
  vcmdBase : CanId
  wmirId : CanId
  hidleId : CanId
  tagOffset : Nat
  lcOffset : Nat
  /-- sixteen role bindings in the order of Table 2-3; none: unbound -/
  roles : List (Option Nat)
  /-- ten role-group bindings in the order of Table 2-4; 0: unbound -/
  roleGroups : List Nat
  cIdle : Nat
  cBoost : Nat
  boostThreshold : Nat
  arms : Duo ArmSettings
  tagWindow : Nat
  reliftWindow : Nat
  unknownPolicy : Policy
  noTagPolicy : Policy
  chambers : Duo ChamberSettings
  /-- dither frequency of groups 0 to 3, in Hz -/
  dither : Quad Nat
  reserve : Nat
  deriving DecidableEq, Repr

/-- The management operations of Table 10-3. -/
inductive MgmtOp where
  | identify | examine | deposit | insert | remove | release | day | step | watchContinue | lock | reset | clear | port
  deriving DecidableEq, Repr

/-- The timers and the change mark of one status page (R167). -/
structure PageTimers where
  period : Timer
  spacing : Timer
  mark : Bool
  deriving DecidableEq, Repr

structure Management where
  /-- the request in progress with its operation -/
  inProgress : Option (MgmtOp × Request)
  /-- the SERVICE condition as last judged -/
  service : Bool
  /-- the RESET reply has left port B: the warm reset is due (R164) -/
  resetDue : Bool
  /-- pages 0 to 3 -/
  pages : List PageTimers
  /-- the model's own: the contents of pages 0 to 3 as last noted, against which a change is seen (assumption 9) -/
  noted : List (List Byte)
  deriving DecidableEq, Repr

/-! ## Internal events -/

/-- What one block hands to another within one command (the model's own agenda, assumption 3). -/
inductive Ev where
  /-- a waiting claim of the arm has been granted (R75) -/
  | armGrant (a : ArmId)
  /-- a waiting claim of the packer has been granted (R75) -/
  | chamberGrant (c : ChamberId)
  /-- the arm's current step ends as it enters RUNNING, or its kept end is taken (R41, R52) -/
  | stepEnd (a : ArmId)
  /-- the bin decision reaches the arm (R96) -/
  | decision (a : ArmId) (refuses : Bool)
  /-- the end of a weighing window reaches the arm (R113) -/
  | windowEnd (a : ArmId)
  /-- the chamber has become FULL (R132) -/
  | chamberFull (a : ArmId)
  /-- a tip reaches the chamber (R123) -/
  | tip (c : ChamberId)
  /-- a quiet request has been raised or dropped (R108) -/
  | quietChanged (c : ChamberId)
  /-- the chamber tests whether a stroke starts (R124) -/
  | strokeTest (c : ChamberId)
  /-- a role group has come to be given, or ceased to be, and its reader takes it (R30) -/
  | groupRead (r : RoleGroup)
  /-- an update or a change of a role reaches its reader (R29) -/
  | roleRead (r : Role)
  /-- the term of a RUNNING POSITION step is tested (R41) -/
  | positionTest (a : ArmId)
  /-- the end condition and the quiet request are tested at a phase entry (R125) -/
  | phaseTest (c : ChamberId)
  /-- Frame Watch has entered HELD (R156) -/
  | holdEntered
  /-- the hold reaches an arm (R63) -/
  | holdArm (a : ArmId)
  /-- the hold reaches a chamber (R130) -/
  | holdChamber (c : ChamberId)
  /-- port B has entered OFF, and the arm takes it (R61, R67) -/
  | portOff (a : ArmId)
  /-- a lookup that waited on an update is served (R90) -/
  | lookup (w : WaitingLookup)
  /-- WATCH_CONTINUE ends the hold of an arm (R64) -/
  | armHoldEnd (a : ArmId)
  /-- WATCH_CONTINUE ends the hold of a chamber (R130) -/
  | chamberHoldEnd (c : ChamberId)
  /-- SERVICE level was left with the arm held (R64) -/
  | armServiceEnd (a : ArmId)
  /-- SERVICE level was left with the chamber held (R130) -/
  | chamberServiceEnd (c : ChamberId)
  /-- the frame the hold register held is settled (R157): true process, false discard -/
  | settleHeld (process : Bool) (h : HeldFrame)
  /-- a frame won by a BOTH entry and already delivered is forwarded (R18) -/
  | forward (arrival : PortId) (cls : Nat) (f : Frame)
  deriving DecidableEq, Repr

/-! ## The state -/

/-- The whole block. -/
structure State where
  /-- commands waiting, first in, first out -/
  pending : List Instr
  /-- elapsed ms since the reset (R92, R102) -/
  now : Nat
  cfg : ConfigTable
  /-- port C, port B -/
  ports : Duo Port
  routes : List RouteEntry
  signals : List SignalEntry
  terms : List TermEntry
  /-- entry k holds group number k + 1 -/
  groups : List GroupEntry
  clock : Clock
  steps : List StepEntry
  programs : List ProgramEntry
  /-- index arm × 4 + size class -/
  select : List (Option Nat)
  arms : Duo Arm
  arbiter : Arbiter
  valves : Quad ValveGroup
  /-- the 20 ms tick of the Valve Output Unit -/
  valveTimer : Timer
  bins : BinUnit
  cal : Calibration
  weigh : Duo WeighUnit
  chambers : Duo Chamber
  /-- CHB_CMD_BAD of controller 0 -/
  chbCmdBad : Nat
  tariffs : List TariffEntry
  log : LiftLog
  watch : Watch
  mgmt : Management
  /-- the model's own: hand-overs of the command in hand not yet taken (assumption 3) -/
  agenda : List Ev
  /-- the model's own: how many free values have been read (assumptions 5 to 7) -/
  freeCount : Nat
  deriving DecidableEq, Repr

/-- No command of this block faults: every stop of a motion the manual describes is an effect on `State` (an arm or a chamber in
FAULTED), and nothing the manual calls undefined is left. Safe. -/
inductive Fault where
  deriving DecidableEq, Repr

/-- Why a command is not run. -/
inductive Refusal where
  /-- the dispatch has no meaning for the command yet. Safe. -/
  | notModelled (mnemonic : String)
  /-- a meaning was given a term that is no command of the block: a frame of more than 8 data bytes, an index outside its
  table, a row of one request value carrying another value (`Instr.wellFormed` is false). Safe. -/
  | notACommand
  deriving DecidableEq, Repr

/-! ## Cleared and delivered contents -/

def PortCounters.zero (slots : Nat) : PortCounters :=
  { rxOverrun := 0, rxForeign := 0, rxFlushed := 0, miss := 0, txDrop := List.replicate 4 0, txEvict := List.replicate 4 0,
    txFlushed := 0, offDrop := 0, fwdRemoved := 0, fwdDisabled := 0, superseded := List.replicate slots 0,
    passiveCount := 0, activeCount := 0, busoffCount := 0 }

/-- A port unit after power-on or warm reset (Table 1-1). -/
def Port.fresh (rate slots : Nat) : Port :=
  { state := .active, bitRate := rate, fifo := [], queue := [], slots := List.replicate slots none, transmitter := none,
    recovery := .stopped, forwardEnable := true, counters := .zero slots }

/-- A cleared route entry (R14). -/
def RouteEntry.cleared : RouteEntry :=
  { valid := false, source := .portC, matchId := 0, mask := 0, action := .forward, consumer := .signals, gate := 0, cls := 0,
    hits := 0, blocked := 0 }

/-- A cleared signal entry (R21). -/
def SignalEntry.cleared : SignalEntry :=
  { valid := false, source := 0, startBit := 0, width := 1, order := .lsbFirst, isSigned := false, numerator := 1,
    denominator := 1, offset := 0, clampLow := -2147483648, clampHigh := 2147483647, freshnessLimit := 0, holdTime := 0,
    value := none, state := .never, clamped := false, shortFrames := 0, timer := .stopped }

/-- A cleared term (R32). -/
def TermEntry.cleared : TermEntry :=
  { valid := false, signal := 0, comparison := .lt, thresholdA := 0, thresholdB := 0, hysteresis := 0, result := false }

/-- A cleared group (R35). -/
def GroupEntry.cleared : GroupEntry :=
  { valid := false, refs := List.replicate 6 none, trueDelay := 0, state := .isFalse, timer := .stopped }

/-- A cleared step (R40). -/
def StepEntry.cleared : StepEntry :=
  { valid := false, functions := 0, level := 0, ramp := 1, demand := 0, endKind := .time, endParam := 0, timeLimit := 100,
    onTimeout := .fault, loopCount := 0, loopDistance := 1 }

/-- A cleared program (R42). -/
def ProgramEntry.cleared : ProgramEntry := { valid := false, firstStep := 0, stepCount := 1, returnStep := 1 }

/-- A cleared tariff entry (R136). -/
def TariffEntry.cleared : TariffEntry := { rate := 0, liftFee := 0, unweighedFee := 0 }

/-- A cleared watch entry (R152). -/
def WatchEntry.cleared : WatchEntry := { armed := false, id := 0, mask := 0, source := .portC, kind := .mirror, hits := 0 }

/-- The route clock after a reset (R31). -/
def Clock.fresh : Clock := { count := 0, isSet := false, timer := .start Config.secondMs }

/-- An arm sequencer after a reset (R44). -/
def Arm.fresh : Arm :=
  { state := .idle, program := none, position := none, loops := List.replicate 32 0, stepTimer := .stopped,
    durationTimer := .stopped, singleStep := false, refused := false, openRecord := none, prior := none, grantedHeld := false,
    manualGranted := false, lastManualPos := none, fault := .none, refusal := .none, lastTag := none, cmdIgnored := 0,
    cmdBad := 0, keptEnd := false }

/-- The Supply Arbiter after a reset (R71). -/
def Arbiter.fresh (cIdle : Nat) : Arbiter :=
  { capacity := cIdle, grants := { q0 := 0, q1 := 0, q2 := 0, q3 := 0 }, waiting := [], highIdle := .off,
    repeatTimer := .stopped, runDownTimer := .stopped }

/-- A valve group after a reset, before its first frame (R78). -/
def ValveGroup.fresh : ValveGroup :=
  { driving := false, functions := 0, targets := List.replicate 6 0, levels := List.replicate 6 0, ramp := 1, alive := 0,
    sinceFrame := 0 }

/-- The staging entry after a reset (R87). -/
def BinData.zero : BinData := { tag := 0, household := 0, stream := 0, sizeClass := 0, tariff := 0, status := .active }

/-- A decision request in state NONE (R93). -/
def DecisionRequest.empty : DecisionRequest :=
  { state := .none, candidate := none, record := 0, sizeClass := 0, askedAt := 0 }

/-- The Bin Identification Unit after a reset, over the retained entries. -/
def BinUnit.fresh (entries : List BinEntry) : BinUnit :=
  { entries, staging := .zero, update := none, updateTimer := .stopped, waiting := [],
    requests := { fst := .empty, snd := .empty }, tagValid := { fst := 0, snd := 0 }, tagNoRead := { fst := 0, snd := 0 },
    tagShort := { fst := 0, snd := 0 }, closeMissed := 0 }

/-- A Weighing Unit after a reset (R106). -/
def WeighUnit.fresh : WeighUnit :=
  { state := .idle, record := none, window := [], lengthInForce := 0, isOpen := false, disturbed := false,
    gapTimer := .stopped, quiet := false, gross := none, tare := none, live := none, sampleShort := 0, disturbCount := 0,
    gapCount := 0 }

/-- A Compaction Controller after a reset, over its retained counts (R121); pending and load are judged afterwards. R121 gives the
prior state no value, and Table 7-2 says only that it is used in HELD: that it is none, which EXAMINE reads as 0xFFFFFFFF, is the
model's. DESIGN CHOICE (assumption 50). -/
def Chamber.fresh (tipCounter tipsSinceDischarge fill mass : Nat) : Chamber :=
  { state := .idle, phase := .none, phaseTimer := .stopped, quietTimer := .stopped, quieted := false, grantFlag := false,
    operatorFlag := false, pending := false, prior := none, grantedHeld := false, fault := .none, refusal := .none,
    tipCounter, tipsSinceDischarge, fill, mass, load := .normal, cmdIgnored := 0, strokeFaults := 0, dischRefused := 0,
    entered := false }

/-- The page timers before the first send (R167). -/
def PageTimers.fresh : PageTimers := { period := .stopped, spacing := .stopped, mark := false }

/-- The Management Unit after a reset, before its first pages. -/
def Management.fresh : Management :=
  { inProgress := none, service := false, resetDue := false, pages := List.replicate 4 .fresh,
    noted := List.replicate 4 [] }

/-- Calibration as delivered (R103, R104). -/
def ArmCalibration.delivered : ArmCalibration :=
  { zero := 0, gain := 65536, capacityKg := 1, tiltLimit := 0, windowLength := 8, settleBand := 1 }

def Calibration.delivered : Calibration :=
  { arms := { fst := .delivered, snd := .delivered }, division := 10, tiltFactors := List.replicate 16 65536,
    unlocked := false, counter := 0 }

/-- Arm settings as delivered (R166). -/
def ArmSettings.delivered : ArmSettings :=
  { fa := 1, fb := 1, manualMax := 0, manualRamp := 1, manualDemand := 0, tipThreshold := 0 }

/-- Chamber settings as delivered (Table 7-1, R166). -/
def ChamberSettings.delivered : ChamberSettings :=
  { sweepFns := 0, packFns := 0, returnFns := 0, sweepLevel := 0, packLevel := 0, returnLevel := 0, ramp := 1,
    sweepLimit := 100, packLimit := 100, returnLimit := 100, sweepEnd := 0, packPressure := 1, endBand := 0, homeBand := 0,
    strokeDemand := 0, autoPack := 1, quietLimit := 2000, fillWarn := 850, fillFull := 950, massWarn := 1, massFull := 1 }

/-- The Config Table as delivered (R166): each stated default, else 0 where 0 lies in the range, else the lowest value. -/
def ConfigTable.delivered : ConfigTable :=
  { bitRate := { fst := 250, snd := 250 }, miss := { fst := .forward, snd := .forward }, mreqBase := 0, mrepBase := 0,
    statBase := 0, vcmdBase := 0, wmirId := 0, hidleId := 0, tagOffset := 0, lcOffset := 0,
    roles := List.replicate 16 (some 0), roleGroups := List.replicate 10 0, cIdle := 1, cBoost := 1, boostThreshold := 0,
    arms := { fst := .delivered, snd := .delivered }, tagWindow := 500, reliftWindow := 0, unknownPolicy := .continueCycle,
    noTagPolicy := .continueCycle, chambers := { fst := .delivered, snd := .delivered },
    dither := { q0 := 100, q1 := 100, q2 := 100, q3 := 100 }, reserve := 16 }

/-- The retained state as delivered, with the volatile state at its reset values but nothing yet placed or sent. Tables whose
delivered contents the manual does not state are cleared (DESIGN CHOICE, assumption 4). -/
def State.delivered : State :=
  { pending := [], now := 0, cfg := .delivered, ports := { fst := .fresh 250 1, snd := .fresh 250 4 },
    routes := List.replicate 96 .cleared, signals := List.replicate 64 .cleared, terms := List.replicate 64 .cleared,
    groups := List.replicate 32 .cleared, clock := .fresh, steps := List.replicate 192 .cleared,
    programs := List.replicate 16 .cleared, select := List.replicate 8 none, arms := { fst := .fresh, snd := .fresh },
    arbiter := .fresh 1, valves := { q0 := .fresh, q1 := .fresh, q2 := .fresh, q3 := .fresh }, valveTimer := .start Config.tickMs,
    bins := .fresh [], cal := .delivered, weigh := { fst := .fresh, snd := .fresh },
    chambers := { fst := .fresh 0 0 0 0, snd := .fresh 0 0 0 0 }, chbCmdBad := 0, tariffs := List.replicate 32 .cleared,
    log := { records := [], nextSeq := 1, pointer := 0, manualTipLost := 0 },
    watch := { entries := List.replicate 8 .cleared, isHeld := false, holdEntry := none, register := none, reportCount := 0,
               holdIgnored := 0, heldDropped := 0, heldDiscarded := 0 },
    mgmt := .fresh, agenda := [], freeCount := 0 }

/-! ## Reset -/

/-- The first valve command frame of a group: levels 0, alive counter 0 and P of the delivered 100 Hz (R83, R84). -/
def firstValveFrame (g : Nat) : Frame := { id := BitVec.ofNat 29 g, data := [0, 0, 0, 0, 0, 0, 0, 255] }

/-- A status page as it stands in port B's queue (R167). -/
def statusFrame (page : Nat) (data : List Byte) : QFrame :=
  { frame := { id := BitVec.ofNat 29 page, data }, cls := 2, origin := .status, ofReset := false }

/-- The block right after power-on as delivered with the metrology jumper inactive (R104): every group has placed its first
frame (R78), of which port B's transmitter has taken group 0's (R10), and the four status pages have been sent (R167). -/
def State.reset : State :=
  { State.delivered with
    ports :=
      { fst := .fresh 250 1,
        snd := { Port.fresh 250 4 with
          slots := [none, some (firstValveFrame 1), some (firstValveFrame 2), some (firstValveFrame 3)],
          transmitter := some (.fromSlot 0 (firstValveFrame 0)),
          queue := [statusFrame 0 [0, 0, 0, 0, 0, 0, 0, 0], statusFrame 1 [0, 0, 0, 0, 0, 0, 0, 0],
                    statusFrame 2 [8, 0, 0, 0, 0, 0, 0, 255], statusFrame 3 [48, 0, 0, 0, 0, 0, 0, 0]] } },
    valves :=
      { q0 := { ValveGroup.fresh with alive := 1 }, q1 := { ValveGroup.fresh with alive := 1 },
        q2 := { ValveGroup.fresh with alive := 1 }, q3 := { ValveGroup.fresh with alive := 1 } },
    mgmt := { Management.fresh with
      pages := List.replicate 4
        { period := .start Config.periodMs, spacing := .start Config.spacingMs, mark := false },
      noted := [[0, 0, 0, 0, 0, 0, 0, 0], [0, 0, 0, 0, 0, 0, 0, 0], [8, 0, 0, 0, 0, 0, 0, 255],
                [48, 0, 0, 0, 0, 0, 0, 0]] } }

end Sys2Proof.Machine
end

