-- ==== Sys2Proof/Machine/Ops.lean ====
section
/-! DEFINITION. Arithmetic the manual fixes once (rounding, holding to a range, saturating counts, byte order) and the one
accessor of each part of `State` that the block files read and write through. -/

namespace Sys2Proof

open Machine

/-! ## Operands of commands: indices of the two ports, arms and chambers -/

/-- Frame byte `i`, 0 where absent. -/
def Frame.byte (f : Frame) (i : Nat) : Byte := f.data.getD i 0

/-- Data length. -/
def Frame.dlc (f : Frame) : Nat := f.data.length

def PortId.second : PortId → Bool
  | .portC => false
  | .portB => true

def PortId.other : PortId → PortId
  | .portC => .portB
  | .portB => .portC

def ArmId.second : ArmId → Bool
  | .armA => false
  | .armB => true

def ChamberId.second : ChamberId → Bool
  | .chamber0 => false
  | .chamber1 => true

/-- Arm A feeds chamber 0, arm B chamber 1. -/
def ArmId.chamber : ArmId → ChamberId
  | .armA => .chamber0
  | .armB => .chamber1

def ChamberId.arm : ChamberId → ArmId
  | .chamber0 => .armA
  | .chamber1 => .armB

def ArmId.consumer : ArmId → Consumer
  | .armA => .armA
  | .armB => .armB

def ChamberId.consumer : ChamberId → Consumer
  | .chamber0 => .packer0
  | .chamber1 => .packer1

/-- The number of a consumer and of its valve group (Table 4-2). -/
def Consumer.number : Consumer → Nat
  | .armA => 0
  | .armB => 1
  | .packer0 => 2
  | .packer1 => 3

/-- The number of a chamber; also the stream of the arm that feeds it (R94). -/
def ChamberId.number : ChamberId → Nat
  | .chamber0 => 0
  | .chamber1 => 1

def ArmId.posRole : ArmId → Role
  | .armA => .armAPos
  | .armB => .armBPos

def ArmId.joyRole : ArmId → Role
  | .armA => .joyA
  | .armB => .joyB

def ArmId.liftPermit : ArmId → RoleGroup
  | .armA => .liftPermitA
  | .armB => .liftPermitB

def ArmId.runGuard : ArmId → RoleGroup
  | .armA => .runGuardA
  | .armB => .runGuardB

def ArmId.manualPermit : ArmId → RoleGroup
  | .armA => .manualPermitA
  | .armB => .manualPermitB

def ChamberId.bladeRole : ChamberId → Role
  | .chamber0 => .blade0
  | .chamber1 => .blade1

def ChamberId.pressRole : ChamberId → Role
  | .chamber0 => .press0
  | .chamber1 => .press1

def ChamberId.packPermit : ChamberId → RoleGroup
  | .chamber0 => .packPermit0
  | .chamber1 => .packPermit1

def ChamberId.dischargePermit : ChamberId → RoleGroup
  | .chamber0 => .dischargePermit0
  | .chamber1 => .dischargePermit1

end Sys2Proof

namespace Sys2Proof.Machine

/-! ## Arithmetic -/

/-- round(x / y) for y > 0: nearest, a half away from zero (00_scope.md section 4.3). -/
def roundDiv (x y : Int) : Int :=
  if 0 ≤ x then (2 * x + y) / (2 * y) else -((2 * (-x) + y) / (2 * y))

/-- Hold a value to a range. -/
def holdTo (low high x : Int) : Int := if x < low then low else if high < x then high else x

/-- One more on a 16-bit counter that saturates (R12). -/
def satInc (n : Nat) : Nat := min (n + 1) Config.counterMax

/-- `k` more on a 16-bit counter that saturates. -/
def satAdd (n k : Nat) : Nat := min (n + k) Config.counterMax

/-- One more on entry `i` of a list of saturating counters. -/
def bumpAt (l : List Nat) (i : Nat) : List Nat := l.modify i satInc

/-- Bytes joined with the first as the most significant. -/
def joinMsb (bytes : List Byte) : Nat := bytes.foldl (fun v b => v * 256 + b.toNat) 0

/-- Bytes joined with the first as the least significant. -/
def joinLsb (bytes : List Byte) : Nat := joinMsb bytes.reverse

/-- The `k` low bytes of `n`, most significant first. -/
def splitMsb : Nat → Nat → List Byte
  | 0, _ => []
  | k + 1, n => BitVec.ofNat 8 (n / 256 ^ k) :: splitMsb k n

/-- A field of `width` bits read as two's complement. -/
def twosComplement (width raw : Nat) : Int :=
  if width = 0 then 0 else if 2 ^ (width - 1) ≤ raw then (raw : Int) - 2 ^ width else raw

/-- A count or code as a management word. -/
def wordOf (n : Nat) : Word := BitVec.ofNat 32 n

/-- A signed value as a management word. -/
def wordOfInt (x : Int) : Word := BitVec.ofInt 32 x

/-- A flag as a management word: 1 set, 0 clear. -/
def wordOfFlag (b : Bool) : Word := if b then 1 else 0

/-- The all-ones word: none, empty, unbound, NONE of the Select Table (R161, section 10.5). -/
def allOnes : Word := BitVec.ofNat 32 4294967295

/-- A number or none as a management word. -/
def wordOfOption : Option Nat → Word
  | some n => wordOf n
  | none => allOnes

/-! ## Indexing -/

def Duo.at {α : Type} (d : Duo α) : Bool → α
  | false => d.fst
  | true => d.snd

def Duo.put {α : Type} (d : Duo α) (second : Bool) (x : α) : Duo α :=
  match second with
  | false => { d with fst := x }
  | true => { d with snd := x }

def Quad.at {α : Type} (d : Quad α) : Consumer → α
  | .armA => d.q0
  | .armB => d.q1
  | .packer0 => d.q2
  | .packer1 => d.q3

def Quad.put {α : Type} (d : Quad α) (c : Consumer) (x : α) : Quad α :=
  match c with
  | .armA => { d with q0 := x }
  | .armB => { d with q1 := x }
  | .packer0 => { d with q2 := x }
  | .packer1 => { d with q3 := x }

/-- The sum of the four grants (Table 4-1: the held total). -/
def Quad.total (d : Quad Nat) : Nat := d.q0 + d.q1 + d.q2 + d.q3

def Role.index : Role → Nat
  | .parkBrake => 0 | .vehicleSpeed => 1 | .engineSpeed => 2 | .tilt => 3 | .routeTime => 4 | .latitude => 5
  | .longitude => 6 | .armAPos => 7 | .armBPos => 8 | .blade0 => 9 | .blade1 => 10 | .press0 => 11 | .press1 => 12
  | .joyA => 13 | .joyB => 14 | .serviceSwitch => 15

def RoleGroup.index : RoleGroup → Nat
  | .liftPermitA => 0 | .liftPermitB => 1 | .runGuardA => 2 | .runGuardB => 3 | .manualPermitA => 4 | .manualPermitB => 5
  | .packPermit0 => 6 | .packPermit1 => 7 | .dischargePermit0 => 8 | .dischargePermit1 => 9

/-! ## The parts of the state -/

def State.port (s : State) (p : PortId) : Port := s.ports.at p.second
def State.setPort (s : State) (p : PortId) (x : Port) : State := { s with ports := s.ports.put p.second x }
def State.arm (s : State) (a : ArmId) : Arm := s.arms.at a.second
def State.setArm (s : State) (a : ArmId) (x : Arm) : State := { s with arms := s.arms.put a.second x }
def State.chamber (s : State) (c : ChamberId) : Chamber := s.chambers.at c.second
def State.setChamber (s : State) (c : ChamberId) (x : Chamber) : State := { s with chambers := s.chambers.put c.second x }
def State.weighUnit (s : State) (a : ArmId) : WeighUnit := s.weigh.at a.second
def State.setWeighUnit (s : State) (a : ArmId) (x : WeighUnit) : State := { s with weigh := s.weigh.put a.second x }
def State.valve (s : State) (c : Consumer) : ValveGroup := s.valves.at c
def State.setValve (s : State) (c : Consumer) (x : ValveGroup) : State := { s with valves := s.valves.put c x }
def State.setBins (s : State) (x : BinUnit) : State := { s with bins := x }
def State.setLog (s : State) (x : LiftLog) : State := { s with log := x }
def State.setWatch (s : State) (x : Watch) : State := { s with watch := x }
def State.setMgmt (s : State) (x : Management) : State := { s with mgmt := x }
def State.setArbiter (s : State) (x : Arbiter) : State := { s with arbiter := x }
def State.armCal (s : State) (a : ArmId) : ArmCalibration := s.cal.arms.at a.second
def State.armSettings (s : State) (a : ArmId) : ArmSettings := s.cfg.arms.at a.second
def State.chamberSettings (s : State) (c : ChamberId) : ChamberSettings := s.cfg.chambers.at c.second

/-- Hand an event to another block: it is taken after those that the act in hand has handed on before it, and before anything that
waited already when the act was taken (`drain`). -/
def State.post (s : State) (e : Ev) : State := { s with agenda := s.agenda ++ [e] }

/-- Hand on several events in order. -/
def State.postAll (s : State) (es : List Ev) : State := { s with agenda := s.agenda ++ es }

/-- What is taken next stands before everything but an entry to HELD, which is handed on at once (R156). -/
def nextIn (e : Ev) : List Ev → List Ev
  | .holdEntered :: r => .holdEntered :: e :: r
  | l => e :: l

/-- What is taken as soon as the act in hand is done: a block's own continuation of it, or a decision (R96). -/
def State.postNext (s : State) (e : Ev) : State := { s with agenda := nextIn e s.agenda }

/-- Hand on several events in order, before everything already waiting. -/
def State.postFirst (s : State) (es : List Ev) : State := { s with agenda := es ++ s.agenda }

/-! ## Free choices (assumption 6) -/

/-- A free choice among `n` things, with the count of free values moved on. -/
def State.freePick (s : State) (n : Nat) : State × Nat :=
  ({ s with freeCount := s.freeCount + 1 }, Config.freeChoice s.freeCount % n)

/-- The free choice for two events of which either may be taken first. -/
def State.eitherFirst (s : State) : State × Bool :=
  match s.freePick 2 with
  | (s, i) => (s, i == 0)

/-- A list in a free order: each time a free choice picks the next of those left; `n` counts the rounds. -/
def State.permuted {α : Type} : Nat → List α → State → State × List α
  | 0, l, s => (s, l)
  | n + 1, l, s =>
    match l with
    | [] => (s, [])
    | [x] => (s, [x])
    | x :: r =>
      match s.freePick (x :: r).length with
      | (s, i) =>
        match State.permuted n ((x :: r).eraseIdx i) s with
        | (s, t) => (s, (x :: r).getD i x :: t)

/-- A list in a free order. -/
def State.inAnyOrder {α : Type} (s : State) (l : List α) : State × List α := State.permuted l.length l s

/-- `x` at a free place in a list. -/
def State.putAnywhere {α : Type} (s : State) (x : α) (l : List α) : State × List α :=
  match l with
  | [] => (s, [x])
  | y :: r =>
    match s.freePick ((y :: r).length + 1) with
    | (s, i) => (s, (y :: r).take i ++ x :: (y :: r).drop i)

/-- Hand on several events of which any may be taken first. -/
def State.postAnyOrder (s : State) (es : List Ev) : State :=
  match s.inAnyOrder es with
  | (s, l) => s.postAll l

/-- A status page counts as changed by an event that need not change its contents (R46): what was noted of it is dropped. -/
def State.touchPage (s : State) (page : Nat) : State :=
  s.setMgmt { s.mgmt with noted := s.mgmt.noted.set page [] }

/-- The reply of the RESET in progress has left port B, or is lost: the warm reset is due (R164). -/
def State.resetReplyLeft (s : State) : State := s.setMgmt { s.mgmt with resetDue := true }

end Sys2Proof.Machine
end

