-- ==== Sys2Proof/Machine/Flags.lean ====
section
/-! DEFINITION. The flags of a Lift Log record (Table 6-4, Table 10-7): joining, the bar to billing by weight, their places in
word 6, and the check word of a record. -/

namespace Sys2Proof.Machine

/-- Flags once set stay set: two flag sets joined (R120, R141). -/
def RecFlags.join (f g : RecFlags) : RecFlags :=
  { gUnsettled := f.gUnsettled || g.gUnsettled, tUnsettled := f.tUnsettled || g.tUnsettled, gTilt := f.gTilt || g.gTilt,
    tTilt := f.tTilt || g.tTilt, tiltLost := f.tiltLost || g.tiltLost, overrange := f.overrange || g.overrange,
    belowMin := f.belowMin || g.belowMin, negative := f.negative || g.negative, noGross := f.noGross || g.noGross,
    noTare := f.noTare || g.noTare, lockOpen := f.lockOpen || g.lockOpen, disturbed := f.disturbed || g.disturbed,
    loadcellLost := f.loadcellLost || g.loadcellLost, tipped := f.tipped || g.tipped,
    sizeMismatch := f.sizeMismatch || g.sizeMismatch, timeUnset := f.timeUnset || g.timeUnset,
    posAbsent := f.posAbsent || g.posAbsent }

/-- A record is billable by weight when it carries none of the barring flags (R119). -/
def RecFlags.billableByWeight (f : RecFlags) : Bool :=
  !(f.gUnsettled || f.tUnsettled || f.gTilt || f.tTilt || f.tiltLost || f.overrange || f.belowMin || f.negative ||
    f.noGross || f.noTare || f.lockOpen)

/-- The flags in the order of Table 10-7, from bit 14 of word 6. -/
def RecFlags.toList (f : RecFlags) : List Bool :=
  [f.gUnsettled, f.tUnsettled, f.gTilt, f.tTilt, f.tiltLost, f.overrange, f.belowMin, f.negative, f.noGross, f.noTare,
   f.lockOpen, f.disturbed, f.loadcellLost, f.tipped, f.sizeMismatch, f.timeUnset, f.posAbsent]

/-- A list of bits as a number, the first the least significant. -/
def bitsValue : List Bool → Nat
  | [] => 0
  | b :: r => (if b then 1 else 0) + 2 * bitsValue r

/-- The flags at their places in word 6: bits 14 to 30 (Table 10-7). -/
def RecFlags.bits (f : RecFlags) : Nat := bitsValue f.toList * 2 ^ 14

def RecordKind.code : RecordKind → Nat
  | .lift => 0 | .manualTip => 1 | .discharge => 2

def CycleOutcome.code : CycleOutcome → Nat
  | .none => 0 | .completed => 1 | .refused => 2 | .aborted => 3 | .faulted => 4 | .interrupted => 5

def Decision.code : Decision → Nat
  | .none => 0 | .accept => 1 | .relift => 2 | .refuseBlocked => 3 | .refuseStream => 4 | .unknown => 5
  | .refuseUnknown => 6 | .noTag => 7 | .refuseNoTag => 8

/-- A decision that refuses the bin (Table 5-2). -/
def Decision.refuses : Decision → Bool
  | .refuseBlocked | .refuseStream | .refuseUnknown | .refuseNoTag => true
  | .none | .accept | .relift | .unknown | .noTag => false

/-- Word 1 of a record (Table 10-7). -/
def LogRecord.word1 (r : LogRecord) : Nat :=
  r.kind.code + (if r.closed then 4 else 0) + r.outcome.code * 2 ^ 3 + (if r.second then 2 ^ 6 else 0) +
    r.sizeClass * 2 ^ 7 + r.stream * 2 ^ 9 + r.tariff * 2 ^ 10 + r.decision.code * 2 ^ 14

/-- Word `w` of a record, 0 to 10, as Tables 8-3 and 10-7 lay it out. -/
def LogRecord.word (r : LogRecord) (w : Nat) : Word :=
  match w with
  | 0 => wordOf r.seq
  | 1 => wordOf r.word1
  | 2 => wordOf r.tag
  | 3 => wordOf r.household
  | 4 => if r.kind = .discharge then wordOf r.mass else wordOfInt (r.gross.getD 0)
  | 5 => if r.kind = .discharge then wordOf r.tips else wordOfInt (r.tare.getD 0)
  | 6 => wordOf ((if r.kind = .discharge then r.fill else r.nDiv.getD 0) + r.flags.bits)
  | 7 => wordOf r.charge
  | 8 => wordOf r.time
  | 9 => wordOfInt r.latitude
  | 10 => wordOfInt r.longitude
  | _ => wordOf (r.calCounter * 2 ^ 16 + r.check.toNat)

/-- One bit into the CRC register: generator polynomial 0x1021, no reflection (R145). -/
def crcBit (crc : BitVec 16) (b : Bool) : BitVec 16 :=
  if crc.msb != b then (crc <<< 1) ^^^ 0x1021 else crc <<< 1

/-- The bits of a byte, most significant first. -/
def byteBits (b : Byte) : List Bool :=
  [b.getLsbD 7, b.getLsbD 6, b.getLsbD 5, b.getLsbD 4, b.getLsbD 3, b.getLsbD 2, b.getLsbD 1, b.getLsbD 0]

/-- The CRC-16 of R145 over a list of bytes, preset to 0xFFFF, without final inversion. -/
def crc16 (bytes : List Byte) : BitVec 16 :=
  bytes.foldl (fun crc b => (byteBits b).foldl crcBit crc) 0xFFFF

/-- The 46 bytes the check word covers (R145). -/
def LogRecord.checkedBytes (r : LogRecord) : List Byte :=
  ((List.range 11).map (fun w => splitMsb 4 (r.word w).toNat)).flatten ++ splitMsb 2 r.calCounter

/-- The check word worked afresh from the record's words (R145). -/
def LogRecord.checkWord (r : LogRecord) : BitVec 16 := crc16 r.checkedBytes

/-- The record with its check word entered in word 11. -/
def LogRecord.sealed (r : LogRecord) : LogRecord := { r with check := r.checkWord }

end Sys2Proof.Machine
end

