-- ==== Sys2Proof/Machine/Operands.lean ====
section
/-! DEFINITION. The codes of enumerated values and the fields of request, operator, tag and sample frames (section 10.5,
R45, R92, R102, R122). Each enumeration is coded from 0 in the order its chapter lists the values (section 10.3). -/

namespace Sys2Proof

/-! ## Fields of a request (Table 10-6) -/

def Request.table (q : Request) : Nat := q.tableWord.toNat / 16
def Request.word (q : Request) : Nat := q.tableWord.toNat % 16
def Request.indexN (q : Request) : Nat := q.index.toNat
/-- The value read as an unsigned number. -/
def Request.valueN (q : Request) : Nat := q.value.toNat
/-- The value read as a signed number. -/
def Request.valueI (q : Request) : Int := q.value.toInt

end Sys2Proof

namespace Sys2Proof.Machine

def PortState.code : PortState → Nat
  | .active => 0 | .passive => 1 | .off => 2

def RouteSource.code : RouteSource → Nat
  | .portC => 0 | .portB => 1 | .any => 2
def RouteSource.ofCode : Nat → Option RouteSource
  | 0 => some .portC | 1 => some .portB | 2 => some .any | _ => none

def RouteAction.code : RouteAction → Nat
  | .forward => 0 | .consume => 1 | .both => 2 | .drop => 3
def RouteAction.ofCode : Nat → Option RouteAction
  | 0 => some .forward | 1 => some .consume | 2 => some .both | 3 => some .drop | _ => none

def RouteConsumer.code : RouteConsumer → Nat
  | .signals => 0 | .armA => 1 | .armB => 2 | .tagA => 3 | .tagB => 4 | .weighA => 5 | .weighB => 6 | .chamber => 7
def RouteConsumer.ofCode : Nat → Option RouteConsumer
  | 0 => some .signals | 1 => some .armA | 2 => some .armB | 3 => some .tagA | 4 => some .tagB | 5 => some .weighA
  | 6 => some .weighB | 7 => some .chamber | _ => none

def ByteOrder.code : ByteOrder → Nat
  | .lsbFirst => 0 | .msbFirst => 1
def ByteOrder.ofCode : Nat → Option ByteOrder
  | 0 => some .lsbFirst | 1 => some .msbFirst | _ => none

def SignalState.code : SignalState → Nat
  | .never => 0 | .fresh => 1 | .held => 2 | .lost => 3

def Comparison.code : Comparison → Nat
  | .lt => 0 | .le => 1 | .eq => 2 | .ne => 3 | .ge => 4 | .gt => 5 | .inBand => 6 | .bitSet => 7
def Comparison.ofCode : Nat → Option Comparison
  | 0 => some .lt | 1 => some .le | 2 => some .eq | 3 => some .ne | 4 => some .ge | 5 => some .gt | 6 => some .inBand
  | 7 => some .bitSet | _ => none

/-- DEDUCED (assumption 11): Table 2-5 lists TRUE, FALSE in that order. -/
def termResultCode (b : Bool) : Nat := if b then 0 else 1

def GroupState.code : GroupState → Nat
  | .isFalse => 0 | .pending => 1 | .isTrue => 2

/-- DEDUCED (assumption 11): R31 lists SET, UNSET in that order. -/
def clockFlagCode (isSet : Bool) : Nat := if isSet then 0 else 1

/-- DEDUCED (assumption 11): Table 4-3 lists DRIVING, STOPPED in that order. -/
def driveCode (driving : Bool) : Nat := if driving then 0 else 1

/-- DEDUCED (assumption 11): Table 6-1 lists LOCKED, UNLOCKED in that order. -/
def lockCode (unlocked : Bool) : Nat := if unlocked then 1 else 0

def EndKind.code : EndKind → Nat
  | .position => 0 | .time => 1 | .tag => 2 | .weighGross => 3 | .weighTare => 4 | .tipMark => 5
def EndKind.ofCode : Nat → Option EndKind
  | 0 => some .position | 1 => some .time | 2 => some .tag | 3 => some .weighGross | 4 => some .weighTare
  | 5 => some .tipMark | _ => none

def TimeoutAction.code : TimeoutAction → Nat
  | .fault => 0 | .next => 1
def TimeoutAction.ofCode : Nat → Option TimeoutAction
  | 0 => some .fault | 1 => some .next | _ => none

def ArmState.code : ArmState → Nat
  | .idle => 0 | .waitSupply => 1 | .running => 2 | .suspended => 3 | .paused => 4 | .held => 5 | .manual => 6 | .faulted => 7

def ArmFault.code : ArmFault → Nat
  | .none => 0 | .stepTimeout => 1 | .positionLost => 2 | .bodyPortOff => 3

def ArmRefusal.code : ArmRefusal → Nat
  | .none => 0 | .programInvalid => 1 | .noPermit => 2 | .logReserve => 3 | .chamberFull => 4

def HighIdle.code : HighIdle → Nat
  | .off => 0 | .on => 1 | .runDown => 2

def BinStatus.code : BinStatus → Nat
  | .active => 0 | .blocked => 1
def BinStatus.ofCode : Nat → Option BinStatus
  | 0 => some .active | 1 => some .blocked | _ => none

def LastLift.code : LastLift → Nat
  | .absent => 0 | .set => 1 | .unset => 2

def RequestState.code : RequestState → Nat
  | .none => 0 | .waitRead => 1 | .waitLookup => 2

def WeighState.code : WeighState → Nat
  | .idle => 0 | .collectGross => 1 | .grossDone => 2 | .collectTare => 3 | .done => 4

def ChamberState.code : ChamberState → Nat
  | .idle => 0 | .waitSupply => 1 | .sweep => 2 | .pack => 3 | .ret => 4 | .quiet => 5 | .suspended => 6 | .held => 7
  | .faulted => 8

def StrokePhase.code : StrokePhase → Nat
  | .none => 0 | .sweep => 1 | .pack => 2 | .ret => 3

def ChamberFault.code : ChamberFault → Nat
  | .none => 0 | .strokeTimeout => 1

def DischargeRefusal.code : DischargeRefusal → Nat
  | .none => 0 | .notIdle => 1 | .noPermit => 2 | .armInCycle => 3 | .logFull => 4

def LoadState.code : LoadState → Nat
  | .normal => 0 | .warn => 1 | .full => 2

def WatchSource.code : WatchSource → Nat
  | .portC => 0 | .portB => 1 | .any => 2 | .own => 3
def WatchSource.ofCode : Nat → Option WatchSource
  | 0 => some .portC | 1 => some .portB | 2 => some .any | 3 => some .own | _ => none

def WatchKind.code : WatchKind → Nat
  | .mirror => 0 | .holdAfter => 1 | .holdBefore => 2
def WatchKind.ofCode : Nat → Option WatchKind
  | 0 => some .mirror | 1 => some .holdAfter | 2 => some .holdBefore | _ => none

def MissAction.code : MissAction → Nat
  | .forward => 0 | .drop => 1
def MissAction.ofCode : Nat → Option MissAction
  | 0 => some .forward | 1 => some .drop | _ => none

def Policy.code : Policy → Nat
  | .continueCycle => 0 | .refuse => 1
def Policy.ofCode : Nat → Option Policy
  | 0 => some .continueCycle | 1 => some .refuse | _ => none

/-- A flag word: 1 set, 0 clear, anything else outside its values (assumption 12). -/
def flagOfCode : Nat → Option Bool
  | 0 => some false | 1 => some true | _ => none

/-- The operation code of Table 10-3. -/
def MgmtOp.code : MgmtOp → Nat
  | .identify => 1 | .examine => 2 | .deposit => 3 | .insert => 4 | .remove => 5 | .release => 6 | .day => 7 | .step => 8
  | .watchContinue => 9 | .lock => 10 | .reset => 11 | .clear => 12 | .port => 13
def MgmtOp.ofCode : Nat → Option MgmtOp
  | 1 => some .identify | 2 => some .examine | 3 => some .deposit | 4 => some .insert | 5 => some .remove
  | 6 => some .release | 7 => some .day | 8 => some .step | 9 => some .watchContinue | 10 => some .lock | 11 => some .reset
  | 12 => some .clear | 13 => some .port | _ => none

/-! ## Requests (Table 10-6) -/

/-- The request fields of a frame of node `node`, bytes that are absent taken as 0 (R160). -/
def requestOf (node : BitVec 4) (f : Frame) : Request :=
  { node, tableWord := f.byte 1, index := BitVec.ofNat 16 (joinMsb [f.byte 2, f.byte 3]),
    value := BitVec.ofNat 32 (joinMsb [f.byte 4, f.byte 5, f.byte 6, f.byte 7]) }

/-- The statuses of a reply, in the order of R161. -/
def statusOk : Nat := 0
def statusOkClamped : Nat := 1
def statusBusy : Nat := 2
def statusNoSuch : Nat := 3
def statusLevel : Nat := 4
def statusLive : Nat := 5
def statusRange : Nat := 6
def statusFull : Nat := 7

/-! ## Tag and sample frames -/

/-- The tag of a tag frame: four bytes from TAG_OFFSET, most significant first (R92). -/
def tagOf (offset : Nat) (f : Frame) : Nat :=
  joinMsb [f.byte offset, f.byte (offset + 1), f.byte (offset + 2), f.byte (offset + 3)]

/-- The read quality: the byte after the tag (R92). -/
def qualityOf (offset : Nat) (f : Frame) : Byte := f.byte (offset + 4)

/-- The count of a sample frame: three bytes from LC_OFFSET, two's complement (R102). -/
def sampleOf (offset : Nat) (f : Frame) : Int :=
  twosComplement 24 (joinMsb [f.byte offset, f.byte (offset + 1), f.byte (offset + 2)])

end Sys2Proof.Machine
end

