-- ==== Sys2Proof/Machine/Ports.lean ====
section
/-! DEFINITION. The port units (chapter 1): receive FIFO, transmit queue, command slots, transmitter, forward enable, port state
and restart. Operations on one `Port` answer the queued frames they lose, so that a lost RESET reply is seen (R164). -/

namespace Sys2Proof.Machine

/-! ## Receiving (R1, R2) -/

/-- What the bus brings while the port is not OFF. -/
def Port.receive (x : Port) (f : BusFrame) : Port :=
  if x.state = .off then x
  else
    match f with
    | .foreign => { x with counters := { x.counters with rxForeign := satInc x.counters.rxForeign } }
    | .extended f =>
      if x.fifo.length < Config.fifoCapacity then { x with fifo := x.fifo ++ [f] }
      else { x with counters := { x.counters with rxOverrun := satInc x.counters.rxOverrun } }

/-! ## Transmitting (R6, R7, R9, R10) -/

/-- The lowest-numbered slot with a pending frame, from slot `n` on. -/
def firstPending (n : Nat) : List (Option Frame) → Option (Nat × Frame)
  | [] => none
  | none :: r => firstPending (n + 1) r
  | some f :: _ => some (n, f)

/-- A free transmitter of a port not OFF makes its choice: slots first, then the head of the queue (R10). -/
def Port.choose (x : Port) : Port :=
  if x.state = .off then x
  else
    match x.transmitter with
    | some _ => x
    | none =>
      match firstPending 0 x.slots with
      | some (n, f) => { x with slots := x.slots.set n none, transmitter := some (.fromSlot n f) }
      | none =>
        match x.queue with
        | q :: r => { x with queue := r, transmitter := some (.fromQueue q) }
        | [] => x

/-- Behind every frame of the same or a lower class, before every frame of a greater class (R6). -/
def joinQueue (q : QFrame) (l : List QFrame) : List QFrame :=
  l.takeWhile (fun e => e.cls ≤ q.cls) ++ q :: l.dropWhile (fun e => e.cls ≤ q.cls)

/-- Offer a frame to the transmit queue (R4, R6, R7): the port afterwards, and the frames lost. The queue is kept in order of
leaving, so the newest frame of the greatest class is the last. -/
def Port.offerQueue (x : Port) (q : QFrame) : Port × List QFrame :=
  if x.state = .off then
    ({ x with counters := { x.counters with offDrop := satInc x.counters.offDrop } }, [q])
  else if x.queue.length < Config.queueCapacity then
    (Port.choose { x with queue := joinQueue q x.queue }, [])
  else
    match x.queue.getLast? with
    | some v =>
      if q.cls < v.cls then
        (Port.choose { x with queue := joinQueue q x.queue.dropLast,
                              counters := { x.counters with txEvict := bumpAt x.counters.txEvict v.cls } }, [v])
      else ({ x with counters := { x.counters with txDrop := bumpAt x.counters.txDrop q.cls } }, [q])
    | none => ({ x with counters := { x.counters with txDrop := bumpAt x.counters.txDrop q.cls } }, [q])

/-- Offer a frame to command slot `n` (R9). -/
def Port.offerSlot (x : Port) (n : Nat) (f : Frame) : Port :=
  let counters :=
    match x.slots[n]? with
    | some (some _) => { x.counters with superseded := bumpAt x.counters.superseded n }
    | _ => x.counters
  Port.choose { x with slots := x.slots.set n (some f), counters }

/-- The queued frame a transmitter is sending, if it sends one from the queue. -/
def Port.sendingQueued (x : Port) : List QFrame :=
  match x.transmitter with
  | some (.fromQueue q) => [q]
  | _ => []

/-- The frame has been sent and acknowledged (R10): the port afterwards, and the queued frame that left. -/
def Port.sent (x : Port) : Port × List QFrame :=
  match x.transmitter with
  | none => (x, [])
  | some _ => (Port.choose { x with transmitter := none }, x.sendingQueued)

/-! ## Port state (R3, R4, R5) -/

/-- How many frames a flush of queue and transmission discards. -/
def Port.unsent (x : Port) : Nat := x.queue.length + (if x.transmitter.isSome then 1 else 0)

/-- A report of error passive (R3). -/
def Port.toPassive (x : Port) : Port :=
  if x.state = .active then
    { x with state := .passive, counters := { x.counters with passiveCount := satInc x.counters.passiveCount } }
  else x

/-- A report of the return to active operation (R3). -/
def Port.toActive (x : Port) : Port :=
  if x.state = .passive then
    { x with state := .active, counters := { x.counters with activeCount := satInc x.counters.activeCount } }
  else x

/-- Entry to OFF (R4): the port afterwards, and the frames lost. -/
def Port.toOff (x : Port) : Port × List QFrame :=
  ({ x with state := .off, queue := [], transmitter := none, recovery := .start Config.recoveryMs,
            counters := { x.counters with busoffCount := satInc x.counters.busoffCount,
                                          txFlushed := satAdd x.counters.txFlushed x.unsent } },
   x.queue ++ x.sendingQueued)

/-- A port restart (R5): the port afterwards, and the frames lost. -/
def Port.restart (x : Port) : Port × List QFrame :=
  (Port.choose
    { x with state := .active, fifo := [], queue := [], transmitter := none, recovery := .stopped,
             counters := { x.counters with rxFlushed := satAdd x.counters.rxFlushed x.fifo.length,
                                           txFlushed := satAdd x.counters.txFlushed x.unsent } },
   x.queue ++ x.sendingQueued)

/-! ## Forward enable (R11) -/

/-- Clear the forward enable: the forwarded frames leave the queue. -/
def Port.clearForward (x : Port) : Port :=
  if x.forwardEnable then
    { x with forwardEnable := false, queue := x.queue.filter (fun q => q.origin ≠ .forwarded),
             counters := { x.counters with
               fwdRemoved := satAdd x.counters.fwdRemoved (x.queue.filter (fun q => q.origin = .forwarded)).length } }
  else x

/-- Set the forward enable. -/
def Port.setForward (x : Port) : Port := { x with forwardEnable := true }

/-! ## On the state -/

/-- Frames have left or been lost: if the RESET reply is among them, its warm reset is due (R164). -/
def State.noteLeft (s : State) (l : List QFrame) : State :=
  if l.any (fun q => q.ofReset) then s.resetReplyLeft else s

/-- Offer a frame to the transmit queue of a port. -/
def State.offerQueue (s : State) (p : PortId) (q : QFrame) : State :=
  (s.setPort p ((s.port p).offerQueue q).1).noteLeft ((s.port p).offerQueue q).2

/-- Offer a frame to a command slot of a port. -/
def State.offerSlot (s : State) (p : PortId) (n : Nat) (f : Frame) : State := s.setPort p ((s.port p).offerSlot n f)

/-- Restart a port (R5). -/
def State.restartPort (s : State) (p : PortId) : State :=
  (s.setPort p (s.port p).restart.1).noteLeft (s.port p).restart.2

/-- A received frame is forwarded to the port other than its arrival port, at a class, if that port's forward enable is set
(R8, R16, R18). -/
def State.forwardFrame (s : State) (arrival : PortId) (cls : Nat) (f : Frame) : State :=
  let x := s.port arrival.other
  if x.forwardEnable then
    s.offerQueue arrival.other { frame := f, cls, origin := .forwarded, ofReset := false }
  else
    s.setPort arrival.other { x with counters := { x.counters with fwdDisabled := satInc x.counters.fwdDisabled } }

end Sys2Proof.Machine
end

