-- ==== Sys2Proof/Machine/FrameWatch.lean ====
section
/-! DEFINITION. Frame Watch (chapter 9) as a frame passes it: testing, mirror reports, the two kinds of hold, and the one way a
frame of the controller's own reaches its queue or slot. -/

namespace Sys2Proof.Machine

/-- The stream a frame comes in: received at a port, or own. -/
def WatchSource.fits (src : WatchSource) (received : Option PortId) : Bool :=
  match src, received with
  | .portC, some .portC => true
  | .portB, some .portB => true
  | .any, some _ => true
  | .own, none => true
  | _, _ => false

/-- An armed entry matches a frame (R154). -/
def WatchEntry.hit (e : WatchEntry) (received : Option PortId) (f : Frame) : Bool :=
  e.armed && e.source.fits received && decide (f.id &&& e.mask = e.id &&& e.mask)

/-- The indices of the entries that match, in index order. -/
def Watch.hits (w : Watch) (received : Option PortId) (f : Frame) : List Nat :=
  (List.range w.entries.length).filter (fun i =>
    match w.entries[i]? with
    | some e => e.hit received f
    | none => false)

/-- One more hit for each matching entry. -/
def Watch.countHits (w : Watch) (is : List Nat) : Watch :=
  { w with entries := is.foldl (fun l i => l.modify i (fun e => { e with hits := satInc e.hits })) w.entries }

/-- The lowest-indexed hold match, with whether it holds before (R155). -/
def Watch.holdMatch (w : Watch) : List Nat → Option (Nat × Bool)
  | [] => none
  | i :: r =>
    match w.entries[i]? with
    | some e =>
      match e.kind with
      | .mirror => w.holdMatch r
      | .holdAfter => some (i, false)
      | .holdBefore => some (i, true)
    | none => w.holdMatch r

/-- The port an own frame goes to. -/
def OwnDest.port : OwnDest → PortId
  | .slot p _ => p
  | .queue p _ _ _ => p

/-- The head frame of a mirror report (Table 10-6), 8 bytes long. Bytes 6 and 7 are the first two data bytes of the frame, 0 where it
has fewer: DESIGN CHOICE (assumption 48). -/
def mirrorHead (wmir : CanId) (count entry : Nat) (own toB : Bool) (f : Frame) : Frame :=
  { id := wmir,
    data := [BitVec.ofNat 8 count,
             BitVec.ofNat 8 (f.dlc % 16 + (if own then 16 else 0) + (if toB then 32 else 0))] ++
            splitMsb 4 (f.id.toNat + entry * 2 ^ 29) ++ [f.byte 0, f.byte 1] }

/-- The body frame of a mirror report (Table 10-6). -/
def mirrorBody (wmir : CanId) (count : Nat) (f : Frame) : Frame :=
  { id := wmir, data := [BitVec.ofNat 8 count, f.byte 2, f.byte 3, f.byte 4, f.byte 5, f.byte 6, f.byte 7] }

/-- One mirror report offered to port B's queue at class 3; reports are not tested themselves (R154). -/
def State.mirrorReport (s : State) (entry : Nat) (own : Bool) (p : PortId) (f : Frame) : State :=
  let count := s.watch.reportCount
  let s := s.setWatch { s.watch with reportCount := (count + 1) % 256 }
  let s := s.offerQueue .portB
    { frame := mirrorHead s.cfg.wmirId count entry own p.second f, cls := 3, origin := .mirror, ofReset := false }
  if 2 < f.dlc then
    s.offerQueue .portB { frame := mirrorBody s.cfg.wmirId count f, cls := 3, origin := .mirror, ofReset := false }
  else s

/-- Count the hits, make the mirror reports, and answer the hold match that decides, if Frame Watch is FREE; a hold match
while HELD is ignored and counted (R154, R155). -/
def State.watchTest (s : State) (received : Option PortId) (p : PortId) (f : Frame) : State × Option (Nat × Bool) :=
  let is := s.watch.hits received f
  let s := s.setWatch (s.watch.countHits is)
  let mirrors := is.filter (fun i => (s.watch.entries[i]?.map WatchEntry.kind) == some .mirror)
  let s := mirrors.foldl (fun s i => s.mirrorReport i received.isNone p f) s
  match s.watch.holdMatch is with
  | none => (s, none)
  | some h =>
    if s.watch.isHeld then (s.setWatch { s.watch with holdIgnored := satInc s.watch.holdIgnored }, none)
    else (s, some h)

/-- Enter HELD by entry `i`: it is disarmed and becomes the hold entry, and the hold is handed on before anything else that
waits (R155, R156). -/
def State.enterHeld (s : State) (i : Nat) : State :=
  (s.setWatch { s.watch with
    entries := s.watch.entries.modify i (fun e => { e with armed := false }),
    isHeld := true, holdEntry := some i }).postFirst [.holdEntered]

/-- An own frame is placed in its slot or offered to its queue. -/
def State.placeOwn (s : State) (d : OwnDest) (f : Frame) : State :=
  match d with
  | .slot p n => s.offerSlot p n f
  | .queue p cls origin ofReset => s.offerQueue p { frame := f, cls, origin, ofReset }

/-- The destination is the queue, with the RESET reply. -/
def OwnDest.isResetReply : OwnDest → Bool
  | .queue _ _ _ b => b
  | .slot _ _ => false

/-- A frame of the controller's own: Frame Watch first, then its slot or queue (R6, R9, R154, R155). -/
def State.offerOwn (s : State) (d : OwnDest) (f : Frame) : State :=
  match s.watchTest none d.port f with
  | (s, none) => s.placeOwn d f
  | (s, some (i, false)) => (s.placeOwn d f).enterHeld i
  | (s, some (i, true)) =>
    let s := s.setWatch { s.watch with register := some (.own d f) }
    (if d.isResetReply then s.resetReplyLeft else s).enterHeld i

end Sys2Proof.Machine
end

