-- ==== Sys2Proof/Machine/Valves.lean ====
section
/-! DEFINITION. The Valve Output Unit (chapter 4): drive state, targets, ramping, and the valve command frame. -/

namespace Sys2Proof.Machine

/-- A level byte: round(level / 4) (R83). -/
def levelByte (level : Nat) : Byte := BitVec.ofNat 8 (roundDiv level 4).toNat

/-- The dither divider P for a frequency in Hz (R84). -/
def ditherDivider (f : Nat) : Nat := (holdTo 39 255 (roundDiv 48000 f - 1)).toNat

/-- The valve command frame of a group as it stands (R83 to R85). -/
def State.valveFrame (s : State) (c : Consumer) : Frame :=
  let g := s.valve c
  { id := s.cfg.vcmdBase + BitVec.ofNat 29 c.number,
    data := (g.levels.take 6).map levelByte ++
            [BitVec.ofNat 8 g.alive, BitVec.ofNat 8 (ditherDivider (s.cfg.dither.at c))] }

/-- Place a valve command frame: the alive counter and the time since the last frame move on, and the frame goes to Frame
Watch and its slot (R82, R83). -/
def State.placeValveFrame (s : State) (c : Consumer) : State :=
  let f := s.valveFrame c
  let g := s.valve c
  (s.setValve c { g with alive := (g.alive + 1) % 16, sinceFrame := 0 }).offerOwn (.slot .portB c.number) f

/-- Entering STOPPED: function set emptied, targets and levels 0 at once, and a frame at once (R79, R82). -/
def State.stopGroup (s : State) (c : Consumer) : State :=
  let g := s.valve c
  if g.driving then
    (s.setValve c { g with driving := false, functions := 0, targets := List.replicate 6 0,
                           levels := List.replicate 6 0 }).placeValveFrame c
  else s

/-- Entering DRIVING changes no target or level (R79). -/
def State.driveGroup (s : State) (c : Consumer) : State := s.setValve c { s.valve c with driving := true }

/-- The entries of a list at the functions in a set; 0 elsewhere. -/
def keepIn (set : FnSet) (l : List Nat) : List Nat :=
  l.zipIdx.map (fun (x, i) => if set.getLsbD i then x else 0)

/-- An owner sets targets; a function that leaves the set drops to 0 at once, and a level dropped from above 0 places a frame
at once. A setting given to a STOPPED group is not taken (R80). -/
def State.setTargets (s : State) (c : Consumer) (set : FnSet) (targets : List Nat) (ramp : Nat) : State :=
  let g := s.valve c
  if g.driving then
    let levels := keepIn set g.levels
    let s := s.setValve c { g with functions := set, targets := keepIn set targets, levels, ramp }
    if levels = g.levels then s else s.placeValveFrame c
  else s

/-- One level moves toward its target by at most the ramp rate (R81). -/
def rampLevel (ramp target level : Nat) : Nat :=
  if level < target then min (level + ramp) target else max (level - ramp) target

/-- A group's levels after the tick's ramping (R81). -/
def ValveGroup.ramped (g : ValveGroup) : ValveGroup :=
  if g.driving then { g with levels := List.zipWith (rampLevel g.ramp) g.targets g.levels } else g

/-- Some level of the group is above 0. -/
def ValveGroup.moving (g : ValveGroup) : Bool := g.levels.any (fun l => 0 < l)

/-- The tick at one group: ramping, then a frame when it is moving (R81, R82). -/
def State.tickGroup (s : State) (c : Consumer) : State :=
  let g := (s.valve c).ramped
  let s := s.setValve c g
  if g.moving then s.placeValveFrame c else s

/-- A still group that has reached 100 ms since its last frame places one at that tick (R82). A group that is moving, or that
has placed a frame meanwhile, has no still interval that has run out (assumption 2). -/
def State.stillFrame (s : State) (c : Consumer) : State :=
  if (s.valve c).moving then s
  else if (s.valve c).sinceFrame < Config.stillMs then s
  else s.placeValveFrame c

end Sys2Proof.Machine
end

