-- ==== Sys2Proof/Machine/Supply.lean ====
section
/-! DEFINITION. The Supply Arbiter (chapter 4): capacity in force, claims, the waiting list and the high-idle request. -/

namespace Sys2Proof.Machine

/-- Some consumer holds flow or waits for it (R77). -/
def Arbiter.busy (x : Arbiter) : Bool :=
  decide (0 < x.grants.q0) || decide (0 < x.grants.q1) || decide (0 < x.grants.q2) || decide (0 < x.grants.q3) ||
    !x.waiting.isEmpty

/-- Grant from the head while the head's demand fits (R75): the list left, the grants, and who was granted, in order. -/
def grantHeads (capacity : Nat) : List (Consumer × Nat) → Quad Nat → List (Consumer × Nat) × Quad Nat × List Consumer
  | [], g => ([], g, [])
  | (c, d) :: r, g =>
    if g.total + d ≤ capacity then
      let (w, g', l) := grantHeads capacity r (g.put c d)
      (w, g', c :: l)
    else ((c, d) :: r, g, [])

/-- The head test of the arbiter, with the consumers granted. -/
def Arbiter.testHead (x : Arbiter) : Arbiter × List Consumer :=
  let (w, g, l) := grantHeads x.capacity x.waiting x.grants
  ({ x with waiting := w, grants := g }, l)

/-- A claim withdraws what its consumer has: its grant is released and its waiting entry removed; a release, and a removal of
the head, test the head (R73, R74). -/
def Arbiter.withdraw (x : Arbiter) (c : Consumer) : Arbiter × List Consumer :=
  let released := decide (0 < x.grants.at c)
  let wasHead := match x.waiting with
    | (h, _) :: _ => decide (h = c)
    | [] => false
  let y := { x with grants := x.grants.put c 0, waiting := x.waiting.filter (fun e => e.1 ≠ c) }
  if released || wasHead then y.testHead else (y, [])

/-- A claim is judged: the arbiter afterwards, the waiting consumers granted on the way, and whether the claim itself is
granted at once (R73). -/
def Arbiter.claim (x : Arbiter) (c : Consumer) (demand : Nat) : Arbiter × List Consumer × Bool :=
  let (y, l) := x.withdraw c
  if demand = 0 then (y, l, true)
  else if y.waiting.isEmpty && decide (y.grants.total + demand ≤ y.capacity) then
    ({ y with grants := y.grants.put c demand }, l, true)
  else ({ y with waiting := y.waiting ++ [(c, demand)] }, l, false)

/-- The event that hands a grant to its consumer, at once: nothing that waited before the act that makes the grant comes between
(R73; `drain`). -/
def grantEvent : Consumer → Ev
  | .armA => .armGrant .armA
  | .armB => .armGrant .armB
  | .packer0 => .chamberGrant .chamber0
  | .packer1 => .chamberGrant .chamber1

/-- The high-idle request frame (R77). -/
def highIdleFrame (id : CanId) (on : Bool) : Frame := { id, data := [if on then 1 else 0] }

/-- Offer a high-idle request frame to the slot of port C. -/
def State.offerHighIdle (s : State) (on : Bool) : State :=
  s.offerOwn (.slot .portC 0) (highIdleFrame s.cfg.hidleId on)

/-- Re-judge the high-idle state after a change of a grant or of the waiting list (R77). -/
def State.judgeHighIdle (s : State) : State :=
  let x := s.arbiter
  match x.highIdle, x.busy with
  | .off, true =>
    (s.setArbiter { x with highIdle := .on, repeatTimer := .start Config.repeatMs }).offerHighIdle true
  | .on, false => s.setArbiter { x with highIdle := .runDown, runDownTimer := .start Config.runDownMs }
  | .runDown, true => s.setArbiter { x with highIdle := .on, runDownTimer := .stopped }
  | .off, false => s
  | .on, true => s
  | .runDown, false => s

/-- A consumer claims a demand: the state afterwards and whether it is granted at once (R73). -/
def State.claim (s : State) (c : Consumer) (demand : Nat) : State × Bool :=
  let (x, l, granted) := s.arbiter.claim c demand
  (((s.setArbiter x).postAll (l.map grantEvent)).judgeHighIdle, granted)

/-- A claim of 0: the grant is released, or the waiting place left (R56, R67). -/
def State.claimNone (s : State) (c : Consumer) : State := (s.claim c 0).1

/-- The capacity that ENGINE_SPEED and the settings give (R72). -/
def capacityFor (cfg : ConfigTable) (engineSpeed : Option Int) : Nat :=
  match engineSpeed with
  | some v => if (cfg.boostThreshold : Int) ≤ v then cfg.cBoost else cfg.cIdle
  | none => cfg.cIdle

/-- A capacity is put in force; a rise tests the head (R72, R76). -/
def State.putCapacity (s : State) (capacity : Nat) : State :=
  let x := { s.arbiter with capacity }
  if s.arbiter.capacity < capacity then
    let (y, l) := x.testHead
    ((s.setArbiter y).postAll (l.map grantEvent)).judgeHighIdle
  else s.setArbiter x

end Sys2Proof.Machine
end

