-- ==== Sys2Proof/Machine/Signals.lean ====
section
/-! DEFINITION. The Signal Unit and the Interlock Unit (chapter 2): field extraction, scaling, freshness, roles, the route clock,
terms and groups. Handing changes to the readers is in Handover.lean. -/

namespace Sys2Proof.Machine

/-! ## Taking a field (R23 to R26) -/

/-- The first byte of the span, and its length in bytes (R23). -/
def SignalEntry.spanStart (e : SignalEntry) : Nat := e.startBit / 8
def SignalEntry.spanLength (e : SignalEntry) : Nat := (e.startBit + e.width - 1) / 8 - e.startBit / 8 + 1

/-- The field does not lie within the frame (R23). -/
def SignalEntry.isShort (e : SignalEntry) (f : Frame) : Bool := decide (8 * f.dlc < e.startBit + e.width)

/-- The raw field (R23). -/
def SignalEntry.rawField (e : SignalEntry) (f : Frame) : Nat :=
  let span := (f.data.drop e.spanStart).take e.spanLength
  match e.order with
  | .lsbFirst => joinLsb span / 2 ^ (e.startBit % 8) % 2 ^ e.width
  | .msbFirst => joinMsb span / 2 ^ (8 * e.spanLength - e.width - e.startBit % 8) % 2 ^ e.width

/-- The scaled value: offset + round(raw × numerator / denominator) (R24). -/
def SignalEntry.scaled (e : SignalEntry) (f : Frame) : Int :=
  let raw : Int := if e.isSigned then twosComplement e.width (e.rawField f) else e.rawField f
  e.offset + roundDiv (raw * e.numerator) e.denominator

/-- Raised to clamp low, then lowered to clamp high (R25). -/
def SignalEntry.clampValue (e : SignalEntry) (x : Int) : Int := min (max x e.clampLow) e.clampHigh

/-- A freshness timer at an update: with limit 0 it does not run (R26). -/
def SignalEntry.freshTimer (e : SignalEntry) : Timer :=
  if e.freshnessLimit = 0 then .stopped else .start e.freshnessLimit

/-- CLAMPED: either adjustment changed the value it met (R25). Where clamp low is above clamp high, a scaled value equal to clamp
high is raised and then lowered, and both adjustments change it (assumption 37). -/
def SignalEntry.adjusted (e : SignalEntry) (x : Int) : Bool :=
  decide (x < e.clampLow) || decide (e.clampHigh < max x e.clampLow)

/-- One entry takes a frame (R23 to R26). -/
def SignalEntry.take (e : SignalEntry) (f : Frame) : SignalEntry :=
  if e.isShort f then { e with shortFrames := satInc e.shortFrames }
  else
    let x := e.scaled f
    { e with value := some (e.clampValue x), clamped := e.adjusted x, state := .fresh, timer := e.freshTimer }

/-- The entry goes to NEVER (R21, R27); its short-frame count stands. -/
def SignalEntry.toNever (e : SignalEntry) : SignalEntry :=
  { e with value := none, state := .never, clamped := false, timer := .stopped }

/-- The freshness limit has been reached: HELD, or LOST when the hold time is 0 (R26). -/
def SignalEntry.limitReached (e : SignalEntry) : SignalEntry :=
  if e.holdTime = 0 then { e with state := .lost, timer := .stopped }
  else { e with state := .held, timer := .start e.holdTime }

/-- The hold time has passed: LOST (R26). -/
def SignalEntry.holdPassed (e : SignalEntry) : SignalEntry := { e with state := .lost, timer := .stopped }

/-- The value of an entry that is available: FRESH or HELD (Table 2-2). -/
def SignalEntry.available (e : SignalEntry) : Option Int :=
  match e.state with
  | .fresh | .held => e.value
  | .never | .lost => none

/-! ## Roles (R28, R29) -/

/-- The state and value of a role: its entry's; NEVER when the entry is not VALID; LOST when unbound (R28). -/
def State.roleView (s : State) (r : Role) : SignalState × Option Int :=
  match (s.cfg.roles[r.index]?).join with
  | none => (.lost, none)
  | some i =>
    match s.signals[i]? with
    | some e => if e.valid then (e.state, e.value) else (.never, none)
    | none => (.lost, none)

/-- The value of a role that is available (R29). -/
def State.roleValue (s : State) (r : Role) : Option Int :=
  match s.roleView r with
  | (.fresh, v) => v
  | (.held, v) => v
  | (.never, _) => none
  | (.lost, _) => none

/-- SERVICE_SWITCH and PARK_BRAKE are both true as R29 reads them: the SERVICE condition (R162). -/
def State.serviceHolds (s : State) : Bool :=
  (match s.roleView .serviceSwitch with
    | (.fresh, some v) => decide (v ≠ 0)
    | _ => false) &&
  (match s.roleValue .parkBrake with
    | some v => decide (v ≠ 0)
    | none => false)

/-- The state of a group number; FALSE where there is none (R28). -/
def State.groupState (s : State) (n : Nat) : GroupState :=
  if n = 0 then .isFalse
  else match s.groups[n - 1]? with
    | some g => g.state
    | none => .isFalse

/-- The state of a role group; an unbound one is FALSE (R28). -/
def State.roleGroupState (s : State) (r : RoleGroup) : GroupState := s.groupState (s.cfg.roleGroups.getD r.index 0)

/-- A role group counts as given only in TRUE (R30). -/
def State.given (s : State) (r : RoleGroup) : Bool := decide (s.roleGroupState r = .isTrue)

/-! ## The route clock (R31) -/

/-- One second has passed: the count moves on, wrapping above 4294967295. -/
def Clock.second (c : Clock) : Clock :=
  { c with count := (c.count + 1) % 4294967296, timer := .start Config.secondMs }

/-- A ROUTE_TIME update of 0 or greater sets the clock. -/
def Clock.setFrom (c : Clock) (v : Int) : Clock :=
  if 0 ≤ v then { count := v.toNat, isSet := true, timer := .start Config.secondMs } else c

/-! ## Terms (R33, R34) -/

/-- The bits two signed 32-bit numbers share. -/
def shareBit (v a : Int) : Bool := decide ((BitVec.ofInt 32 v &&& BitVec.ofInt 32 a) ≠ 0)

/-- The table of R34: the result after evaluation from the previous result. -/
def TermEntry.compare (t : TermEntry) (v : Int) : Bool :=
  let a := t.thresholdA
  let b := t.thresholdB
  let h := t.hysteresis
  match t.comparison with
  | .gt => if t.result then !decide (v < a - h) else decide (v > a)
  | .ge => if t.result then !decide (v < a - h) else decide (v ≥ a)
  | .lt => if t.result then !decide (v > a + h) else decide (v < a)
  | .le => if t.result then !decide (v > a + h) else decide (v ≤ a)
  | .inBand => if t.result then !decide (v < a - h ∨ v > b + h) else decide (a ≤ v ∧ v ≤ b)
  | .eq => decide (v = a)
  | .ne => decide (v ≠ a)
  | .bitSet => shareBit v a

/-- One evaluation of a term against its signal (R33). -/
def TermEntry.evaluate (t : TermEntry) (signals : List SignalEntry) : TermEntry :=
  { t with result := t.valid &&
      match (signals[t.signal]?).bind SignalEntry.available with
      | some v => t.compare v
      | none => false }

/-- The VALID terms on the signals in `changed` are evaluated (R38 step 2). -/
def State.evaluateTermsOn (s : State) (changed : List Nat) : State :=
  { s with terms := s.terms.map (fun t =>
      if t.valid && changed.contains t.signal then t.evaluate s.signals else t) }

/-- A term number is TRUE; a term that is not VALID is FALSE (R33, R41). -/
def State.termTrue (s : State) (i : Nat) : Bool :=
  match s.terms[i]? with
  | some t => t.valid && t.result
  | none => false

/-! ## Groups (R36, R37) -/

/-- A reference is satisfied (R36). -/
def State.refSatisfied (s : State) (r : GroupRef) : Bool :=
  match s.terms[r.term]? with
  | some t =>
    t.valid && ((s.signals[t.signal]?).bind SignalEntry.available).isSome && (if r.negate then !t.result else t.result)
  | none => false

/-- Every non-empty reference is satisfied, and there is one (R37). -/
def State.groupSatisfied (s : State) (g : GroupEntry) : Bool :=
  let refs := g.refs.filterMap id
  !refs.isEmpty && refs.all s.refSatisfied

/-- One evaluation of a group (R37). -/
def State.evaluateGroup (s : State) (g : GroupEntry) : GroupEntry :=
  if g.valid && s.groupSatisfied g then
    match g.state with
    | .isFalse =>
      if g.trueDelay = 0 then { g with state := .isTrue, timer := .stopped }
      else { g with state := .pending, timer := .start g.trueDelay }
    | .pending => g
    | .isTrue => g
  else { g with state := .isFalse, timer := .stopped }

/-- A group references a term for which `p` holds. -/
def GroupEntry.references (g : GroupEntry) (p : Nat → Bool) : Bool := (g.refs.filterMap id).any (fun r => p r.term)

/-- The VALID groups that reference a term for which `p` holds are evaluated (R38 step 3). -/
def State.evaluateGroupsOn (s : State) (p : Nat → Bool) : State :=
  { s with groups := s.groups.map (fun g => if g.valid && g.references p then s.evaluateGroup g else g) }

/-- The term is VALID and reads a signal in `changed`. -/
def State.termReads (s : State) (changed : List Nat) (i : Nat) : Bool :=
  match s.terms[i]? with
  | some t => t.valid && changed.contains t.signal
  | none => false

/-- Steps 2 and 3 of R38 for the signals in `changed`. -/
def State.evaluateOn (s : State) (changed : List Nat) : State :=
  let s := s.evaluateTermsOn changed
  s.evaluateGroupsOn (s.termReads changed)

/-- The true-delay has run: a PENDING group becomes TRUE (R37). -/
def GroupEntry.delayRun (g : GroupEntry) : GroupEntry := { g with state := .isTrue, timer := .stopped }

/-- The VALID entries a frame won by route entry `route` updates (R22). -/
def State.signalsFrom (s : State) (route : Nat) : List Nat :=
  (List.range s.signals.length).filter (fun i =>
    match s.signals[i]? with
    | some e => e.valid && decide (e.source = route)
    | none => false)

/-- Those of them for which the frame is not short (R23). -/
def State.updatedBy (s : State) (route : Nat) (f : Frame) : List Nat :=
  (s.signalsFrom route).filter (fun i =>
    match s.signals[i]? with
    | some e => !e.isShort f
    | none => false)

/-- All entries of one frame are updated as one event (R22). -/
def State.takeSignals (s : State) (route : Nat) (f : Frame) : State :=
  { s with signals := s.signals.map (fun e => if e.valid && decide (e.source = route) then e.take f else e) }

end Sys2Proof.Machine
end

