-- ==== Sys2Proof/Machine/LogOps.lean ====
section
/-! DEFINITION. The Lift Log and the charges (chapter 8): placing, entering, closing, releasing and scanning records. Handing a
closed record to the Bin Identification Unit and the Compaction Controllers is in Cycle.lean. -/

namespace Sys2Proof.Machine

/-! ## Charges (R136, R137) -/

/-- The Tariff Table entry of a record: index s × 16 + c (R136). -/
def State.tariffOf (s : State) (r : LogRecord) : TariffEntry := s.tariffs.getD (r.stream * 16 + r.tariff) .cleared

/-- A sum rounded to a multiple of 10, a last digit of 5 to 9 upward (R137). -/
def roundTen (n : Nat) : Nat := (n + 5) / 10 * 10

/-- The weight part: round(n_div × d × r / 1000) (R137). -/
def weightPart (nDiv d rate : Nat) : Nat := (roundDiv (nDiv * d * rate) 1000).toNat

/-- The charge of a LIFT record (R137). -/
def liftCharge (t : TariffEntry) (d : Nat) (r : LogRecord) : Nat :=
  if r.flags.tipped then
    match r.decision with
    | .accept =>
      if r.flags.billableByWeight then roundTen (t.liftFee + weightPart (r.nDiv.getD 0) d t.rate) else t.unweighedFee
    | .relift => if r.flags.billableByWeight then roundTen (weightPart (r.nDiv.getD 0) d t.rate) else 0
    | _ => 0
  else 0

/-! ## Places, numbers and entries (R138 to R141) -/

/-- Free records: 2048 less the stored ones (R138). -/
def LiftLog.free (l : LiftLog) : Nat := Config.logCapacity - l.records.length

/-- The number after `n`; after 4294967295 comes 1 (R139). -/
def nextSequence (n : Nat) : Nat := if n = 4294967295 then 1 else n + 1

/-- A new record is placed after the newest and the counter moves on (R138, R139). -/
def LiftLog.place (l : LiftLog) (r : LogRecord) : LiftLog :=
  { l with records := l.records ++ [{ r with seq := l.nextSeq }], nextSeq := nextSequence l.nextSeq }

/-- Change the OPEN record of a number; an entry that names no OPEN record is not made (R141). -/
def LiftLog.enter (l : LiftLog) (seq : Nat) (f : LogRecord → LogRecord) : LiftLog :=
  { l with records := l.records.map (fun r => if r.seq = seq ∧ r.closed = false then f r else r) }

/-- The OPEN record of a number. -/
def LiftLog.openRecord (l : LiftLog) (seq : Nat) : Option LogRecord :=
  l.records.find? (fun r => decide (r.seq = seq) && !r.closed)

/-- A record with everything absent. -/
def LogRecord.blank (kind : RecordKind) (second : Bool) (calCounter : Nat) (unlocked : Bool) : LogRecord :=
  { seq := 0, kind, closed := false, outcome := .none, second, sizeClass := 0, stream := 0, tariff := 0, decision := .none,
    tag := 0, household := 0, gross := none, tare := none, nDiv := none, flags := { lockOpen := unlocked }, charge := 0,
    time := 0, latitude := 0, longitude := 0, calCounter, check := 0, damaged := false, mass := 0, tips := 0, fill := 0 }

/-- The LIFT record an admission opens (R140). -/
def State.newLift (s : State) (a : ArmId) (sizeClass : Nat) : LogRecord :=
  { LogRecord.blank .lift a.second s.cal.counter s.cal.unlocked with sizeClass, stream := a.chamber.number }

/-- Open a LIFT record; the arm keeps the number it took, `s.log.nextSeq` (R140). -/
def State.openLift (s : State) (a : ArmId) (sizeClass : Nat) : State := s.setLog (s.log.place (s.newLift a sizeClass))

/-- Enter something in the OPEN record of a number. -/
def State.enterRecord (s : State) (seq : Nat) (f : LogRecord → LogRecord) : State := s.setLog (s.log.enter seq f)

/-- The bin decision is entered, with what the lookup gave (R96, R141). -/
def LogRecord.withDecision (d : Decision) (tag : Option Nat) (found : Option BinData) (mismatch : Bool) (r : LogRecord) :
    LogRecord :=
  let r := { r with decision := d, tag := tag.getD r.tag,
                    flags := { r.flags with sizeMismatch := r.flags.sizeMismatch || mismatch } }
  match found with
  | some b => { r with household := b.household, tariff := b.tariff, stream := b.stream }
  | none => r

/-- The end of the TIP_MARK step sets TIPPED (R53, R141). -/
def LogRecord.withTipped (r : LogRecord) : LogRecord := { r with flags := { r.flags with tipped := true } }

/-- A gross result is entered (R117, R141). -/
def LogRecord.withGross (w : WeighResult) (r : LogRecord) : LogRecord :=
  { r with gross := w.grams, flags := r.flags.join w.flags }

/-- A tare result is entered, and with a net its divisions and flags (R118, R141). -/
def LogRecord.withTare (w : WeighResult) (net : Option (Nat × RecFlags)) (r : LogRecord) : LogRecord :=
  let r := { r with tare := w.grams, nDiv := net.map Prod.fst, flags := r.flags.join w.flags }
  match net with
  | some (_, f) => { r with flags := r.flags.join f }
  | none => r

/-! ## Closing and writing (R142 to R145) -/

/-- Time and position of a record (step 3 of R142). -/
def State.stampRecord (s : State) (r : LogRecord) : LogRecord :=
  let r := { r with time := s.clock.count, flags := { r.flags with timeUnset := r.flags.timeUnset || !s.clock.isSet } }
  match s.roleValue .latitude, s.roleValue .longitude with
  | some lat, some lon => { r with latitude := lat, longitude := lon }
  | _, _ => { r with latitude := 0, longitude := 0, flags := { r.flags with posAbsent := true } }

/-- Steps 1 to 5 of a close (R142). -/
def State.closedRecord (s : State) (outcome : CycleOutcome) (r : LogRecord) : LogRecord :=
  let r := { r with closed := true, outcome,
                    flags := { r.flags with noGross := r.flags.noGross || r.gross.isNone,
                                            noTare := r.flags.noTare || r.tare.isNone } }
  let r := s.stampRecord r
  { r with charge := liftCharge (s.tariffOf r) s.cal.division r }.sealed

/-- The MANUAL_TIP record (R143). -/
def State.manualTipRecord (s : State) (a : ArmId) (tag : Option Nat) (found : Option BinData) : LogRecord :=
  let r := LogRecord.blank .manualTip a.second s.cal.counter s.cal.unlocked
  let r := { r with closed := true, outcome := .completed, stream := a.chamber.number, tag := tag.getD 0,
                    flags := { r.flags with noGross := true, noTare := true, tipped := true } }
  let r := match found with
    | some b => { r with household := b.household, tariff := b.tariff, sizeClass := b.sizeClass }
    | none => r
  let r := s.stampRecord r
  let charge := match found with
    | some b => if b.status = .active then (s.tariffOf r).unweighedFee else 0
    | none => 0
  { r with charge }

/-- A finished record takes its number and its check word, and is placed. -/
def State.placeClosed (s : State) (r : LogRecord) : State :=
  s.setLog (s.log.place { r with seq := s.log.nextSeq }.sealed)

/-- A manual tip asks the Log for its record: written, or counted lost when no record is free (R143). -/
def State.writeManualTip (s : State) (a : ArmId) (tag : Option Nat) (found : Option BinData) : State :=
  if 0 < s.log.free then s.placeClosed (s.manualTipRecord a tag found)
  else s.setLog { s.log with manualTipLost := satInc s.log.manualTipLost }

/-- The DISCHARGE record (R144). -/
def State.dischargeRecord (s : State) (c : ChamberId) : LogRecord :=
  let x := s.chamber c
  let r := LogRecord.blank .discharge c.second s.cal.counter s.cal.unlocked
  s.stampRecord { r with closed := true, outcome := .completed, mass := x.mass, tips := x.tipsSinceDischarge, fill := x.fill }

/-! ## Release (R148) -/

/-- A sequence number is covered by `n` (R148). -/
def covered (n seq : Nat) : Bool := decide (n ≠ 0) && decide ((n + 4294967295 - seq) % 4294967295 ≤ 2147483647)

/-- The records freed from the oldest end, and those kept. -/
def releaseSplit (n : Nat) : List LogRecord → List LogRecord × List LogRecord
  | [] => ([], [])
  | r :: l =>
    if r.closed && covered n r.seq then
      let (freed, kept) := releaseSplit n l
      (r :: freed, kept)
    else ([], r :: l)

/-- RELEASE n: the Log afterwards and the sequence number of the last record freed, or 0 (R147, R148). -/
def LiftLog.release (l : LiftLog) (n : Nat) : LiftLog × Nat :=
  let (freed, kept) := releaseSplit n l.records
  ({ l with records := kept, pointer := l.pointer - freed.length },
   match freed.getLast? with
   | some r => r.seq
   | none => 0)

/-! ## The start-up scan (R149, R150) -/

/-- A record found OPEN is closed INTERRUPTED (R149). -/
def LogRecord.interrupted (r : LogRecord) : LogRecord :=
  { r with closed := true, outcome := .interrupted, gross := none, tare := none, nDiv := none, charge := 0, time := 0,
           latitude := 0, longitude := 0,
           flags := { r.flags with noGross := true, noTare := true, timeUnset := true, posAbsent := true } }.sealed

/-- What the scan makes of one record (R149, R150). -/
def LogRecord.scanned (r : LogRecord) : LogRecord :=
  if r.closed then { r with damaged := r.damaged || decide (r.checkWord ≠ r.check) } else r.interrupted

/-- The start-up scan of the Log (R147, R149, R150). -/
def LiftLog.scan (l : LiftLog) : LiftLog := { l with records := l.records.map LogRecord.scanned, pointer := 0 }

/-- How many records are marked DAMAGED. -/
def LiftLog.damagedCount (l : LiftLog) : Nat := (l.records.filter LogRecord.damaged).length

end Sys2Proof.Machine
end

