-- ==== Sys2Proof/Machine/Pages.lean ====
section
/-! DEFINITION. The four status pages (R167, Table 10-6): their bytes, sending one, and noting which have changed. -/

namespace Sys2Proof.Machine

/-- A count carried as its value up to 255 and as 255 above that (R167). -/
def countByte (n : Nat) : Byte := BitVec.ofNat 8 (min n 255)

/-- The four bytes of an arm on page 0. -/
def Arm.pageBytes (x : Arm) : List Byte :=
  [BitVec.ofNat 8 x.state.code, BitVec.ofNat 8 x.fault.code, BitVec.ofNat 8 x.refusal.code,
   BitVec.ofNat 8 (x.position.getD 0)]

/-- The four bytes of a chamber on page 1. -/
def Chamber.pageBytes (x : Chamber) : List Byte :=
  BitVec.ofNat 8 (x.state.code + x.phase.code * 16 + x.load.code * 64) ::
    splitMsb 2 (x.fill + (if x.pending then 1024 else 0) + x.fault.code * 2048 + x.refusal.code * 4096) ++
    [countByte x.dischRefused]

/-- VEHICLE_SPEED held to 0 to 254, 255 when unavailable. -/
def speedByte (v : Option Int) : Byte :=
  match v with
  | some x => BitVec.ofNat 8 (holdTo 0 254 x).toNat
  | none => 255

/-- The sum of a list of counters. -/
def sumOf (l : List Nat) : Nat := l.foldl (· + ·) 0

/-- Page 2: free and DAMAGED records, calibration counter, access and clock, speed. -/
def State.page2 (s : State) : List Byte :=
  splitMsb 2 s.log.free ++ splitMsb 2 s.log.damagedCount ++ splitMsb 2 s.cal.counter ++
    [BitVec.ofNat 8 ((if s.cal.unlocked then 1 else 0) + (if s.mgmt.service then 2 else 0) +
      (if s.cal.unlocked then 4 else 0) + (if s.clock.isSet then 8 else 0)),
     speedByte (s.roleValue .vehicleSpeed)]

/-- Page 3: port states, forward enables and the summary of the port counters. -/
def State.page3 (s : State) : List Byte :=
  let c := s.ports.fst
  let b := s.ports.snd
  [BitVec.ofNat 8 (c.state.code + b.state.code * 4 + (if c.forwardEnable then 16 else 0) +
     (if b.forwardEnable then 32 else 0)),
   countByte c.counters.txFlushed, countByte c.counters.busoffCount, countByte (sumOf c.counters.txDrop),
   countByte b.counters.txFlushed, countByte b.counters.busoffCount,
   countByte (sumOf b.counters.txDrop + sumOf b.counters.txEvict), countByte (sumOf b.counters.superseded)]

/-- The eight bytes of a status page as they stand (Table 10-6). -/
def State.pageBytes (s : State) (page : Nat) : List Byte :=
  match page with
  | 0 => s.arms.fst.pageBytes ++ s.arms.snd.pageBytes
  | 1 => s.chambers.fst.pageBytes ++ s.chambers.snd.pageBytes
  | 2 => s.page2
  | _ => s.page3

/-- All four pages as they stand. -/
def State.allPages (s : State) : List (List Byte) := (List.range 4).map s.pageBytes

/-- Change the timers of a page. -/
def State.setPage (s : State) (page : Nat) (t : PageTimers) : State :=
  s.setMgmt { s.mgmt with pages := s.mgmt.pages.set page t }

/-- The timers of a page. -/
def State.pageTimers (s : State) (page : Nat) : PageTimers := s.mgmt.pages.getD page .fresh

/-- The contents of a page are noted as they stand. -/
def State.noteAs (s : State) (page : Nat) : State :=
  s.setMgmt { s.mgmt with noted := s.mgmt.noted.set page (s.pageBytes page) }

/-- Send a page: contents as they stand, mark cleared, both timers restarted; an own frame at class 2 (R167). -/
def State.sendPage (s : State) (page : Nat) : State :=
  let f : Frame := { id := s.cfg.statBase + BitVec.ofNat 29 page, data := s.pageBytes page }
  ((s.noteAs page).setPage page
    { period := .start Config.periodMs, spacing := .start Config.spacingMs, mark := false }).offerOwn
      (.queue .portB 2 .status false) f

/-- A page has changed: sent, or marked while its spacing timer runs (R167). -/
def State.pageChanged (s : State) (page : Nat) : State :=
  let t := s.pageTimers page
  if t.spacing.running then (s.noteAs page).setPage page { t with mark := true } else s.sendPage page

/-- The contents of a page are others than were last noted of it. Page 2 reads VEHICLE_SPEED as a role reader, so that a change of
that role counts once it is handed over, after the readers of the role groups (Table 2-3, R29, R38). -/
def State.pageMoved (s : State) (page : Nat) : Bool :=
  if page = 2 ∧ s.agenda.contains (.roleRead .vehicleSpeed) then
    decide (s.mgmt.noted[page]?.map (List.take 7) ≠ some ((s.pageBytes page).take 7))
  else decide (s.mgmt.noted[page]? ≠ some (s.pageBytes page))

/-- The lowest page that has changed since it was last noted. -/
def State.changedPage (s : State) : Option Nat := (List.range 4).find? s.pageMoved

/-- Take page changes until there is none; a send may itself change a page (assumption 9). -/
def noteChanges : Nat → State → State
  | 0, s => s
  | fuel + 1, s =>
    match s.changedPage with
    | none => s
    | some p => noteChanges fuel (s.pageChanged p)

/-- The pages that have changed since they were last noted are sent or marked. -/
def State.notePages (s : State) : State := noteChanges 32 s

/-- The period timer of a page expires (R167). -/
def State.periodExpired (s : State) (page : Nat) : State :=
  if (s.pageTimers page).period.running then s.sendPage page else s

/-- The spacing timer of a page expires (R167). -/
def State.spacingExpired (s : State) (page : Nat) : State :=
  let t := s.pageTimers page
  if t.spacing.running then
    if t.mark then s.sendPage page else s.setPage page { t with spacing := .stopped }
  else s

end Sys2Proof.Machine
end

