-- ==== Sys2Proof/Machine/Bins.lean ====
section
/-! DEFINITION. The Bin Identification Unit (chapter 5): the Bin Table in tag order, updates in flight, tag reads, the bin
decision, the lookup of a manual tip and the update at a record's close. -/

namespace Sys2Proof.Machine

/-! ## The table (R86, R88, R89, R91) -/

/-- A new entry: lift count 0, last-lift marker ABSENT (R88). -/
def BinEntry.ofData (d : BinData) : BinEntry := { data := d, liftCount := 0, lastLift := .absent, lastLiftTime := 0 }

/-- Enter a staging copy: at the rank that keeps the order, or over the entry of the same tag, whose lift count and last
lift are kept (R88). -/
def putBin (d : BinData) : List BinEntry → List BinEntry
  | [] => [.ofData d]
  | e :: r =>
    if d.tag < e.data.tag then .ofData d :: e :: r
    else if d.tag = e.data.tag then { e with data := d } :: r
    else e :: putBin d r

/-- Remove the entry of a tag (R89). -/
def dropBin (tag : Nat) (l : List BinEntry) : List BinEntry := l.filter (fun e => e.data.tag ≠ tag)

/-- The entry of a tag. -/
def findBin (tag : Nat) (l : List BinEntry) : Option BinEntry := l.find? (fun e => e.data.tag = tag)

/-- A change in flight applied at its completion (R88, R89). -/
def BinChange.apply (c : BinChange) (l : List BinEntry) : List BinEntry :=
  match c with
  | .insert d => putBin d l
  | .remove tag => dropBin tag l

/-- DAY: every lift count 0, every last-lift marker ABSENT (R91). -/
def dayBins (l : List BinEntry) : List BinEntry :=
  l.map (fun e => { e with liftCount := 0, lastLift := .absent, lastLiftTime := 0 })

/-- The close of a tipped ACCEPT or RELIFT record at its bin (R100). -/
def liftedBin (tag time : Nat) (clockSet : Bool) (l : List BinEntry) : List BinEntry :=
  l.map (fun e =>
    if e.data.tag = tag then
      { e with liftCount := satInc e.liftCount, lastLift := if clockSet then .set else .unset, lastLiftTime := time }
    else e)

/-! ## The bin decision (R94 to R96) -/

/-- A found ACTIVE entry of matching stream is a relift (R95). -/
def State.isRelift (s : State) (e : BinEntry) : Bool :=
  decide (e.lastLift = .set) && s.clock.isSet && decide (e.lastLiftTime ≤ s.clock.count) &&
    decide (s.clock.count - e.lastLiftTime < s.cfg.reliftWindow * 60)

/-- Table 5-2 for a candidate tag: the decision of a lookup. -/
def State.lookupDecision (s : State) (a : ArmId) (tag : Nat) : Decision :=
  match findBin tag s.bins.entries with
  | some e =>
    if e.data.status = .blocked then .refuseBlocked
    else if e.data.stream ≠ a.chamber.number then .refuseStream
    else if s.isRelift e then .relift
    else .accept
  | none =>
    match s.cfg.unknownPolicy with
    | .continueCycle => .unknown
    | .refuse => .refuseUnknown

/-- Table 5-2 at the time limit with no candidate looked up (R96, R97). -/
def State.noTagDecision (s : State) : Decision :=
  match s.cfg.noTagPolicy with
  | .continueCycle => .noTag
  | .refuse => .refuseNoTag

/-- The arm's decision request. -/
def State.request (s : State) (a : ArmId) : DecisionRequest := s.bins.requests.at a.second

def State.setRequest (s : State) (a : ArmId) (q : DecisionRequest) : State :=
  s.setBins { s.bins with requests := s.bins.requests.put a.second q }

/-- The arm's last tag becomes none. -/
def State.dropLastTag (s : State) (a : ArmId) : State := s.setArm a { s.arm a with lastTag := none }

/-- A decision made from a tag is handed on at once: to the record, to the arm's last tag, to the arm, which takes it next, before
anything else that waits (R96). -/
def State.decideByTag (s : State) (a : ArmId) (tag : Nat) : State :=
  let d := s.lookupDecision a tag
  let found := (findBin tag s.bins.entries).map BinEntry.data
  let q := s.request a
  let mismatch := match found with
    | some b => decide (b.sizeClass ≠ q.sizeClass)
    | none => false
  let s := s.enterRecord q.record (LogRecord.withDecision d (some tag) found mismatch)
  ((s.dropLastTag a).setRequest a .empty).postNext (.decision a d.refuses)

/-- A decision made without a tag at the time limit (R97), handed on at once as by R96: the last tag stands, and a lookup still waiting
is dropped. -/
def State.decideNoTag (s : State) (a : ArmId) : State :=
  let d := s.noTagDecision
  let s := s.enterRecord (s.request a).record (LogRecord.withDecision d none none false)
  let s := s.setBins { s.bins with waiting := s.bins.waiting.filter (fun w => w ≠ .decision a) }
  (s.setRequest a .empty).postNext (.decision a d.refuses)

/-- A candidate is looked up at once, or waits for the update in flight (R94). -/
def State.lookUp (s : State) (a : ArmId) (tag : Nat) : State :=
  if s.bins.update.isSome then
    let s := s.setRequest a { s.request a with state := .waitLookup, candidate := some tag }
    s.setBins { s.bins with waiting := s.bins.waiting ++ [.decision a] }
  else s.decideByTag a tag

/-- The arm's last tag, when its age is at most the tag window (R93, R99). -/
def State.tagInWindow (s : State) (a : ArmId) : Option Nat :=
  match (s.arm a).lastTag with
  | some t => if s.now - t.readAt ≤ s.cfg.tagWindow then some t.tag else none
  | none => none

/-- The TAG step asks for the decision (R93). -/
def State.askDecision (s : State) (a : ArmId) (record sizeClass : Nat) : State :=
  let s' := s.setRequest a { state := .waitRead, candidate := none, record, sizeClass, askedAt := s.now }
  match s.tagInWindow a with
  | some tag => s'.lookUp a tag
  | none => s'

/-- A request still waiting at cycle end is withdrawn (R98). -/
def State.withdrawRequest (s : State) (a : ArmId) : State :=
  (s.setBins { s.bins with waiting := s.bins.waiting.filter (fun w => w ≠ .decision a) }).setRequest a .empty

/-- The expiry of the TAG step's time limit (R97). -/
def State.tagTimeLimit (s : State) (a : ArmId) : State :=
  match (s.request a).state with
  | .none => s
  | .waitRead => s.decideNoTag a
  | .waitLookup => s.decideNoTag a

/-! ## Tag reads (R92) -/

/-- A tag frame delivered for an arm. -/
def State.tagFrame (s : State) (a : ArmId) (f : Frame) : State :=
  let k := s.cfg.tagOffset
  let b := s.bins
  if f.dlc < k + 5 then
    s.setBins { b with tagShort := b.tagShort.put a.second (satInc (b.tagShort.at a.second)) }
  else if qualityOf k f = 0 ∨ tagOf k f = 0 then
    s.setBins { b with tagNoRead := b.tagNoRead.put a.second (satInc (b.tagNoRead.at a.second)) }
  else
    let s := s.setBins { b with tagValid := b.tagValid.put a.second (satInc (b.tagValid.at a.second)) }
    let s := s.setArm a { s.arm a with lastTag := some { tag := tagOf k f, readAt := s.now } }
    if (s.request a).state = .waitRead then s.lookUp a (tagOf k f) else s

/-! ## Manual tips and closes (R99, R100) -/

/-- The lookup of a manual tip, and its record (R99, R143). -/
def State.serveManualTip (s : State) (a : ArmId) (tag : Nat) : State :=
  s.writeManualTip a (some tag) ((findBin tag s.bins.entries).map BinEntry.data)

/-- A manual tip takes the arm's last tag when it is in the window, and asks for its record (R68, R99). -/
def State.manualTip (s : State) (a : ArmId) : State :=
  match s.tagInWindow a with
  | none => s.writeManualTip a none none
  | some tag =>
    let s := s.dropLastTag a
    if s.bins.update.isSome then s.setBins { s.bins with waiting := s.bins.waiting ++ [.manualTip a tag] }
    else s.serveManualTip a tag

/-- The update of an entry at a close (R100). -/
def State.serveClose (s : State) (tag time : Nat) (clockSet : Bool) : State :=
  if (findBin tag s.bins.entries).isSome then
    s.setBins { s.bins with entries := liftedBin tag time clockSet s.bins.entries }
  else s.setBins { s.bins with closeMissed := satInc s.bins.closeMissed }

/-- A closed record is handed over (R100): its update waits for one in flight. -/
def State.closeBin (s : State) (tag time : Nat) (clockSet : Bool) : State :=
  if s.bins.update.isSome then
    s.setBins { s.bins with waiting := s.bins.waiting ++ [.closeUpdate tag time clockSet] }
  else s.serveClose tag time clockSet

/-! ## Updates in flight (R88 to R90) -/

/-- Put an update IN_FLIGHT. Its time is a free value held to 50 ms (R88, assumption 7). -/
def State.startUpdate (s : State) (c : BinChange) : State :=
  let ms := min (Config.freeUpdateMs s.freeCount) Config.binUpdateMaxMs
  { s with freeCount := s.freeCount + 1, bins := { s.bins with update := some c, updateTimer := .start ms } }

/-- One waiting lookup is served against the updated table (R90). -/
def State.serveLookup (s : State) (w : WaitingLookup) : State :=
  match w with
  | .decision a =>
    match (s.request a).state, (s.request a).candidate with
    | .waitLookup, some tag => s.decideByTag a tag
    | _, _ => s
  | .manualTip a tag => s.serveManualTip a tag
  | .closeUpdate tag time clockSet => s.serveClose tag time clockSet

/-- All waiting lookups are handed on to be served, one after another; any of them may be taken first (R90; assumption 6). -/
def State.serveLookups (s : State) : State :=
  (s.setBins { s.bins with waiting := [] }).postAnyOrder (s.bins.waiting.map Ev.lookup)

/-- The change in flight is entered in the table and the update state returns to IDLE (R88, R89). -/
def State.applyUpdate (s : State) (c : BinChange) : State :=
  s.setBins { s.bins with entries := c.apply s.bins.entries, update := none, updateTimer := .stopped }

end Sys2Proof.Machine
end

