-- ==== Sys2Proof/Machine/Weighing.lean ====
section
/-! DEFINITION. The Weighing Units (chapter 6): windows, settling, disturbance, the weight computation and the results entered in
the record. -/

namespace Sys2Proof.Machine

/-! ## The weight computation (R115 to R118) -/

/-- Stage A: m = round(S / W) (R115). -/
def windowMean (window : List Int) (w : Nat) : Int := roundDiv window.sum w

/-- |tilt|, lowered to 1500 (R116). -/
def tiltTau (tilt : Int) : Nat := min tilt.natAbs 1500

/-- M[k]. -/
def tiltFactor (m : List Nat) (k : Nat) : Int := (m.getD k 65536 : Nat)

/-- Mt: the tilt factor interpolated between whole degrees (R116). -/
def interpolatedTilt (m : List Nat) (tau : Nat) : Int :=
  let i := tau / 100
  let f : Int := (tau % 100 : Nat)
  if i < 15 then tiltFactor m i + roundDiv ((tiltFactor m (i + 1) - tiltFactor m i) * f) 100 else tiltFactor m 15

/-- Stages A to D: the grams of a window (R115 to R117). -/
def windowGrams (c : ArmCalibration) (m : List Nat) (tilt : Int) (window : List Int) (w : Nat) : Int :=
  let u := windowMean window w - c.zero
  let t := roundDiv (u * interpolatedTilt m (tiltTau tilt)) 65536
  roundDiv (t * c.gain) 65536

/-- Capacity in divisions: Max × 1000 / d (Table 6-1). -/
def capacityDivisions (c : ArmCalibration) (d : Nat) : Nat := c.capacityKg * 1000 / d

/-- The gross is over range (R117). -/
def grossOver (c : ArmCalibration) (d : Nat) (g : Int) : Bool := decide ((c.capacityKg * 1000 + 9 * d : Nat) < g)

/-- Stages E and F: the net divisions with NEGATIVE, OVERRANGE and BELOW_MIN (R118). -/
def netOf (c : ArmCalibration) (d : Nat) (gross tare : Int) (grossOverrange : Bool) : Nat × RecFlags :=
  let n := gross - tare
  if n < 0 then (0, { negative := true, belowMin := true })
  else
    let nd := (roundDiv n d).toNat
    let cap := capacityDivisions c d
    if cap < nd ∨ grossOverrange then (cap, { overrange := true, belowMin := decide (cap < 20) })
    else (nd, { belowMin := decide (nd < 20) })

/-! ## Windows (R107, R108) -/

/-- A Weighing Unit changes; a raised or dropped quiet request is handed to both Compaction Controllers, either of which may
act first (R73, R108, R124; assumption 6). -/
def State.putWeigh (s : State) (a : ArmId) (u : WeighUnit) : State :=
  let t := s.setWeighUnit a u
  if u.quiet = (s.weighUnit a).quiet then t else t.postAnyOrder [.quietChanged .chamber0, .quietChanged .chamber1]

/-- Open a window (R108). -/
def State.openWindow (s : State) (a : ArmId) (state : WeighState) (record : Nat) : State :=
  s.putWeigh a { s.weighUnit a with
    state, record := some record, window := [], disturbed := false, lengthInForce := (s.armCal a).windowLength,
    isOpen := true, gapTimer := .start Config.gapMs, quiet := true }

/-- The arm tells its unit to collect the gross window (R107). -/
def State.collectGross (s : State) (a : ArmId) (record : Nat) : State :=
  match (s.weighUnit a).state with
  | .idle | .collectGross => s.openWindow a .collectGross record
  | .grossDone | .collectTare | .done => s

/-- The arm tells its unit to collect the tare window (R107). -/
def State.collectTare (s : State) (a : ArmId) (record : Nat) : State :=
  match (s.weighUnit a).state with
  | .idle | .grossDone | .collectTare => s.openWindow a .collectTare record
  | .collectGross | .done => s

/-- An OPEN window stalls (R108). -/
def State.stallWindow (s : State) (a : ArmId) : State :=
  let u := s.weighUnit a
  if u.isOpen then
    s.putWeigh a { u with window := [], isOpen := false, gapTimer := .stopped, quiet := false }
  else s

/-- Cycle end: the unit goes IDLE from whatever state (R114). -/
def State.weighToIdle (s : State) (a : ArmId) : State :=
  s.putWeigh a { s.weighUnit a with
    state := .idle, record := none, window := [], isOpen := false, disturbed := false, gapTimer := .stopped, quiet := false,
    gross := none, tare := none }

/-! ## Ending a window (R111 to R113) -/

/-- How a window ends. -/
def State.windowResult (s : State) (a : ArmId) (hasValue unsettled void tare : Bool) : WeighResult :=
  let u := s.weighUnit a
  let c := s.armCal a
  let base : RecFlags := { disturbed := u.disturbed, loadcellLost := void }
  if hasValue then
    let tilt := s.roleValue .tilt
    let g := windowGrams c s.cal.tiltFactors (tilt.getD 0) u.window u.lengthInForce
    let beyond := decide (c.tiltLimit < (tilt.getD 0).natAbs)
    { grams := some g,
      flags := { base with
        tiltLost := tilt.isNone,
        gUnsettled := unsettled && !tare, tUnsettled := unsettled && tare,
        gTilt := beyond && !tare, tTilt := beyond && tare,
        overrange := !tare && grossOver c s.cal.division g } }
  else { grams := none, flags := base }

/-- The net that a tare result gives with the gross kept by the unit (R118). -/
def State.netResult (s : State) (a : ArmId) (r : WeighResult) : Option (Nat × RecFlags) :=
  match (s.weighUnit a).gross.bind WeighResult.grams, r.grams with
  | some g, some t =>
    let overrange := match (s.weighUnit a).gross with
      | some w => w.flags.overrange
      | none => false
    some (netOf (s.armCal a) s.cal.division g t overrange)
  | _, _ => none

/-- The gap timer stops, the window is emptied and the quiet request drops; the result is handed to the record, the end to
the arm, and the unit leaves its collecting state (R113, R120). The flags of the net go to the record alone (R118). -/
def State.endWindow (s : State) (a : ArmId) (hasValue unsettled void : Bool) : State :=
  let u := s.weighUnit a
  let closed := { u with window := [], isOpen := false, gapTimer := .stopped, quiet := false }
  match u.state with
  | .collectGross =>
    let r := s.windowResult a hasValue unsettled void false
    let t := s.putWeigh a { closed with state := .grossDone, gross := some r }
    (t.enterRecord (u.record.getD 0) (LogRecord.withGross r)).post (.windowEnd a)
  | .collectTare =>
    let r := s.windowResult a hasValue unsettled void true
    let t := s.putWeigh a { closed with state := .done, tare := some r }
    (t.enterRecord (u.record.getD 0) (LogRecord.withTare r (s.netResult a r))).post (.windowEnd a)
  | .idle | .grossDone | .done => s

/-- The latest `w` counts after a new one joins (R109). -/
def joinWindow (window : List Int) (w : Nat) (x : Int) : List Int :=
  (window ++ [x]).drop ((window ++ [x]).length - w)

/-- The largest count less the smallest. -/
def windowSpread (window : List Int) : Int :=
  match window with
  | [] => 0
  | x :: r => r.foldl max x - r.foldl min x

/-- The window has settled (R109). -/
def WeighUnit.settled (u : WeighUnit) (band : Nat) : Bool :=
  decide (u.window.length = u.lengthInForce) && decide (windowSpread u.window ≤ band)

/-- A sample frame delivered to a Weighing Unit (R102, R109). -/
def State.sampleFrame (s : State) (a : ArmId) (f : Frame) : State :=
  let k := s.cfg.lcOffset
  let u := s.weighUnit a
  if f.dlc < k + 3 then s.setWeighUnit a { u with sampleShort := satInc u.sampleShort }
  else
    let x := sampleOf k f
    let u := { u with live := some (x, s.now) }
    if u.isOpen then
      let u := { u with window := joinWindow u.window u.lengthInForce x, gapTimer := .start Config.gapMs }
      let s := s.setWeighUnit a u
      if u.settled (s.armCal a).settleBand then s.endWindow a true false false else s
    else s.setWeighUnit a u

/-- The gap timer of an OPEN window expires: the window ends VOID (R111). -/
def State.gapExpired (s : State) (a : ArmId) : State :=
  let u := s.weighUnit a
  if u.isOpen && u.gapTimer.running then
    (s.setWeighUnit a { u with gapCount := satInc u.gapCount }).endWindow a false false true
  else s

/-- The step's time limit reaches the unit: a full window gives an unsettled value (R112). -/
def State.weighTimeLimit (s : State) (a : ArmId) : State :=
  let u := s.weighUnit a
  s.endWindow a (u.isOpen && decide (u.window.length = u.lengthInForce)) true false

/-- Some level of a packer's valve group is above 0 (R110). -/
def State.packerMoving (s : State) : Bool := (s.valve .packer0).moving || (s.valve .packer1).moving

/-- The tick disturbs an OPEN window while a packer moves (R110). -/
def State.disturb (s : State) (a : ArmId) : State :=
  let u := s.weighUnit a
  if u.isOpen && s.packerMoving then
    s.setWeighUnit a { u with window := [], disturbed := true, disturbCount := satInc u.disturbCount }
  else s

/-- The quiet request of either Weighing Unit is raised. -/
def State.quietRaised (s : State) : Bool := s.weigh.fst.quiet || s.weigh.snd.quiet

end Sys2Proof.Machine
end

