-- ==== Sys2Proof/Machine/Chambers.lean ====
section
/-! DEFINITION. The Compaction Controllers (chapter 7): tips, strokes, giving way to weighing, permit loss, hold, mass, load and
discharge. -/

namespace Sys2Proof.Machine

/-! ## State and load -/

/-- The states in which a packer moves (R79). -/
def ChamberState.isPhase : ChamberState → Bool
  | .sweep | .pack | .ret => true
  | .idle | .waitSupply | .quiet | .suspended | .held | .faulted => false

/-- The controller changes state and hands it to the Valve Output Unit (R79). -/
def State.setChamberState (s : State) (c : ChamberId) (st : ChamberState) : State :=
  let s := s.setChamber c { s.chamber c with state := st }
  if st.isPhase then s.driveGroup c.consumer else s.stopGroup c.consumer

/-- The load state that fill and mass give (R132). -/
def loadOf (k : ChamberSettings) (fill mass : Nat) : LoadState :=
  if k.fillFull ≤ fill ∨ k.massFull * 1000 ≤ mass then .full
  else if k.fillWarn ≤ fill ∨ k.massWarn * 1000 ≤ mass then .warn
  else .normal

/-- The load state is judged, and a change to FULL is handed at once to the feeding arm (R132). -/
def State.judgeLoad (s : State) (c : ChamberId) : State :=
  let x := s.chamber c
  let l := loadOf (s.chamberSettings c) x.fill x.mass
  if l = x.load then s
  else
    let s := s.setChamber c { x with load := l }
    if l = .full then s.postNext (.chamberFull c.arm) else s

/-- Mass grows at a close, stopping at 4294967295 (R131). -/
def State.addMass (s : State) (c : ChamberId) (grams : Nat) : State :=
  let x := s.chamber c
  (s.setChamber c { x with mass := min (x.mass + grams) 4294967295 }).judgeLoad c

/-! ## Phases (R125, R126) -/

def phaseFns (k : ChamberSettings) : StrokePhase → FnSet
  | .sweep => k.sweepFns | .pack => k.packFns | .ret => k.returnFns | .none => 0

def phaseLevel (k : ChamberSettings) : StrokePhase → Nat
  | .sweep => k.sweepLevel | .pack => k.packLevel | .ret => k.returnLevel | .none => 0

def phaseLimit (k : ChamberSettings) : StrokePhase → Nat
  | .sweep => k.sweepLimit | .pack => k.packLimit | .ret => k.returnLimit | .none => 0

def StrokePhase.toState : StrokePhase → ChamberState
  | .sweep => .sweep | .pack => .pack | .ret => .ret | .none => .idle

/-- Enter or resume the stroke phase: state, targets and timer; then the end condition and the quiet request are tested
(R125). -/
def State.enterPhase (s : State) (c : ChamberId) : State :=
  let x := s.chamber c
  let k := s.chamberSettings c
  let timer := if x.entered then x.phaseTimer.resume else .start (phaseLimit k x.phase)
  let s := s.setChamber c { x with phaseTimer := timer, entered := true, quietTimer := .stopped }
  let s := s.setChamberState c x.phase.toState
  let s := s.setTargets c.consumer (phaseFns k x.phase) (List.replicate 6 (phaseLevel k x.phase)) k.ramp
  s.postNext (.phaseTest c)

/-- The next phase is entered for the first time. -/
def State.nextPhase (s : State) (c : ChamberId) (p : StrokePhase) : State :=
  (s.setChamber c { s.chamber c with phase := p, entered := false }).enterPhase c

/-- The stroke is claimed: granted, the phase is entered; waiting, WAIT_SUPPLY (R124, R129). -/
def State.claimStroke (s : State) (c : ChamberId) : State :=
  match s.claim c.consumer (s.chamberSettings c).strokeDemand with
  | (s, true) => (s.setChamber c { s.chamber c with grantFlag := true }).enterPhase c
  | (s, false) => s.setChamberState c .waitSupply

/-- A stroke starts from IDLE when the request is pending, the permit is TRUE, no quiet request is raised and Frame Watch is
not HELD (R124). -/
def State.strokeTest (s : State) (c : ChamberId) : State :=
  let x := s.chamber c
  if x.state = .idle ∧ x.pending ∧ s.given c.packPermit ∧ ¬ s.quietRaised ∧ ¬ s.watch.isHeld then
    (s.setChamber c { x with pending := false, tipCounter := 0, phase := .sweep, quieted := false,
                             entered := false }).claimStroke c
  else s

/-- The end of RETURN ends the stroke (R126). -/
def State.endStroke (s : State) (c : ChamberId) : State :=
  let s := s.claimNone c.consumer
  let s := s.setChamber c { s.chamber c with phase := .none, grantFlag := false, quieted := false, phaseTimer := .stopped,
                                             entered := false }
  (s.setChamberState c .idle).postNext (.strokeTest c)

/-- The end of PACK: on pressure the fill is taken from BLADE when it is available (R126). -/
def State.endPack (s : State) (c : ChamberId) (onPressure : Bool) : State :=
  let s :=
    match onPressure, s.roleValue c.bladeRole with
    | true, some b =>
      (s.setChamber c { s.chamber c with fill := (holdTo 0 1000 (1000 - b)).toNat }).judgeLoad c
    | _, _ => s
  s.nextPhase c .ret

/-- The end condition of the phase the controller is in; `none`: it does not hold (R126). -/
def State.testPhase (s : State) (c : ChamberId) : Option State :=
  let k := s.chamberSettings c
  let blade := s.roleValue c.bladeRole
  let press := s.roleValue c.pressRole
  match (s.chamber c).state with
  | .sweep =>
    if blade.any (fun b => (k.sweepEnd : Int) ≤ b) then some (s.nextPhase c .pack) else none
  | .pack =>
    if press.any (fun p => (k.packPressure : Int) ≤ p) then some (s.endPack c true)
    else if blade.any (fun b => (1000 : Int) - k.endBand ≤ b) then some (s.endPack c false)
    else none
  | .ret =>
    if blade.any (fun b : Int => b ≤ (k.homeBand : Int)) then some (s.endStroke c) else none
  | .idle | .waitSupply | .quiet | .suspended | .held | .faulted => none

/-- An update or change of state of BLADE or PRESS (R126). -/
def State.phaseRole (s : State) (c : ChamberId) : State := (s.testPhase c).getD s

/-! ## Giving way to weighing (R128) -/

/-- Enter QUIET: the grant is kept, the phase timer stops, the quiet timer runs (R128). -/
def State.enterQuiet (s : State) (c : ChamberId) : State :=
  let x := s.chamber c
  let s := s.setChamber c { x with quieted := true, phaseTimer := x.phaseTimer.pause,
                                   quietTimer := .start (s.chamberSettings c).quietLimit }
  s.setChamberState c .quiet

/-- A moving stroke not yet quieted enters QUIET while a request is raised (R128). -/
def State.quietTest (s : State) (c : ChamberId) : State :=
  let x := s.chamber c
  if x.state.isPhase ∧ ¬ x.quieted ∧ s.quietRaised then s.enterQuiet c else s

/-- What is tested straight after a phase is entered or resumed (R125): its end, then the quiet request. -/
def State.phaseEntered (s : State) (c : ChamberId) : State :=
  match s.testPhase c with
  | some t => t
  | none => s.quietTest c

/-- A quiet request has been raised or dropped (R124, R128). -/
def State.quietEvent (s : State) (c : ChamberId) : State :=
  if s.quietRaised then s.quietTest c
  else
    match (s.chamber c).state with
    | .quiet => s.enterPhase c
    | .idle => s.strokeTest c
    | .waitSupply | .sweep | .pack | .ret | .suspended | .held | .faulted => s

/-- The quiet limit runs out: the stroke resumes whatever the quiet requests are (R128). -/
def State.quietExpired (s : State) (c : ChamberId) : State :=
  let x := s.chamber c
  if x.state = .quiet ∧ x.quietTimer.running then s.enterPhase c else s

/-! ## Tips and commands (R122, R123, R127) -/

/-- The pending request is set when the tip counter is at or above the auto-pack threshold (R123). -/
def State.autoPackTest (s : State) (c : ChamberId) : State :=
  let x := s.chamber c
  if (s.chamberSettings c).autoPack ≤ x.tipCounter then (s.setChamber c { x with pending := true }).postNext (.strokeTest c)
  else s

/-- A tip reaches the chamber (R123). -/
def State.takeTip (s : State) (c : ChamberId) : State :=
  let x := s.chamber c
  (s.setChamber c { x with tipCounter := satInc x.tipCounter, tipsSinceDischarge := satInc x.tipsSinceDischarge }).autoPackTest c

def State.ignoreChamberCommand (s : State) (c : ChamberId) : State :=
  let x := s.chamber c
  s.setChamber c { x with cmdIgnored := satInc x.cmdIgnored }

/-- The phase timer expires: STROKE_TIMEOUT (R127). -/
def State.phaseExpired (s : State) (c : ChamberId) : State :=
  let x := s.chamber c
  if x.state.isPhase ∧ x.phaseTimer.running then
    let s := s.setChamber c { x with
      phase := .none, phaseTimer := .stopped, quietTimer := .stopped, quieted := false, grantFlag := false, operatorFlag := false, pending := false, grantedHeld := false, entered := false,
      fault := .strokeTimeout, strokeFaults := satInc x.strokeFaults }
    (s.setChamberState c .faulted).claimNone c.consumer
  else s

/-- FAULT_CLEAR for a chamber (R127). -/
def State.chamberFaultClear (s : State) (c : ChamberId) : State :=
  let x := s.chamber c
  if x.state = .faulted then
    let s := s.setChamber c { x with fault := .none }
    let s := s.setChamberState c .idle
    let s := s.setChamber c { s.chamber c with
      pending := (s.chamber c).pending || decide ((s.chamberSettings c).autoPack ≤ (s.chamber c).tipCounter) }
    s.postNext (.strokeTest c)
  else s.ignoreChamberCommand c

/-! ## Permit and hold (R129, R130) -/

/-- A SUSPENDED stroke resumes: with its grant the phase is resumed, without it the demand is claimed again (R129). -/
def State.resumeStroke (s : State) (c : ChamberId) : State :=
  let s := s.setChamber c { s.chamber c with operatorFlag := false }
  if (s.chamber c).grantFlag then s.enterPhase c else s.claimStroke c

/-- PACK_NOW (R122, R129). -/
def State.packNow (s : State) (c : ChamberId) : State :=
  let x := s.chamber c
  match x.state with
  | .idle => (s.setChamber c { x with pending := true }).postNext (.strokeTest c)
  | .suspended => if s.given c.packPermit then s.resumeStroke c else s.ignoreChamberCommand c
  | .waitSupply | .sweep | .pack | .ret | .quiet | .held | .faulted => s.ignoreChamberCommand c

/-- A stroke with its grant is suspended: both timers stop and the quiet remainder is discarded (R129). -/
def State.suspendStroke (s : State) (c : ChamberId) : State :=
  let x := s.chamber c
  let s := s.setChamber c { x with phaseTimer := x.phaseTimer.pause, quietTimer := .stopped }
  s.setChamberState c .suspended

/-- A stroke waiting for its flow is suspended: its entry is removed and the grant flag is clear (R129). -/
def State.suspendWaiting (s : State) (c : ChamberId) : State :=
  let s := s.setChamber c { s.chamber c with grantFlag := false }
  (s.setChamberState c .suspended).claimNone c.consumer

/-- A change of PACK_PERMIT reaches the controller (R124, R129). -/
def State.packPermitChange (s : State) (c : ChamberId) : State :=
  let x := s.chamber c
  if s.given c.packPermit then
    match x.state with
    | .idle => s.strokeTest c
    | .suspended => if x.operatorFlag then s else s.resumeStroke c
    | .waitSupply | .sweep | .pack | .ret | .quiet | .held | .faulted => s
  else
    match x.state with
    | .sweep | .pack | .ret | .quiet => s.suspendStroke c
    | .waitSupply => s.suspendWaiting c
    | .idle | .suspended | .held | .faulted => s

/-- A waiting claim has been granted (R124, R130). A grant that finds the controller no longer waiting for it was already
given back. -/
def State.chamberGranted (s : State) (c : ChamberId) : State :=
  let x := s.chamber c
  let holds := decide (0 < s.arbiter.grants.at c.consumer)
  match x.state with
  | .waitSupply => if holds then (s.setChamber c { x with grantFlag := true }).enterPhase c else s
  | .held =>
    if holds ∧ x.prior = some .waitSupply then s.setChamber c { x with grantFlag := true, grantedHeld := true } else s
  | .idle | .sweep | .pack | .ret | .quiet | .suspended | .faulted => s

/-- A Frame Watch hold reaches the controller (R130). -/
def State.holdChamber (s : State) (c : ChamberId) : State :=
  let x := s.chamber c
  match x.state with
  | .waitSupply | .sweep | .pack | .ret | .quiet | .suspended =>
    let s := s.setChamber c { x with prior := some x.state, phaseTimer := x.phaseTimer.pause,
                                     quietTimer := x.quietTimer.pause }
    s.setChamberState c .held
  | .idle | .held | .faulted => s

/-- WATCH_CONTINUE reaches a HELD controller, or one in IDLE (R124, R130). That the prior state is none once the hold is over is the
model's. DESIGN CHOICE (assumption 50). -/
def State.chamberHoldEnd (s : State) (c : ChamberId) : State :=
  let x := s.chamber c
  match x.state with
  | .idle => s.strokeTest c
  | .held =>
    let s := s.setChamber c { x with prior := none, grantedHeld := false }
    match x.prior with
    | some .quiet =>
      if s.given c.packPermit then
        if s.quietRaised then
          let s := s.setChamber c { s.chamber c with quietTimer := x.quietTimer.resume }
          s.setChamberState c .quiet
        else s.enterPhase c
      else s.suspendStroke c
    | some .waitSupply =>
      if x.grantedHeld then s.enterPhase c
      else if s.given c.packPermit then s.setChamberState c .waitSupply
      else s.suspendWaiting c
    | some .suspended =>
      (s.setChamberState c .suspended).postNext (.groupRead c.packPermit)
    | _ => if s.given c.packPermit then s.enterPhase c else s.suspendStroke c
  | .waitSupply | .sweep | .pack | .ret | .quiet | .suspended | .faulted => s

/-- The hold ends because SERVICE level is left: grants and places are given back, and only PACK_NOW resumes (R130). That the prior
state is none once the hold is over is the model's. DESIGN CHOICE (assumption 50). -/
def State.chamberServiceEnd (s : State) (c : ChamberId) : State :=
  let x := s.chamber c
  match x.state with
  | .idle => s.strokeTest c
  | .held =>
    let s := s.setChamber c { x with prior := none, grantedHeld := false, grantFlag := false, operatorFlag := true,
                                     quietTimer := .stopped }
    (s.setChamberState c .suspended).claimNone c.consumer
  | .waitSupply | .sweep | .pack | .ret | .quiet | .suspended | .faulted => s

/-! ## Discharge (R133, R134) -/

/-- A refused DISCHARGED (R133). -/
def State.refuseDischarge (s : State) (c : ChamberId) (r : DischargeRefusal) : State :=
  let x := s.chamber c
  s.setChamber c { x with refusal := r, dischRefused := satInc x.dischRefused }

/-- The Log has written the DISCHARGE record: the chamber is reset and its load judged (R132, R134). With fill warn or fill full at 0
an empty chamber is WARN or FULL, as R132 judges it (assumption 42). -/
def State.resetChamber (s : State) (c : ChamberId) : State :=
  let x := s.chamber c
  (s.setChamber c { x with mass := 0, fill := 0, tipCounter := 0, tipsSinceDischarge := 0, pending := false,
                           refusal := .none }).judgeLoad c

/-- The states of a lift cycle (Table 3-2). -/
def ArmState.cycling : ArmState → Bool
  | .waitSupply | .running | .suspended | .paused => true
  | .idle | .held | .manual | .faulted => false

/-- The arm is in cycle, HELD from an in-cycle state included (Table 3-2). -/
def Arm.inCycle (x : Arm) : Bool :=
  match x.state with
  | .held => match x.prior with
    | some p => p.cycling
    | none => false
  | st => st.cycling

/-- DISCHARGED, judged in the order of R133. -/
def State.discharge (s : State) (c : ChamberId) : State :=
  if (s.chamber c).state ≠ .idle then s.refuseDischarge c .notIdle
  else if !s.given c.dischargePermit then s.refuseDischarge c .noPermit
  else if (s.arm c.arm).inCycle then s.refuseDischarge c .armInCycle
  else if s.log.free = 0 then s.refuseDischarge c .logFull
  else (s.placeClosed (s.dischargeRecord c)).resetChamber c

end Sys2Proof.Machine
end

