-- ==== Sys2Proof/Machine/Cycle.lean ====
section
/-! DEFINITION. The lift cycle of an arm (chapter 3): steps and programs, admission, running a step, the end of a step and of a
cycle, stopping and faulting. -/

namespace Sys2Proof.Machine

/-! ## Arm state (R44, R56, R79) -/

/-- The states in which an arm's valve group is DRIVING (R79). -/
def ArmState.drives : ArmState → Bool
  | .running | .manual => true
  | .idle | .waitSupply | .suspended | .paused | .held | .faulted => false

/-- The arm changes state and hands it to the Valve Output Unit (R79) and to its Weighing Unit, whose OPEN window stalls when
the arm leaves RUNNING (R44, R108). -/
def State.setArmState (s : State) (a : ArmId) (st : ArmState) : State :=
  let old := (s.arm a).state
  let s := s.setArm a { s.arm a with state := st }
  let s := if st.drives then s.driveGroup a.consumer else s.stopGroup a.consumer
  if old = .running ∧ st ≠ .running then s.stallWindow a else s

/-- Both timers stop with their remaining times. -/
def Arm.pauseTimers (x : Arm) : Arm := { x with stepTimer := x.stepTimer.pause, durationTimer := x.durationTimer.pause }

/-- Stopping (R56): targets and levels 0, timers stopped with their remainders, a claim of 0. -/
def State.armStop (s : State) (a : ArmId) (st : ArmState) : State :=
  ((s.setArm a (s.arm a).pauseTimers).setArmState a st).claimNone a.consumer

/-- A command that has no effect in the present state (R45). -/
def State.ignoreArmCommand (s : State) (a : ArmId) : State :=
  s.setArm a { s.arm a with cmdIgnored := satInc (s.arm a).cmdIgnored }

/-- A malformed operator arm command (R45). -/
def State.badArmCommand (s : State) (a : ArmId) : State :=
  s.setArm a { s.arm a with cmdBad := satInc (s.arm a).cmdBad }

/-! ## Steps and programs (R41 to R43) -/

/-- The kinds executed at level 0 with demand 0 and without loops (R41). -/
def EndKind.isFixed : EndKind → Bool
  | .tag | .weighGross | .weighTare | .tipMark => true
  | .position | .time => false

/-- The flow a step claims (R41). -/
def StepEntry.claimed (t : StepEntry) : Nat := if t.endKind.isFixed then 0 else t.demand

/-- The functions a step drives (R41, R50). -/
def StepEntry.driven (t : StepEntry) : FnSet := if t.endKind.isFixed then 0 else t.functions

/-- The level a step drives at (R41). -/
def StepEntry.target (t : StepEntry) : Nat := if t.endKind.isFixed then 0 else t.level

/-- The loop-back count in effect (R41). -/
def StepEntry.loops (t : StepEntry) : Nat := if t.endKind.isFixed then 0 else t.loopCount

/-- LIFT_UP, the third of the arm functions (Table 4-2). -/
def StepEntry.liftsUp (t : StepEntry) : Bool := t.functions.getLsbD 2

/-- Passed over in a refused cycle (R54). -/
def StepEntry.passedOver (t : StepEntry) : Bool :=
  match t.endKind with
  | .weighGross | .weighTare | .tipMark => true
  | .position | .time | .tag => t.liftsUp

/-- The program in force. -/
def State.programOf (s : State) (a : ArmId) : Option ProgramEntry := (s.arm a).program.bind (fun n => s.programs[n]?)

/-- The step at position `p` of the program in force (R42). -/
def State.stepAt (s : State) (a : ArmId) (p : Nat) : Option StepEntry :=
  (s.programOf a).bind (fun g => s.steps[g.firstStep + p - 1]?)

/-- The arm's current step. -/
def State.currentStep (s : State) (a : ArmId) : Option StepEntry := (s.arm a).position.bind (s.stepAt a)

/-- The end kind of the arm's current step. -/
def State.currentKind (s : State) (a : ArmId) : Option EndKind := (s.currentStep a).map StepEntry.endKind

/-- The steps of a run, position 1 first (R42). -/
def runOf (steps : List StepEntry) (g : ProgramEntry) : List StepEntry := (steps.drop g.firstStep).take g.stepCount

/-- The positions at which a run holds an end kind. -/
def positionsOf (k : EndKind) (run : List StepEntry) : List Nat :=
  (run.zipIdx.filter (fun e => e.1.endKind = k)).map (fun e => e.2 + 1)

/-- Conditions 4 to 7 of R43, on the positions of the fixed kinds and the return step. -/
def orderValid (tags tips gross tare : List Nat) (ret : Nat) : Bool :=
  match tags, tips with
  | [t], [m] =>
    decide (t < m) &&
    (match gross with
      | [] => true
      | [g] => decide (t < g ∧ g < m)
      | _ => false) &&
    (match tare with
      | [] => true
      | [w] => decide (m < w)
      | _ => false) &&
    decide (t < ret ∧ ret < m)
  | _, _ => false

/-- Condition 8 of R43 at position `p` (from 1) with its step. -/
def loopValid (run : List StepEntry) (p : Nat) (t : StepEntry) : Bool :=
  t.loopCount = 0 ||
    (decide (t.loopDistance + 1 ≤ p) &&
      ((run.drop (p - t.loopDistance - 1)).take (t.loopDistance + 1)).all (fun u => !u.endKind.isFixed))

/-- A program is valid for START (R43). -/
def programValid (steps : List StepEntry) (g : ProgramEntry) : Bool :=
  let run := runOf steps g
  g.valid && decide (g.firstStep + g.stepCount - 1 ≤ 191) && run.all StepEntry.valid &&
    orderValid (positionsOf .tag run) (positionsOf .tipMark run) (positionsOf .weighGross run)
      (positionsOf .weighTare run) g.returnStep &&
    run.zipIdx.all (fun e => loopValid run (e.2 + 1) e.1)

/-- The Select Table entry of an arm and a size class (R42, section 10.3). -/
def State.selected (s : State) (a : ArmId) (size : Nat) : Option Nat :=
  (s.select[(if a.second then 4 else 0) + size]?).join

/-- The program a START selects, when it is valid. -/
def State.validSelection (s : State) (a : ArmId) (size : Nat) : Option Nat :=
  match s.selected a size with
  | some n =>
    match s.programs[n]? with
    | some g => if programValid s.steps g then some n else none
    | none => none
  | none => none

/-! ## The end of the cycle (R55, R61) -/

/-- The Log closes a record, and hands it on (R142). -/
def State.closeRecord (s : State) (a : ArmId) (seq : Nat) (outcome : CycleOutcome) : State :=
  match s.log.openRecord seq with
  | none => s
  | some r =>
    let r := s.closedRecord outcome r
    let s := s.enterRecord seq (fun _ => r)
    let s := if r.flags.tipped ∧ (r.decision = .accept ∨ r.decision = .relift) then s.closeBin r.tag r.time s.clock.isSet else s
    match r.flags.tipped, r.nDiv with
    | true, some n => s.addMass a.chamber (n * s.cal.division)
    | _, _ => s

/-- The arm after its cycle: no program, position or record, loop counters 0, timers stopped (R55), the prior state dropped (R61;
assumption 50). -/
def Arm.afterCycle (x : Arm) : Arm :=
  { x with program := none, position := none, loops := List.replicate 32 0, stepTimer := .stopped, durationTimer := .stopped,
           singleStep := false, openRecord := none, prior := none, grantedHeld := false, keptEnd := false }

/-- The state an outcome leaves the arm in (R55). -/
def CycleOutcome.armState : CycleOutcome → ArmState
  | .faulted => .faulted
  | .none | .completed | .refused | .aborted | .interrupted => .idle

/-- The cycle ends with an outcome (R55, R98, R114). -/
def State.cycleEnd (s : State) (a : ArmId) (outcome : CycleOutcome) : State :=
  let seq := (s.arm a).openRecord
  let s := s.withdrawRequest a
  let s := (s.setArm a (s.arm a).afterCycle).setArmState a outcome.armState
  let s := (s.weighToIdle a).claimNone a.consumer
  match seq with
  | some n => s.closeRecord a n outcome
  | none => s

/-- An arm in cycle faults (R61); an arm already FAULTED keeps its code. -/
def State.armFault (s : State) (a : ArmId) (code : ArmFault) : State :=
  if (s.arm a).inCycle then (s.setArm a { s.arm a with fault := code }).cycleEnd a .faulted else s

/-! ## Entering a step and RUNNING (R49, R50) -/

/-- The bin decision of this step has been asked for already, or made and kept. -/
def State.decisionAsked (s : State) (a : ArmId) : Bool :=
  decide ((s.request a).state ≠ .none) || (s.arm a).keptEnd

/-- The size class the open record carries. -/
def State.openSize (s : State) (seq : Nat) : Nat := ((s.log.openRecord seq).map LogRecord.sizeClass).getD 0

/-- A weigh or TAG step entering RUNNING tells its block (R50). -/
def State.tellBlock (s : State) (a : ArmId) (k : EndKind) : State :=
  match k, (s.arm a).openRecord with
  | .weighGross, some n => s.collectGross a n
  | .weighTare, some n => s.collectTare a n
  | .tag, some n => if s.decisionAsked a then s else s.askDecision a n (s.openSize n)
  | _, _ => s

/-- The step ends as the arm enters RUNNING in it (R41, R50, R52). A TIME step does so with a duration of 0 alone: one resumed with
nothing left of its duration runs, its duration timer having run out, and where nothing is left of its time limit either, whichever
expiry is taken first acts (R51). -/
def State.endsAtEntry (s : State) (a : ArmId) (t : StepEntry) : Bool :=
  match t.endKind with
  | .position => s.termTrue t.endParam
  | .time => decide (t.endParam = 0)
  | .tipMark => true
  | .tag | .weighGross | .weighTare => (s.arm a).keptEnd

/-- Entering RUNNING in the current step: targets, timers, the test of its end, and what it asks of another block (R50). A step
of a fixed kind gives its ramp rate with its empty function set, where no level is left to ramp (R41; assumption 38). -/
def State.enterRunning (s : State) (a : ArmId) : State :=
  match s.currentStep a with
  | none => s
  | some t =>
    let s := s.setArmState a .running
    let s := s.setTargets a.consumer t.driven (List.replicate 6 t.target) t.ramp
    let x := s.arm a
    let s := s.setArm a { x with
      stepTimer := x.stepTimer.resume,
      durationTimer := if t.endKind = .time then x.durationTimer.resume else x.durationTimer }
    let ends := s.endsAtEntry a t
    let s := s.tellBlock a t.endKind
    let s := s.setArm a { s.arm a with keptEnd := ends }
    if ends then s.post (.stepEnd a) else s

/-- The step's flow is claimed: granted, RUNNING; waiting, WAIT_SUPPLY (R49). -/
def State.claimStep (s : State) (a : ArmId) : State :=
  match s.currentStep a with
  | none => s
  | some t =>
    match s.claim a.consumer t.claimed with
    | (s, true) => s.enterRunning a
    | (s, false) => s.setArmState a .waitSupply

/-- Both timers are loaded afresh for the step at position `p`, which becomes the current step (R49). -/
def State.loadStep (s : State) (a : ArmId) (p : Nat) : State :=
  let s := s.setArm a { s.arm a with position := some p, keptEnd := false }
  match s.stepAt a p with
  | none => s
  | some t =>
    s.setArm a { s.arm a with
      stepTimer := .load t.timeLimit,
      durationTimer := if t.endKind = .time then .load t.endParam else .stopped }

/-- The current step is entered or resumed with the guard read: SUSPENDED without a claim, or the claim (R49, R58, R60). -/
def State.resumeStep (s : State) (a : ArmId) : State :=
  if s.given a.runGuard then s.claimStep a else s.setArmState a .suspended

/-- Entering the step at position `p` (R49): with the guard not TRUE the arm stops by R56 into SUSPENDED. -/
def State.enterStep (s : State) (a : ArmId) (p : Nat) : State :=
  let s := s.loadStep a p
  if s.given a.runGuard then s.claimStep a else s.armStop a .suspended

/-! ## The end of a step (R53, R54, R70) -/

/-- The first position from `p` on that a refused cycle does not pass over; none: the last position was passed over (R54). -/
def State.afterPassing (s : State) (a : ArmId) (count : Nat) : Nat → Nat → Option Nat
  | 0, _ => none
  | fuel + 1, p =>
    match s.stepAt a p with
    | none => none
    | some t =>
      if (s.arm a).refused && t.passedOver then
        if count ≤ p then none else s.afterPassing a count fuel (p + 1)
      else some p

/-- Go to position `p`: enter it, or with the single-step flag make it current and pause (R53, R54, R70). -/
def State.goTo (s : State) (a : ArmId) (count p : Nat) : State :=
  match s.afterPassing a count 33 p with
  | none => s.cycleEnd a .refused
  | some q =>
    if (s.arm a).singleStep then
      let s := s.loadStep a q
      (s.setArm a { s.arm a with singleStep := false }).armStop a .paused
    else s.enterStep a q

/-- The last position of the program has ended (R53, R55). -/
def State.programDone (s : State) (a : ArmId) : State :=
  s.cycleEnd a (if (s.arm a).refused then .refused else .completed)

/-- Ending a TIP_MARK step marks the cycle tipped and hands a tip on (R53). -/
def State.markTip (s : State) (a : ArmId) : State :=
  let s := match (s.arm a).openRecord with
    | some n => s.enterRecord n LogRecord.withTipped
    | none => s
  s.post (.tip a.chamber)

/-- The loop counter of position `p`. -/
def Arm.loopCounter (x : Arm) (p : Nat) : Nat := x.loops.getD (p - 1) 0

/-- Pass on from position `p` after its step has ended (R53, R54). -/
def State.passOn (s : State) (a : ArmId) (g : ProgramEntry) (p : Nat) (t : StepEntry) : State :=
  let x := s.arm a
  if x.loopCounter p < t.loops then
    (s.setArm a { x with loops := x.loops.set (p - 1) (x.loopCounter p + 1) }).goTo a g.stepCount (p - t.loopDistance)
  else
    let s := s.setArm a { x with loops := x.loops.set (p - 1) 0 }
    if t.endKind = .tag ∧ x.refused then s.goTo a g.stepCount g.returnStep
    else if g.stepCount ≤ p then s.programDone a
    else s.goTo a g.stepCount (p + 1)

/-- The current step ends (R53). -/
def State.finishStep (s : State) (a : ArmId) : State :=
  match s.programOf a, (s.arm a).position, s.currentStep a with
  | some g, some p, some t =>
    let s := s.setArm a { s.arm a with keptEnd := false }
    let s := if t.endKind = .tipMark then s.markTip a else s
    s.passOn a g p t
  | _, _, _ => s

/-- The end noted at the entry to RUNNING is taken, unless the arm has left RUNNING meanwhile. -/
def State.stepEnded (s : State) (a : ArmId) : State :=
  if (s.arm a).state = .running ∧ (s.arm a).keptEnd then s.finishStep a else s

/-- An end event reaches the arm: it ends the step in RUNNING, and is kept elsewhere in the cycle (R52). -/
def State.endEvent (s : State) (a : ArmId) : State :=
  if (s.arm a).state = .running then s.finishStep a
  else if (s.arm a).inCycle then s.setArm a { s.arm a with keptEnd := true }
  else s

/-- The bin decision reaches the arm (R54, R96). A refusing one sets the refused flag (assumption 21). -/
def State.takeDecision (s : State) (a : ArmId) (refuses : Bool) : State :=
  if (s.arm a).inCycle then
    (s.setArm a { s.arm a with refused := (s.arm a).refused || refuses }).endEvent a
  else s

/-- The arm is RUNNING in a POSITION step whose term is TRUE (R41). -/
def State.positionReached (s : State) (a : ArmId) : Bool :=
  match s.currentStep a with
  | none => false
  | some t => decide ((s.arm a).state = .running ∧ t.endKind = .position) && s.termTrue t.endParam

/-- The term of a RUNNING POSITION step is tested after an event (R41). -/
def State.positionTest (s : State) (a : ArmId) : State := if s.positionReached a then s.finishStep a else s

/-- The step timer expires (R51). -/
def State.stepTimeout (s : State) (a : ArmId) : State :=
  let x := s.arm a
  if x.state = .running ∧ x.stepTimer.running then
    match s.currentStep a with
    | none => s
    | some t =>
      let s := s.setArm a { x with stepTimer := .stopped }
      match t.endKind with
      | .position | .time =>
        match t.onTimeout with
        | .fault => s.armFault a .stepTimeout
        | .next => s.endEvent a
      | .tag => s.tagTimeLimit a
      | .weighGross | .weighTare => s.weighTimeLimit a
      | .tipMark => s
  else s

/-- The duration of a TIME step has run (R41, R51). -/
def State.durationRun (s : State) (a : ArmId) : State :=
  let x := s.arm a
  if x.state = .running ∧ x.durationTimer.running then (s.setArm a { x with durationTimer := .stopped }).endEvent a else s

/-! ## Admission (R46 to R48) -/

/-- The admission checks in their order (R47): the refusal, and the program when there is none. -/
def State.admissionCheck (s : State) (a : ArmId) (size : Nat) : Except ArmRefusal Nat :=
  match s.validSelection a size with
  | none => .error .programInvalid
  | some n =>
    if !s.given a.liftPermit then .error .noPermit
    else if s.log.free ≤ s.cfg.reserve then .error .logReserve
    else if (s.chamber a.chamber).load = .full then .error .chamberFull
    else .ok n

/-- A refused START or STEP (R46). -/
def State.refuseStart (s : State) (a : ArmId) (r : ArmRefusal) : State :=
  (s.setArm a { s.arm a with refusal := r }).touchPage 0

/-- An admitted START or STEP takes its record and its program (R48). It is in WAIT_SUPPLY until step 1 is entered. -/
def State.openCycle (s : State) (a : ArmId) (size program : Nat) (single : Bool) : State :=
  let seq := s.log.nextSeq
  let s := s.openLift a size
  (s.setArm a { s.arm a with
    program := some program, position := some 1, loops := List.replicate 32 0, refused := false, singleStep := single,
    openRecord := some seq, refusal := .none, keptEnd := false }).setArmState a .waitSupply

/-- What faults an arm at its admission (R48). With ARM_POS unavailable and port B OFF at once a free choice gives the code that is
set first and so stays (R61; assumption 6). -/
def State.admissionFault (s : State) (a : ArmId) : State × Option ArmFault :=
  let off := decide ((s.port .portB).state = .off)
  match s.roleValue a.posRole with
  | some _ => (s, if off then some .bodyPortOff else none)
  | none =>
    if off then
      match s.eitherFirst with
      | (s, first) => (s, some (if first then .positionLost else .bodyPortOff))
    else (s, some .positionLost)

/-- An admitted START or STEP (R48). -/
def State.admitCycle (s : State) (a : ArmId) (size program : Nat) (single : Bool) : State :=
  match (s.openCycle a size program single).admissionFault a with
  | (s, some code) => s.armFault a code
  | (s, none) => s.enterStep a 1

/-- START or STEP in IDLE (R46, R69). -/
def State.tryStart (s : State) (a : ArmId) (size : Nat) (single : Bool) : State :=
  match s.admissionCheck a size with
  | .error r => s.refuseStart a r
  | .ok n => s.admitCycle a size n single

end Sys2Proof.Machine
end

