-- ==== Sys2Proof/Machine/Arms.lean ====
section
/-! DEFINITION. The Arm Sequencers outside the run of a step (chapter 3): operator commands, guard, hold, manual operation, and the
events other blocks hand them. -/

namespace Sys2Proof.Machine

/-! ## Manual operation (R65 to R68) -/

/-- LIFT_UP and LIFT_DOWN (Table 4-2). -/
def liftFunctions : FnSet := 12

/-- The signed target from a JOY value: scaling, dead band, clamp (R66). -/
def joyTarget (k : ArmSettings) (joy : Int) : Int :=
  let j := roundDiv (joy * k.fa) k.fb
  if j.natAbs ≤ 30 then 0 else holdTo (-(k.manualMax : Int)) k.manualMax j

/-- The six targets of a signed lift target: up, or down (R66). -/
def liftTargets (j : Int) : List Nat := [0, 0, j.toNat, (-j).toNat, 0, 0]

/-- The valve targets are set from the present JOY value; an unavailable JOY gives 0 (R66). -/
def State.manualTargets (s : State) (a : ArmId) : State :=
  let k := s.armSettings a
  let j := match s.roleValue a.joyRole with
    | some v => joyTarget k v
    | none => 0
  s.setTargets a.consumer liftFunctions (liftTargets j) k.manualRamp

/-- The manual claim has been granted: the flag is set and the targets follow JOY (R65, R66). -/
def State.manualGrant (s : State) (a : ArmId) : State :=
  (s.setArm a { s.arm a with manualGranted := true }).manualTargets a

/-- The arm leaves MANUAL, or HELD from MANUAL (R67). -/
def State.leaveManual (s : State) (a : ArmId) (st : ArmState) : State :=
  ((s.setArm a { s.arm a with manualGranted := false, prior := none, grantedHeld := false }).setArmState a st).claimNone a.consumer

/-- An admitted MANUAL_ENTER (R65). -/
def State.beginManual (s : State) (a : ArmId) : State :=
  let s := s.setArm a { s.arm a with manualGranted := false, lastManualPos := s.roleValue a.posRole }
  match (s.setArmState a .manual).claim a.consumer (s.armSettings a).manualDemand with
  | (s, true) => s.manualGrant a
  | (s, false) => s

/-- MANUAL_ENTER (R65). -/
def State.enterManual (s : State) (a : ArmId) : State :=
  if (s.arm a).state = .idle then
    if !s.given a.manualPermit then s.setArm a { s.arm a with refusal := .noPermit }
    else if (s.chamber a.chamber).load = .full then s.setArm a { s.arm a with refusal := .chamberFull }
    else s.beginManual a
  else s.ignoreArmCommand a

/-- MANUAL_EXIT (R67). -/
def State.exitManual (s : State) (a : ArmId) : State :=
  if (s.arm a).state = .manual then s.leaveManual a .idle else s.ignoreArmCommand a

/-- An update or change of JOY (R66). A value that a new binding of the role gives it (R28) counts as an update. DESIGN CHOICE
(assumption 52). -/
def State.joyEvent (s : State) (a : ArmId) : State :=
  if (s.arm a).state = .manual ∧ (s.arm a).manualGranted then s.manualTargets a else s

/-- The arm is HELD from MANUAL. -/
def Arm.heldManual (x : Arm) : Bool := decide (x.state = .held ∧ x.prior = some .manual)

/-- A manual tip crosses the threshold upward (R68). -/
def crossesTip (last : Option Int) (threshold : Nat) (v : Int) : Bool :=
  match last with
  | some l => decide (l < threshold ∧ (threshold : Int) ≤ v)
  | none => false

/-- An update or change of ARM_POS (R61, R67, R68). A value that a new binding of the role gives it (R28) counts as an update, and so
makes a manual tip where it crosses the threshold. DESIGN CHOICE (assumption 52). -/
def State.positionEvent (s : State) (a : ArmId) : State :=
  let x := s.arm a
  match s.roleValue a.posRole with
  | none =>
    if x.inCycle then s.armFault a .positionLost
    else if x.state = .manual ∨ x.heldManual then s.setArm a { x with lastManualPos := none }
    else s
  | some v =>
    if x.state = .manual then
      let s := s.setArm a { x with lastManualPos := some v }
      if crossesTip x.lastManualPos (s.armSettings a).tipThreshold v then (s.post (.tip a.chamber)).manualTip a else s
    else if x.heldManual then s.setArm a { x with lastManualPos := some v }
    else s

/-! ## Operator commands (R45, R57 to R59, R62) -/

/-- START with data bytes 1 to 7 of its frame (R45, R46). -/
def State.startCommand (s : State) (a : ArmId) (args : List Byte) : State :=
  match args with
  | [] => s.badArmCommand a
  | b :: _ =>
    if 3 < b.toNat then s.badArmCommand a
    else if (s.arm a).state = .idle then s.tryStart a b.toNat false
    else s.ignoreArmCommand a

/-- PAUSE (R57). -/
def State.pauseCommand (s : State) (a : ArmId) : State :=
  match (s.arm a).state with
  | .running | .waitSupply | .suspended => (s.setArm a { s.arm a with singleStep := false }).armStop a .paused
  | .idle | .paused | .held | .manual | .faulted => s.ignoreArmCommand a

/-- CONTINUE (R58). -/
def State.continueCommand (s : State) (a : ArmId) : State :=
  if (s.arm a).state = .paused then (s.setArm a { s.arm a with singleStep := false }).resumeStep a else s.ignoreArmCommand a

/-- ABORT (R59, R67). -/
def State.abortCommand (s : State) (a : ArmId) : State :=
  match (s.arm a).state with
  | .waitSupply | .running | .suspended | .paused => s.cycleEnd a .aborted
  | .manual => s.leaveManual a .idle
  | .idle | .held | .faulted => s.ignoreArmCommand a

/-- FAULT_CLEAR (R62). -/
def State.armFaultClear (s : State) (a : ArmId) : State :=
  if (s.arm a).state = .faulted then (s.setArm a { s.arm a with fault := .none }).setArmState a .idle
  else s.ignoreArmCommand a

/-- An operator arm command frame (R45, Table 3-3). -/
def State.armFrame (s : State) (a : ArmId) (f : Frame) : State :=
  match f.data with
  | [] => s.badArmCommand a
  | b :: args =>
    match b.toNat with
    | 1 => s.startCommand a args
    | 2 => s.pauseCommand a
    | 3 => s.continueCommand a
    | 4 => s.abortCommand a
    | 5 => s.enterManual a
    | 6 => s.exitManual a
    | 7 => s.armFaultClear a
    | _ => s.badArmCommand a

/-! ## Permits, supply, chamber and port (R60, R61, R67) -/

/-- A change of RUN_GUARD (R60). -/
def State.guardChange (s : State) (a : ArmId) : State :=
  match (s.arm a).state with
  | .running | .waitSupply => if s.given a.runGuard then s else s.armStop a .suspended
  | .suspended => if s.given a.runGuard then s.claimStep a else s
  | .idle | .paused | .held | .manual | .faulted => s

/-- A change of MANUAL_PERMIT (R67). -/
def State.manualPermitChange (s : State) (a : ArmId) : State :=
  if (s.arm a).state = .manual ∧ ¬ s.given a.manualPermit then s.leaveManual a .idle else s

/-- A waiting claim of the arm has been granted (R49, R63, R65). A grant already given back finds nothing to do. -/
def State.armGranted (s : State) (a : ArmId) : State :=
  let x := s.arm a
  if 0 < s.arbiter.grants.at a.consumer then
    match x.state with
    | .waitSupply => s.enterRunning a
    | .manual => if x.manualGranted then s else s.manualGrant a
    | .held =>
      if x.prior = some .waitSupply ∨ (x.prior = some .manual ∧ ¬ x.manualGranted) then
        s.setArm a { x with grantedHeld := true }
      else s
    | .idle | .running | .suspended | .paused | .faulted => s
  else s

/-- The arm's chamber has become FULL (R67). -/
def State.fullEvent (s : State) (a : ArmId) : State :=
  if (s.arm a).state = .manual then s.leaveManual a .idle else s

/-- Port B has entered OFF (R61, R67). -/
def State.bodyPortOff (s : State) (a : ArmId) : State :=
  let x := s.arm a
  if x.inCycle then s.armFault a .bodyPortOff
  else if x.state = .manual ∨ x.heldManual then
    (s.setArm a { x with fault := .bodyPortOff }).leaveManual a .faulted
  else s

/-! ## Hold (R63, R64) -/

/-- A Frame Watch hold reaches the arm (R63). -/
def State.holdArm (s : State) (a : ArmId) : State :=
  let x := s.arm a
  match x.state with
  | .running | .waitSupply | .suspended | .manual =>
    (s.setArm a { x.pauseTimers with prior := some x.state }).setArmState a .held
  | .idle | .paused | .held | .faulted => s

/-- WATCH_CONTINUE releases the hold of an arm (R64). That the prior state is none once the hold is over is the model's. DESIGN CHOICE
(assumption 50). -/
def State.armHoldEnd (s : State) (a : ArmId) : State :=
  let x := s.arm a
  if x.state = .held then
    let s := s.setArm a { x with prior := none, grantedHeld := false }
    match x.prior with
    | some .running => if s.given a.runGuard then s.enterRunning a else s.armStop a .suspended
    | some .waitSupply =>
      if !s.given a.runGuard then s.armStop a .suspended
      else if x.grantedHeld then s.enterRunning a
      else s.setArmState a .waitSupply
    | some .suspended => s.resumeStep a
    | some .manual =>
      if s.given a.manualPermit ∧ (s.chamber a.chamber).load ≠ .full then
        let s := s.setArmState a .manual
        if x.grantedHeld ∨ x.manualGranted then s.manualGrant a else s
      else s.leaveManual a .idle
    | _ => s
  else s

/-- The hold ends because SERVICE level is left (R64). That the prior state is none once the hold is over is the model's. DESIGN CHOICE
(assumption 50). -/
def State.armServiceEnd (s : State) (a : ArmId) : State :=
  let x := s.arm a
  if x.state = .held then
    let s := s.setArm a { x with prior := none, grantedHeld := false }
    match x.prior with
    | some .running | some .waitSupply | some .suspended =>
      (s.setArm a { s.arm a with singleStep := false }).armStop a .paused
    | some .manual => s.leaveManual a .idle
    | _ => s
  else s

end Sys2Proof.Machine
end

