-- ==== Sys2Proof/Machine/Handover.lean ====
section
/-! DEFINITION. Steps 4 and 5 of R38: changed groups and changed or updated signals are handed to their readers (R28 to R30), and the
SERVICE condition with what its end brings (R158, R162). -/

namespace Sys2Proof.Machine

/-! ## SERVICE level (R158, R162) -/

/-- SERVICE level is left: every entry is disarmed, and a hold ends with its frame discarded and is handed to its blocks, of which
any may take that first (R73, R158; assumption 6). The hold entry becomes none, as under WATCH_CONTINUE (R157; assumption 43). -/
def State.serviceLeft (s : State) : State :=
  let w := { s.watch with entries := s.watch.entries.map (fun e : WatchEntry => { e with armed := false }) }
  if w.isHeld then
    (s.setWatch { w with isHeld := false, holdEntry := none, register := none,
                         heldDiscarded := if w.register.isSome then satInc w.heldDiscarded else w.heldDiscarded }).postAnyOrder
      [.armServiceEnd .armA, .armServiceEnd .armB, .chamberServiceEnd .chamber0, .chamberServiceEnd .chamber1]
  else s.setWatch w

/-- The SERVICE condition is judged afresh (R162). -/
def State.judgeService (s : State) : State :=
  let now := s.serviceHolds
  if now = s.mgmt.service then s
  else
    let s := s.setMgmt { s.mgmt with service := now }
    if now then s else s.serviceLeft

/-! ## Readers (Tables 2-3 and 2-4) -/

/-- The reader of a role group acts when the group comes to be given or ceases to be (R30). Permits read only at a command have
no event. -/
def State.groupReader (s : State) (r : RoleGroup) : State :=
  match r with
  | .runGuardA => s.guardChange .armA
  | .runGuardB => s.guardChange .armB
  | .manualPermitA => s.manualPermitChange .armA
  | .manualPermitB => s.manualPermitChange .armB
  | .packPermit0 => s.packPermitChange .chamber0
  | .packPermit1 => s.packPermitChange .chamber1
  | .liftPermitA | .liftPermitB | .dischargePermit0 | .dischargePermit1 => s

/-- An update of ROUTE_TIME sets the route clock (R31). -/
def State.routeTime (s : State) : State :=
  match s.roleValue .routeTime with
  | some v => { s with clock := s.clock.setFrom v }
  | none => s

/-- The reader of a role acts on an update or a change of state (R29). VEHICLE_SPEED is handed to status page 2, whose change is noted
from then on (`State.pageMoved`). Roles read only when wanted have no event. -/
def State.roleReader (s : State) (r : Role) : State :=
  match r with
  | .parkBrake | .serviceSwitch => s.judgeService
  | .engineSpeed => s.putCapacity (capacityFor s.cfg (s.roleValue .engineSpeed))
  | .armAPos => s.positionEvent .armA
  | .armBPos => s.positionEvent .armB
  | .blade0 | .press0 => s.phaseRole .chamber0
  | .blade1 | .press1 => s.phaseRole .chamber1
  | .joyA => s.joyEvent .armA
  | .joyB => s.joyEvent .armB
  | .routeTime => s.routeTime
  | .vehicleSpeed | .tilt | .latitude | .longitude => s

/-- The entry a role is bound to. -/
def State.boundEntry (s : State) (r : Role) : Option Nat := (s.cfg.roles[r.index]?).join

/-- A role's bound entry is among those a frame updated. -/
def State.roleUpdated (s : State) (updated : List Nat) (r : Role) : Bool :=
  match s.boundEntry r with
  | some i => updated.contains i
  | none => false

/-- The role groups whose readers act on a change (R30). -/
def readGroups : List RoleGroup :=
  [.runGuardA, .runGuardB, .manualPermitA, .manualPermitB, .packPermit0, .packPermit1]

/-- The roles whose readers act on an update or a change of state (R29). -/
def readRoles : List Role :=
  [.parkBrake, .vehicleSpeed, .engineSpeed, .routeTime, .armAPos, .armBPos, .blade0, .blade1, .press0, .press1, .joyA,
   .joyB, .serviceSwitch]

/-- A role is handed on: its entry was updated, or, but for ROUTE_TIME, which is read at an update alone (R31), its state or value
has changed. -/
def State.roleMoved (old s : State) (updated : List Nat) (r : Role) : Bool :=
  s.roleUpdated updated r || (decide (r ≠ .routeTime) && decide (old.roleView r ≠ s.roleView r))

/-- The readers of the role groups that have come to be given, or ceased to be, since `old` (R30). -/
def State.movedGroups (old s : State) : List Ev :=
  (readGroups.filter (fun r => old.given r != s.given r)).map Ev.groupRead

/-- The readers of the roles that were updated or have changed since `old` (R29). -/
def State.movedRoles (old s : State) (updated : List Nat) : List Ev :=
  (readRoles.filter (State.roleMoved old s updated)).map Ev.roleRead

/-- Steps 4 and 5 of R38, from the state `old` before the event: the groups' readers before the roles' readers, each kind in a free
order, and the test of a POSITION step whose term is TRUE at a free place among them (R60, R73; assumptions 6 and 19). -/
def State.settleFrom (old : State) (updated : List Nat) (s : State) : State :=
  match s.inAnyOrder (State.movedGroups old s) with
  | (t, gs) =>
    match t.inAnyOrder (State.movedRoles old s updated) with
    | (t, rs) =>
      let place (x : State × List Ev) (a : ArmId) : State × List Ev :=
        if s.positionReached a then x.1.putAnywhere (.positionTest a) x.2 else x
      match place (place (t, gs ++ rs) .armA) .armB with
      | (t, es) => t.postAll es

/-! ## Events of the Signal and Interlock Units -/

/-- A frame delivered to SIGNALS by route entry `route` (R22, R38). -/
def State.signalFrame (s : State) (route : Nat) (f : Frame) : State :=
  let updated := s.updatedBy route f
  State.settleFrom s updated ((s.takeSignals route f).evaluateOn updated)

/-- Change one signal entry, and pass the change through (R38). -/
def State.changeSignal (s : State) (i : Nat) (f : SignalEntry → SignalEntry) : State :=
  State.settleFrom s [] ({ s with signals := s.signals.modify i f }.evaluateOn [i])

/-- The freshness limit of entry `i` is reached (R26). -/
def State.freshnessExpired (s : State) (i : Nat) : State :=
  match s.signals[i]? with
  | some e => if e.valid ∧ e.state = .fresh ∧ e.timer.running then s.changeSignal i SignalEntry.limitReached else s
  | none => s

/-- The hold time of entry `i` has passed (R26). -/
def State.holdExpired (s : State) (i : Nat) : State :=
  match s.signals[i]? with
  | some e => if e.valid ∧ e.state = .held ∧ e.timer.running then s.changeSignal i SignalEntry.holdPassed else s
  | none => s

/-- The true-delay timer of group `g` expires (R37). -/
def State.delayExpired (s : State) (g : Nat) : State :=
  match s.groups[g - 1]? with
  | some e =>
    if g ≠ 0 ∧ e.valid ∧ e.state = .pending ∧ e.timer.running then
      State.settleFrom s [] { s with groups := s.groups.modify (g - 1) GroupEntry.delayRun }
    else s
  | none => s

end Sys2Proof.Machine
end

