-- ==== Sys2Proof/Machine/Router.lean ====
section
/-! DEFINITION. The Frame Router (R15 to R20) and the consumers it delivers to (R19, R122). -/

namespace Sys2Proof.Machine

/-! ## Operator chamber commands (R122) -/

/-- A malformed operator chamber command (R122). -/
def State.badChamberCommand (s : State) : State := { s with chbCmdBad := satInc s.chbCmdBad }

/-- The chamber that byte 1 names; `args` are the data bytes after byte 0 (R122). -/
def chamberNamed (args : List Byte) : Option ChamberId :=
  match args with
  | [] => none
  | b :: _ =>
    match b.toNat with
    | 0 => some .chamber0
    | 1 => some .chamber1
    | _ => none

/-- A chamber command is handed to the controller its frame names (R122). -/
def State.toChamber (s : State) (args : List Byte) (f : State → ChamberId → State) : State :=
  match chamberNamed args with
  | none => s.badChamberCommand
  | some c => f s c

/-- An operator chamber command frame (R122). -/
def State.chamberFrame (s : State) (f : Frame) : State :=
  match f.data with
  | [] => s.badChamberCommand
  | b :: args =>
    match b.toNat with
    | 1 => s.toChamber args State.packNow
    | 2 => s.toChamber args State.discharge
    | 3 => s.toChamber args State.chamberFaultClear
    | _ => s.badChamberCommand

/-! ## Lookup (R15) -/

/-- An entry's source port fits the arrival port (R15). -/
def RouteSource.fits (src : RouteSource) (p : PortId) : Bool :=
  match src, p with
  | .any, _ => true
  | .portC, .portC => true
  | .portB, .portB => true
  | .portC, .portB => false
  | .portB, .portC => false

/-- An entry matches a frame (R15). -/
def RouteEntry.fitsFrame (e : RouteEntry) (p : PortId) (f : Frame) : Bool :=
  e.valid && e.source.fits p && decide (f.id &&& e.mask = e.matchId &&& e.mask)

/-- The first matching entry wins the frame (R15). -/
def winner (routes : List RouteEntry) (p : PortId) (f : Frame) : Option Nat :=
  routes.findIdx? (fun e => e.fitsFrame p f)

/-- Frames for this consumer are dropped while Frame Watch is HELD (R19, R156). -/
def RouteConsumer.stopsInHold : RouteConsumer → Bool
  | .armA | .armB | .chamber => true
  | .signals | .tagA | .tagB | .weighA | .weighB => false

/-- Deliver a frame to the consumer of its winning entry (R19). -/
def State.deliver (s : State) (route : Nat) (c : RouteConsumer) (f : Frame) : State :=
  match c with
  | .signals => s.signalFrame route f
  | .armA => s.armFrame .armA f
  | .armB => s.armFrame .armB f
  | .tagA => s.tagFrame .armA f
  | .tagB => s.tagFrame .armB f
  | .weighA => s.sampleFrame .armA f
  | .weighB => s.sampleFrame .armB f
  | .chamber => s.chamberFrame f

/-- A frame discarded because Frame Watch is HELD (R156). -/
def State.dropHeld (s : State) : State := s.setWatch { s.watch with heldDropped := satInc s.watch.heldDropped }

/-- Change a route entry's counts. -/
def State.countRoute (s : State) (i : Nat) (f : RouteEntry → RouteEntry) : State := { s with routes := s.routes.modify i f }

/-- The gate of an entry lets its frame pass (R17). -/
def State.gateOpen (s : State) (gate : Nat) : Bool := gate = 0 || decide (s.groupState gate = .isTrue)

/-- A frame is forwarded and delivered (R18, R19); which of the two is done first is a free choice (R10; assumption 6). Delivered first,
it is forwarded after all that the delivery sets off, what the blocks hand one another included. A frame is never forwarded while
its entry's gate group is FALSE (R18), so one whose delivery takes its own gate away is forwarded first. DEDUCED (assumption 51). -/
def State.forwardAndDeliver (s : State) (i : Nat) (e : RouteEntry) (p : PortId) (f : Frame) : State :=
  match s.eitherFirst with
  | (s, true) => (s.forwardFrame p e.cls f).deliver i e.consumer f
  | (s, false) =>
    let delivered := s.deliver i e.consumer f
    if delivered.gateOpen e.gate then delivered.post (.forward p e.cls f)
    else (s.forwardFrame p e.cls f).deliver i e.consumer f

/-- The action of a winning entry, its hit already counted (R17 to R20). `held`: frames for the held consumers are dropped (R156). -/
def State.routeAction (s : State) (held : Bool) (i : Nat) (e : RouteEntry) (p : PortId) (f : Frame) : State :=
  match e.action with
  | .drop => s
  | .forward =>
    if s.gateOpen e.gate then s.forwardFrame p e.cls f
    else s.countRoute i (fun e => { e with blocked := satInc e.blocked })
  | .consume =>
    if held && e.consumer.stopsInHold then s.dropHeld
    else if s.gateOpen e.gate then s.deliver i e.consumer f
    else s.countRoute i (fun e => { e with blocked := satInc e.blocked })
  | .both =>
    if held && e.consumer.stopsInHold then s.dropHeld
    else if s.gateOpen e.gate then s.forwardAndDeliver i e p f
    else s.countRoute i (fun e => { e with blocked := satInc e.blocked })

/-- A miss (R16). -/
def State.missFrame (s : State) (p : PortId) (f : Frame) : State :=
  let x := s.port p
  let s := s.setPort p { x with counters := { x.counters with miss := satInc x.counters.miss } }
  match s.cfg.miss.at p.second with
  | .forward => s.forwardFrame p 3 f
  | .drop => s

/-- The Router looks a frame up and does what the lookup decides (R15). -/
def State.routeFrame (s : State) (held : Bool) (p : PortId) (f : Frame) : State :=
  match winner s.routes p f with
  | none => s.missFrame p f
  | some i =>
    match s.routes[i]? with
    | none => s
    | some e => (s.countRoute i (fun e => { e with hits := satInc e.hits })).routeAction held i e p f

end Sys2Proof.Machine
end

