-- ==== Sys2Proof/WellFormed.lean ====
section
/-! DEFINITION. Which terms of `Instr` are commands the block can be given: a frame has at most 8 data bytes (R1), an
index lies in its table, and a row that is one value of a management operation carries that value. -/

namespace Sys2Proof

/-- A frame has 0 to 8 data bytes (R1). -/
def Frame.wellFormed (f : Frame) : Bool := decide (f.data.length ≤ 8)

/-- Only extended frames carry data the model sees (R1). -/
def BusFrame.wellFormed : BusFrame → Bool
  | .extended f => f.wellFormed
  | .foreign => true

/-- The data bytes after byte 0 of a frame are at most 7. -/
def argsWellFormed (args : List Byte) : Bool := decide (args.length ≤ 7)

/-- A command the block can be given. -/
def Instr.wellFormed : Instr → Bool
  | .powerOn _ => true
  | .warmReset => true
  | .frameArrival _ f => f.wellFormed
  | .frameTaken _ => true
  | .start _ args => argsWellFormed args
  | .pauseArm _ => true
  | .continueArm _ => true
  | .abortArm _ => true
  | .manualEnter _ => true
  | .manualExit _ => true
  | .faultClear _ => true
  | .packNow args => argsWellFormed args
  | .discharged args => argsWellFormed args
  | .chamberFaultClear args => argsWellFormed args
  | .errorPassive _ => true
  | .returnToActive _ => true
  | .busOff _ => true
  | .recoveryTimerExpiry _ => true
  | .transmissionEnd _ => true
  | .freshnessLimitExpiry i => decide (i < 64)
  | .holdTimeExpiry i => decide (i < 64)
  | .oneSecondTimerExpiry => true
  | .trueDelayExpiry g => decide (1 ≤ g ∧ g ≤ 32)
  | .stepTimerExpiry _ => true
  | .durationTimerExpiry _ => true
  | .repeatTimerExpiry => true
  | .runDownTimerExpiry => true
  | .valveTick => true
  | .stillFrameInterval _ => true
  | .gapTimerExpiry _ => true
  | .phaseTimerExpiry _ => true
  | .quietTimerExpiry _ => true
  | .periodTimerExpiry p => decide (p < 4)
  | .spacingTimerExpiry p => decide (p < 4)
  | .binUpdateComplete => true
  | .identify _ => true
  | .examine _ => true
  | .deposit _ => true
  | .insertBin _ => true
  | .removeBin _ => true
  | .release _ => true
  | .day _ => true
  | .stepArm _ => true
  | .watchContinueProcess q => decide (q.value = 1)
  | .watchContinueDiscard q => decide (q.value = 0)
  | .lock _ => true
  | .reset _ => true
  | .clear _ => true
  | .portClear q => decide (q.value = 0)
  | .portSet q => decide (q.value = 1)
  | .portRestart q => decide (q.value = 2)

end Sys2Proof
end

