-- ==== Sys2Proof/Machine/Agenda.lean ====
section
/-! DEFINITION. The events blocks hand one another within one command, Frame Watch's hold among them (R156, R157), and how a command
runs with all it sets off (assumptions 1, 3 and 9). -/

namespace Sys2Proof.Machine

/-! ## What the blocks hand one another (assumption 3) -/

/-- The hold as the arms and the chambers take it (R63, R130). -/
def holdTakers : List Ev := [.holdArm .armA, .holdArm .armB, .holdChamber .chamber0, .holdChamber .chamber1]

/-- The hold reaches the Weighing Units: an OPEN window stalls and its quiet request drops (R108). -/
def State.holdWeighing (s : State) : State := (s.stallWindow .armA).stallWindow .armB

/-- Entering HELD is handed to the Weighing Units, the arms and the chambers, before anything else that waits; which arm or chamber
takes it first is a free choice, and so is whether a quiet request that it drops reaches a chamber before the hold or after (R156;
assumption 6). -/
def State.takeHold (s : State) : State :=
  let quiet := s.quietRaised
  match s.holdWeighing.inAnyOrder holdTakers with
  | (s, es) =>
    if quiet then
      match s.putAnywhere (.quietChanged .chamber0) es with
      | (s, es) =>
        match s.putAnywhere (.quietChanged .chamber1) es with
        | (s, es) => s.postFirst es
    else s.postFirst es

/-- A held frame is dropped (R157). -/
def State.discardHeld (s : State) : State := s.setWatch { s.watch with heldDiscarded := satInc s.watch.heldDiscarded }

/-- A valve command frame is going to the slot of a STOPPED group (R157). -/
def State.slotStopped (s : State) (d : OwnDest) : Bool :=
  match d with
  | .slot .portB 0 => !s.valves.q0.driving
  | .slot .portB 1 => !s.valves.q1.driving
  | .slot .portB 2 => !s.valves.q2.driving
  | .slot .portB 3 => !s.valves.q3.driving
  | _ => false

/-- A hold that stands is handed to the blocks again, before anything else that waits: a block that holds already stays as it is
(R156). -/
def State.holdAgain (s : State) : State := if s.watch.isHeld then s.postFirst [.holdEntered] else s

/-- The frame that the hold register held is settled (R157). A processed frame is delivered and not dropped, even where an own
frame has made a new hold meanwhile, which then reaches what the frame has set moving (R156, assumption 39). -/
def State.settleHeld (s : State) (process : Bool) (h : HeldFrame) : State :=
  match process, h with
  | false, _ => s.discardHeld
  | true, .received p f => (s.routeFrame false p f).holdAgain
  | true, .own d f => if s.slotStopped d then s.discardHeld else s.placeOwn d f

/-- The end of a hold reaches a block. Where a frame has made a new hold meanwhile the block stays HELD, or IDLE, until that one ends
(R156, assumption 39). -/
def State.unlessHeldAnew (s : State) (t : State) : State := if s.watch.isHeld then s else t

/-- One hand-over taken by its block. -/
def handle (e : Ev) (s : State) : State :=
  match e with
  | .armGrant a => s.armGranted a
  | .chamberGrant c => s.chamberGranted c
  | .stepEnd a => s.stepEnded a
  | .decision a refuses => s.takeDecision a refuses
  | .windowEnd a => s.endEvent a
  | .chamberFull a => s.fullEvent a
  | .tip c => s.takeTip c
  | .quietChanged c => s.quietEvent c
  | .strokeTest c => s.strokeTest c
  | .groupRead r => s.groupReader r
  | .roleRead r => s.roleReader r
  | .positionTest a => s.positionTest a
  | .phaseTest c => s.phaseEntered c
  | .holdEntered => s.takeHold
  | .holdArm a => s.holdArm a
  | .holdChamber c => s.holdChamber c
  | .portOff a => s.bodyPortOff a
  | .lookup w => s.serveLookup w
  | .armHoldEnd a => s.unlessHeldAnew (s.armHoldEnd a)
  | .chamberHoldEnd c => s.unlessHeldAnew (s.chamberHoldEnd c)
  | .armServiceEnd a => s.armServiceEnd a
  | .chamberServiceEnd c => s.chamberServiceEnd c
  | .settleHeld process h => s.settleHeld process h
  | .forward p cls f => s.forwardFrame p cls f

/-- The hand-over at the head of the agenda is taken, and what it sets off is put before all that waited behind it: a grant, a decision or
the drop of a quiet request reaches its block at once (R73, R96, R108). The status pages it has changed are noted (assumption 9). -/
def State.takeHead (s : State) (e : Ev) (rest : List Ev) : State := ((handle e { s with agenda := [] }).postAll rest).notePages

/-- Take hand-overs from the head of the agenda until there is none; `fuel` bounds how many (assumption 3). -/
def drain : Nat → State → State
  | 0, s => s
  | fuel + 1, s =>
    match s.agenda with
    | [] => s
    | e :: r => drain fuel (s.takeHead e r)

/-- The page changes of what has been done are noted, and all hand-overs of the command in hand are taken. Of a status page and another
frame that one act makes pending together at port B's free transmitter, where R10 lets either be chosen first, the other frame is
placed first: a page is sent once the act that changed it is done. DESIGN CHOICE (assumption 46). A frame forwarded under BOTH has its
place by a free choice (assumption 6). -/
def State.finish (s : State) : State := drain Config.cascadeBudget s.notePages

/-- Run a command: a term that is no command of the block is refused; any other has its effect, with all it sets off
(assumption 1). -/
def run (c : Instr) (effect : State → State) (s : State) : Host.Outcome State Fault Refusal :=
  if c.wellFormed then .next (effect s).finish else .refused .notACommand

end Sys2Proof.Machine
end

