-- ==== Sys2Proof/Machine/Tables.lean ====
section
/-! DEFINITION. Reading a word of a table (EXAMINE, sections 10.3 and 10.5). `none`: an index or word that the layout does not
name (NO_SUCH). -/

namespace Sys2Proof.Machine

/-- The roles in the order of Table 2-3. -/
def allRoles : List Role :=
  [.parkBrake, .vehicleSpeed, .engineSpeed, .tilt, .routeTime, .latitude, .longitude, .armAPos, .armBPos, .blade0, .blade1,
   .press0, .press1, .joyA, .joyB, .serviceSwitch]

/-- The tables with their entries and words per entry (Table 10-4). -/
def tableSizes : List (Nat × Nat) :=
  [(14, 16), (96, 10), (64, 16), (64, 7), (32, 9), (192, 11), (16, 4), (8, 1), (4096, 9), (5, 16), (32, 3), (2048, 13),
   (8, 6), (15, 16), (4, 16)]

/-! ## Words of the entries -/

def RouteEntry.words (e : RouteEntry) : List Word :=
  [wordOfFlag e.valid, wordOf e.source.code, wordOf e.matchId.toNat, wordOf e.mask.toNat, wordOf e.action.code,
   wordOf e.consumer.code, wordOf e.gate, wordOf e.cls, wordOf e.hits, wordOf e.blocked]

def SignalEntry.words (e : SignalEntry) : List Word :=
  [wordOfFlag e.valid, wordOf e.source, wordOf e.startBit, wordOf e.width, wordOf e.order.code, wordOfFlag e.isSigned,
   wordOfInt e.numerator, wordOfInt e.denominator, wordOfInt e.offset, wordOfInt e.clampLow, wordOfInt e.clampHigh,
   wordOf e.freshnessLimit, wordOf e.holdTime, wordOfInt (e.value.getD 0),
   wordOf (e.state.code + (if e.clamped then 4 else 0)), wordOf e.shortFrames]

def TermEntry.words (t : TermEntry) : List Word :=
  [wordOfFlag t.valid, wordOf t.signal, wordOf t.comparison.code, wordOfInt t.thresholdA, wordOfInt t.thresholdB,
   wordOfInt t.hysteresis, wordOf (termResultCode t.result)]

/-- A group reference: term in bits 0 to 5, negate in bit 6, all ones when empty (section 10.3). -/
def wordOfRef : Option GroupRef → Word
  | some r => wordOf (r.term + (if r.negate then 64 else 0))
  | none => allOnes

def GroupEntry.words (g : GroupEntry) : List Word :=
  wordOfFlag g.valid :: g.refs.map wordOfRef ++ [wordOf g.trueDelay, wordOf g.state.code]

def StepEntry.words (t : StepEntry) : List Word :=
  [wordOfFlag t.valid, wordOf t.functions.toNat, wordOf t.level, wordOf t.ramp, wordOf t.demand, wordOf t.endKind.code,
   wordOf t.endParam, wordOf t.timeLimit, wordOf t.onTimeout.code, wordOf t.loopCount, wordOf t.loopDistance]

def ProgramEntry.words (g : ProgramEntry) : List Word :=
  [wordOfFlag g.valid, wordOf g.firstStep, wordOf g.stepCount, wordOf g.returnStep]

def BinData.words (d : BinData) : List Word :=
  [wordOf d.tag, wordOf d.household, wordOf d.stream, wordOf d.sizeClass, wordOf d.tariff, wordOf d.status.code]

def BinEntry.words (e : BinEntry) : List Word :=
  e.data.words ++ [wordOf e.liftCount, wordOf e.lastLiftTime, wordOf e.lastLift.code]

def ArmCalibration.words (c : ArmCalibration) : List Word :=
  [wordOfInt c.zero, wordOf c.gain, wordOf c.capacityKg, wordOf c.tiltLimit, wordOf c.windowLength, wordOf c.settleBand]

def TariffEntry.words (t : TariffEntry) : List Word := [wordOf t.rate, wordOf t.liftFee, wordOf t.unweighedFee]

def WatchEntry.words (e : WatchEntry) : List Word :=
  [wordOfFlag e.armed, wordOf e.id.toNat, wordOf e.mask.toNat, wordOf e.source.code, wordOf e.kind.code, wordOf e.hits]

/-! ## The Config Table (Table 10-5) -/

def ArmSettings.words (k : ArmSettings) : List Word :=
  [wordOf k.fa, wordOf k.fb, wordOf k.manualMax, wordOf k.manualRamp, wordOf k.manualDemand, wordOf k.tipThreshold]

/-- Indices 8 and 9: Table 7-1 from the sweep functions to the auto-pack threshold. -/
def ChamberSettings.strokeWords (k : ChamberSettings) : List Word :=
  [wordOf k.sweepFns.toNat, wordOf k.packFns.toNat, wordOf k.returnFns.toNat, wordOf k.sweepLevel, wordOf k.packLevel,
   wordOf k.returnLevel, wordOf k.ramp, wordOf k.sweepLimit, wordOf k.packLimit, wordOf k.returnLimit, wordOf k.sweepEnd,
   wordOf k.packPressure, wordOf k.endBand, wordOf k.homeBand, wordOf k.strokeDemand, wordOf k.autoPack]

/-- Indices 10 and 11. -/
def ChamberSettings.loadWords (k : ChamberSettings) : List Word :=
  [wordOf k.quietLimit, wordOf k.fillWarn, wordOf k.fillFull, wordOf k.massWarn, wordOf k.massFull]

def ConfigTable.words (c : ConfigTable) (index : Nat) : List Word :=
  match index with
  | 0 => [wordOf c.bitRate.fst, wordOf c.bitRate.snd, wordOf c.miss.fst.code, wordOf c.miss.snd.code]
  | 1 => [wordOf c.mreqBase.toNat, wordOf c.mrepBase.toNat, wordOf c.statBase.toNat, wordOf c.vcmdBase.toNat,
          wordOf c.wmirId.toNat, wordOf c.hidleId.toNat, wordOf c.tagOffset, wordOf c.lcOffset]
  | 2 => c.roles.map wordOfOption
  | 3 => c.roleGroups.map wordOf
  | 4 => [wordOf c.cIdle, wordOf c.cBoost, wordOf c.boostThreshold]
  | 5 => c.arms.fst.words
  | 6 => c.arms.snd.words
  | 7 => [wordOf c.tagWindow, wordOf c.reliftWindow, wordOf c.unknownPolicy.code, wordOf c.noTagPolicy.code]
  | 8 => c.chambers.fst.strokeWords
  | 9 => c.chambers.snd.strokeWords
  | 10 => c.chambers.fst.loadWords
  | 11 => c.chambers.snd.loadWords
  | 12 => [wordOf c.dither.q0, wordOf c.dither.q1, wordOf c.dither.q2, wordOf c.dither.q3]
  | 13 => [wordOf c.reserve]
  | _ => []

/-! ## Block state (section 10.5) -/

def Arm.words (x : Arm) : List Word :=
  [wordOf x.state.code, wordOfOption x.program, wordOfOption x.position,
   wordOf ((x.position.map (fun p => x.loops.getD (p - 1) 0)).getD 0), wordOfFlag x.singleStep, wordOfFlag x.refused,
   wordOfOption x.openRecord, wordOfOption (x.prior.map ArmState.code), wordOfFlag x.grantedHeld,
   wordOfFlag x.manualGranted,
   (match x.lastManualPos with
    | some v => wordOfInt v
    | none => allOnes),
   wordOf x.fault.code, wordOf x.refusal.code, wordOfOption (x.lastTag.map TagRead.tag), wordOf x.cmdIgnored,
   wordOf x.cmdBad]

/-- One place of the waiting list: its consumer and its demand. -/
def placeWords (l : List (Consumer × Nat)) (i : Nat) : List Word :=
  match l[i]? with
  | some (c, d) => [wordOf c.number, wordOf d]
  | none => [allOnes, allOnes]

def Arbiter.words (x : Arbiter) : List Word :=
  [wordOf x.capacity, wordOf x.grants.q0, wordOf x.grants.q1, wordOf x.grants.q2, wordOf x.grants.q3] ++
    placeWords x.waiting 0 ++ placeWords x.waiting 1 ++ placeWords x.waiting 2 ++ placeWords x.waiting 3 ++
    [wordOf x.highIdle.code]

def ValveGroup.words (g : ValveGroup) : List Word :=
  [wordOf (driveCode g.driving), wordOf g.functions.toNat] ++ g.targets.map wordOf ++ g.levels.map wordOf ++
    [wordOf g.ramp, wordOf g.alive]

/-- DEDUCED (assumption 27): OPEN 0, STALLED 1; absent, so 0, outside a collecting state. -/
def WeighUnit.conditionCode (u : WeighUnit) : Nat :=
  match u.state with
  | .collectGross | .collectTare => if u.isOpen then 0 else 1
  | .idle | .grossDone | .done => 0

def resultWords (r : Option WeighResult) : List Word :=
  [wordOfInt ((r.bind WeighResult.grams).getD 0), wordOf ((r.map (fun w => w.flags.bits)).getD 0)]

/-- The words of a Weighing Unit. The time of the live count, in ms since the reset, is read modulo 2^32: what its word reads above
4294967295 ms the manual does not state (R102). DESIGN CHOICE (assumption 47). The quiet request, which Table 6-2 calls raised or
dropped, is read as a flag: raised 1, dropped 0. DESIGN CHOICE (assumption 54). -/
def WeighUnit.words (u : WeighUnit) : List Word :=
  [wordOf u.state.code, wordOfOption u.record, wordOf u.window.length, wordOf u.lengthInForce, wordOf u.conditionCode,
   wordOfFlag u.disturbed, wordOfFlag u.quiet] ++ resultWords u.gross ++ resultWords u.tare ++
    [wordOfInt ((u.live.map Prod.fst).getD 0), wordOf ((u.live.map Prod.snd).getD 0), wordOf u.sampleShort,
     wordOf u.disturbCount, wordOf u.gapCount]

def Chamber.words (x : Chamber) (cmdBad : Nat) : List Word :=
  [wordOf x.state.code, wordOf x.phase.code,
   wordOf (bitsValue [x.quieted, x.grantFlag, x.operatorFlag, x.pending, x.grantedHeld]),
   wordOfOption (x.prior.map ChamberState.code), wordOf x.fault.code, wordOf x.refusal.code, wordOf x.tipCounter,
   wordOf x.tipsSinceDischarge, wordOf x.fill, wordOf x.mass, wordOf x.load.code, wordOf x.cmdIgnored,
   wordOf x.strokeFaults, wordOf x.dischRefused, wordOf cmdBad]

/-- Words 2 to 7 of index 11 for the hold register. -/
def registerWords (h : Option HeldFrame) : List Word :=
  let frameWords (f : Frame) : List Word :=
    [wordOf f.id.toNat, wordOf f.dlc, wordOf (joinMsb [f.byte 0, f.byte 1, f.byte 2, f.byte 3]),
     wordOf (joinMsb [f.byte 4, f.byte 5, f.byte 6, f.byte 7])]
  match h with
  | none => [0, 0, 0, 0, 0, 0]
  | some (.received .portC f) => [1, 0] ++ frameWords f
  | some (.received .portB f) => [2, 0] ++ frameWords f
  | some (.own (.slot p n) f) => [3, wordOf (n + (if p.second then 256 else 0))] ++ frameWords f
  | some (.own (.queue p cls _ _) f) => [4, wordOf (cls + (if p.second then 256 else 0))] ++ frameWords f

def Watch.words (w : Watch) : List Word :=
  [wordOf (if w.isHeld then 1 else 0), wordOfOption w.holdEntry] ++ registerWords w.register ++
    [wordOf w.reportCount, wordOf w.holdIgnored, wordOf w.heldDropped, wordOf w.heldDiscarded]

def State.clockWords (s : State) : List Word :=
  let b := s.bins
  [wordOf s.clock.count, wordOf (clockFlagCode s.clock.isSet), wordOf (if b.update.isSome then 1 else 0),
   wordOf b.requests.fst.state.code, wordOf b.requests.snd.state.code, wordOf b.tagValid.fst, wordOf b.tagNoRead.fst,
   wordOf b.tagShort.fst, wordOf b.tagValid.snd, wordOf b.tagNoRead.snd, wordOf b.tagShort.snd, wordOf b.closeMissed]

def State.blockWords (s : State) (index : Nat) : List Word :=
  match index with
  | 0 => s.arms.fst.words
  | 1 => s.arms.snd.words
  | 2 => s.arbiter.words
  | 3 => s.valves.q0.words
  | 4 => s.valves.q1.words
  | 5 => s.valves.q2.words
  | 6 => s.valves.q3.words
  | 7 => s.weigh.fst.words
  | 8 => s.weigh.snd.words
  | 9 => s.chambers.fst.words s.chbCmdBad
  | 10 => s.chambers.snd.words 0
  | 11 => s.watch.words
  | 12 => s.clockWords
  | 13 => allRoles.map (fun r => wordOf (s.roleView r).1.code)
  | 14 => allRoles.map (fun r => wordOfInt ((s.roleView r).2.getD 0))
  | _ => []

/-! ## Ports and Log -/

def Port.stateWords (x : Port) : List Word :=
  let k := x.counters
  [wordOf x.state.code, wordOfFlag x.forwardEnable, wordOf x.fifo.length, wordOf x.queue.length, wordOf k.rxOverrun,
   wordOf k.rxForeign, wordOf k.rxFlushed, wordOf k.miss, wordOf k.txFlushed, wordOf k.offDrop, wordOf k.fwdRemoved,
   wordOf k.fwdDisabled, wordOf k.passiveCount, wordOf k.activeCount, wordOf k.busoffCount]

def Port.countWords (x : Port) : List Word :=
  x.counters.txDrop.map wordOf ++ x.counters.txEvict.map wordOf ++ x.counters.superseded.map wordOf

def State.portWords (s : State) (index : Nat) : List Word :=
  match index with
  | 0 => s.ports.fst.stateWords
  | 1 => s.ports.fst.countWords
  | 2 => s.ports.snd.stateWords
  | 3 => s.ports.snd.countWords
  | _ => []

/-- The words of a record as EXAMINE reads them (R146). -/
def LogRecord.readWord (r : LogRecord) (w : Nat) : Option Word :=
  if w ≤ 11 then some (r.word w) else if w = 12 then some (wordOfFlag r.damaged) else none

/-- EXAMINE on the Log (R146). -/
def LiftLog.readWord (l : LiftLog) (index w : Nat) : Option Word :=
  if index = 0xFFFF then (l.records[l.pointer]?).bind (fun r => r.readWord w)
  else if index = 0xFFFE then
    [wordOf l.records.length, wordOf l.free, wordOf l.pointer, wordOf l.nextSeq, wordOf l.damagedCount,
     wordOf l.manualTipLost][w]?
  else (l.records[index]?).bind (fun r => r.readWord w)

/-- EXAMINE on the Bin Table (R86). -/
def BinUnit.readWord (b : BinUnit) (index w : Nat) : Option Word :=
  if index = 0xFFFF then b.staging.words[w]?
  else if index = 0xFFFE then if w = 0 then some (wordOf b.entries.length) else none
  else (b.entries[index]?).bind (fun e => e.words[w]?)

def Calibration.words (c : Calibration) (index : Nat) : List Word :=
  match index with
  | 0 => c.arms.fst.words
  | 1 => c.arms.snd.words
  | 2 => [wordOf c.division]
  | 3 => c.tiltFactors.map wordOf
  | 4 => [wordOf (lockCode c.unlocked), wordOf c.counter]
  | _ => []

/-- Group Table index: 1 to 32. -/
def groupPlace (index : Nat) : Option Nat := if index = 0 then none else some (index - 1)

/-- The word at table, index and word (sections 10.3 and 10.5). -/
def State.readWord (s : State) (table index w : Nat) : Option Word :=
  match table with
  | 0 => (s.cfg.words index)[w]?
  | 1 => (s.routes[index]?).bind (fun e => e.words[w]?)
  | 2 => (s.signals[index]?).bind (fun e => e.words[w]?)
  | 3 => (s.terms[index]?).bind (fun e => e.words[w]?)
  | 4 => (groupPlace index).bind (fun k => (s.groups[k]?).bind (fun e => e.words[w]?))
  | 5 => (s.steps[index]?).bind (fun e => e.words[w]?)
  | 6 => (s.programs[index]?).bind (fun e => e.words[w]?)
  | 7 => if w = 0 then (s.select[index]?).map wordOfOption else none
  | 8 => s.bins.readWord index w
  | 9 => (s.cal.words index)[w]?
  | 10 => (s.tariffs[index]?).bind (fun e => e.words[w]?)
  | 11 => s.log.readWord index w
  | 12 => (s.watch.entries[index]?).bind (fun e => e.words[w]?)
  | 13 => (s.blockWords index)[w]?
  | 14 => (s.portWords index)[w]?
  | _ => none

end Sys2Proof.Machine
end

