-- ==== Sys2Proof/Machine/Deposits.lean ====
section
/-! DEFINITION. DEPOSIT, table by table: what is refused, what is held to its range, and what an accepted word does (R14, R27, R28,
R32, R35, R40, R42, R72, R84, R87, R101 to R103, R121, R136, R138, R153, R166). A write answers the new value with whether it
was clamped, or the status of the refusal. -/

namespace Sys2Proof.Machine

/-! ## Ways of judging a word -/

/-- The word is taken as sent. -/
def taken {α : Type} (x : α) : Except Nat (α × Bool) := .ok (x, false)

/-- The word is taken when it is in range, and refused RANGE otherwise. -/
def inRange {α : Type} (ok : Bool) (x : α) : Except Nat (α × Bool) := if ok then taken x else .error statusRange

/-- The word is a code of an enumeration, and refused RANGE otherwise. -/
def coded {α β : Type} (o : Option β) (f : β → α) : Except Nat (α × Bool) :=
  match o with
  | some b => taken (f b)
  | none => .error statusRange

/-- The word, read as a signed number, is held to its range (assumption 13). -/
def clampNat {α : Type} (low high : Int) (q : Request) (f : Nat → α) : Except Nat (α × Bool) :=
  .ok (f (holdTo low high q.valueI).toNat, decide (holdTo low high q.valueI ≠ q.valueI))

/-- The same for a word that may be negative. -/
def clampInt {α : Type} (low high : Int) (q : Request) (f : Int → α) : Except Nat (α × Bool) :=
  .ok (f (holdTo low high q.valueI), decide (holdTo low high q.valueI ≠ q.valueI))

/-- A 29-bit identifier up to `top`, refused RANGE above it. -/
def identifier {α : Type} (top : Nat) (q : Request) (f : CanId → α) : Except Nat (α × Bool) :=
  inRange (decide (q.valueN ≤ top)) (f (BitVec.ofNat 29 q.valueN))

/-- A subset of the six functions, refused RANGE for anything else. -/
def functionSet {α : Type} (q : Request) (f : FnSet → α) : Except Nat (α × Bool) :=
  inRange (decide (q.valueN < 64)) (f (BitVec.ofNat 6 q.valueN))

/-- A word other than VALID or ARMED of an entry: LIVE while it is set, whatever the value (R14, R27, R32, R35, R153; that LIVE
comes before RANGE is the model's choice, assumption 36). -/
def unlessLive {α : Type} (live : Bool) (x : Except Nat (α × Bool)) : Except Nat (α × Bool) :=
  if live then .error statusLive else x

/-- The highest identifier. -/
def idTop : Nat := 0x1FFFFFFF

/-! ## Words of the entries -/

/-- A word of a route entry (R14). -/
def RouteEntry.write (q : Request) (e : RouteEntry) : Except Nat (RouteEntry × Bool) :=
  match q.word with
  | 0 => coded (flagOfCode q.valueN) (fun b => { e with valid := b })
  | 1 => unlessLive e.valid (coded (RouteSource.ofCode q.valueN) (fun x => { e with source := x }))
  | 2 => unlessLive e.valid (identifier idTop q (fun x => { e with matchId := x }))
  | 3 => unlessLive e.valid (identifier idTop q (fun x => { e with mask := x }))
  | 4 => unlessLive e.valid (coded (RouteAction.ofCode q.valueN) (fun x => { e with action := x }))
  | 5 => unlessLive e.valid (coded (RouteConsumer.ofCode q.valueN) (fun x => { e with consumer := x }))
  | 6 => unlessLive e.valid (inRange (decide (q.valueN ≤ 32)) { e with gate := q.valueN })
  | 7 => unlessLive e.valid (inRange (decide (q.valueN ≤ 3)) { e with cls := q.valueN })
  | _ => .error statusNoSuch

/-- A freshness limit: 0, or 10 to 5000 (R27). -/
def freshnessOf (x : Int) : Int := if x ≤ 0 then 0 else holdTo 10 5000 x

/-- A word of a signal entry (R27). -/
def SignalEntry.write (q : Request) (e : SignalEntry) : Except Nat (SignalEntry × Bool) :=
  match q.word with
  | 0 => coded (flagOfCode q.valueN) (fun b => if b then { e with valid := true } else { e.toNever with valid := false })
  | 1 => unlessLive e.valid (inRange (decide (q.valueN ≤ 95)) { e with source := q.valueN })
  | 2 => unlessLive e.valid (inRange (decide (q.valueN ≤ 63)) { e with startBit := q.valueN })
  | 3 => unlessLive e.valid (inRange (decide (1 ≤ q.valueN ∧ q.valueN ≤ 32)) { e with width := q.valueN })
  | 4 => unlessLive e.valid (coded (ByteOrder.ofCode q.valueN) (fun x => { e with order := x }))
  | 5 => unlessLive e.valid (coded (flagOfCode q.valueN) (fun x => { e with isSigned := x }))
  | 6 => unlessLive e.valid (clampInt (-32768) 32767 q (fun x => { e with numerator := x }))
  | 7 => unlessLive e.valid (clampInt 1 32767 q (fun x => { e with denominator := x }))
  | 8 => unlessLive e.valid (taken { e with offset := q.valueI })
  | 9 => unlessLive e.valid (taken { e with clampLow := q.valueI })
  | 10 => unlessLive e.valid (taken { e with clampHigh := q.valueI })
  | 11 => unlessLive e.valid
      (.ok ({ e with freshnessLimit := (freshnessOf q.valueI).toNat }, decide (freshnessOf q.valueI ≠ q.valueI)))
  | 12 => unlessLive e.valid (clampNat 0 10000 q (fun x => { e with holdTime := x }))
  | _ => .error statusNoSuch

/-- A word of a term (R32). -/
def TermEntry.write (q : Request) (t : TermEntry) : Except Nat (TermEntry × Bool) :=
  match q.word with
  | 0 => coded (flagOfCode q.valueN) (fun b => { t with valid := b })
  | 1 => unlessLive t.valid (inRange (decide (q.valueN ≤ 63)) { t with signal := q.valueN })
  | 2 => unlessLive t.valid (coded (Comparison.ofCode q.valueN) (fun x => { t with comparison := x }))
  | 3 => unlessLive t.valid (taken { t with thresholdA := q.valueI })
  | 4 => unlessLive t.valid (taken { t with thresholdB := q.valueI })
  | 5 => unlessLive t.valid (clampInt 0 2147483647 q (fun x => { t with hysteresis := x }))
  | _ => .error statusNoSuch

/-- A group reference word (section 10.3, R35): none when the value names no reference. -/
def refOfWord (q : Request) : Option (Option GroupRef) :=
  if q.value = allOnes then some none
  else if q.valueN < 128 then some (some { term := q.valueN % 64, negate := decide (64 ≤ q.valueN) })
  else none

/-- A word of a group (R35). -/
def GroupEntry.write (q : Request) (g : GroupEntry) : Except Nat (GroupEntry × Bool) :=
  match q.word with
  | 0 => coded (flagOfCode q.valueN) (fun b => { g with valid := b })
  | 7 => unlessLive g.valid (clampNat 0 2000 q (fun x => { g with trueDelay := x }))
  | w =>
    if w ≤ 6 then unlessLive g.valid (coded (refOfWord q) (fun r => { g with refs := g.refs.set (w - 1) r }))
    else .error statusNoSuch

/-- The end parameter, judged by the end kind as it stands (R40, assumption 22). -/
def StepEntry.writeEnd (q : Request) (t : StepEntry) : Except Nat (StepEntry × Bool) :=
  match t.endKind with
  | .position => inRange (decide (q.valueN ≤ 63)) { t with endParam := q.valueN }
  | .time => clampNat 0 30000 q (fun x => { t with endParam := x })
  | .tag | .weighGross | .weighTare | .tipMark => taken { t with endParam := q.valueN }

/-- A word of a step (R40). -/
def StepEntry.write (q : Request) (t : StepEntry) : Except Nat (StepEntry × Bool) :=
  match q.word with
  | 0 => coded (flagOfCode q.valueN) (fun b => { t with valid := b })
  | 1 => unlessLive t.valid (functionSet q (fun x => { t with functions := x }))
  | 2 => unlessLive t.valid (clampNat 0 1000 q (fun x => { t with level := x }))
  | 3 => unlessLive t.valid (clampNat 1 1000 q (fun x => { t with ramp := x }))
  | 4 => unlessLive t.valid (clampNat 0 100 q (fun x => { t with demand := x }))
  | 5 => unlessLive t.valid (coded (EndKind.ofCode q.valueN) (fun x => { t with endKind := x }))
  | 6 => unlessLive t.valid (t.writeEnd q)
  | 7 => unlessLive t.valid (clampNat 100 30000 q (fun x => { t with timeLimit := x }))
  | 8 => unlessLive t.valid (coded (TimeoutAction.ofCode q.valueN) (fun x => { t with onTimeout := x }))
  | 9 => unlessLive t.valid (inRange (decide (q.valueN ≤ 7)) { t with loopCount := q.valueN })
  | 10 => unlessLive t.valid (inRange (decide (1 ≤ q.valueN ∧ q.valueN ≤ 7)) { t with loopDistance := q.valueN })
  | _ => .error statusNoSuch

/-- A word of a program (R42). -/
def ProgramEntry.write (q : Request) (g : ProgramEntry) : Except Nat (ProgramEntry × Bool) :=
  match q.word with
  | 0 => coded (flagOfCode q.valueN) (fun b => { g with valid := b })
  | 1 => unlessLive g.valid (inRange (decide (q.valueN ≤ 191)) { g with firstStep := q.valueN })
  | 2 => unlessLive g.valid (inRange (decide (1 ≤ q.valueN ∧ q.valueN ≤ 32)) { g with stepCount := q.valueN })
  | 3 => unlessLive g.valid (inRange (decide (1 ≤ q.valueN ∧ q.valueN ≤ 32)) { g with returnStep := q.valueN })
  | _ => .error statusNoSuch

/-- A word of the staging entry (R87). -/
def BinData.write (q : Request) (d : BinData) : Except Nat (BinData × Bool) :=
  match q.word with
  | 0 => inRange (decide (q.valueN ≠ 0)) { d with tag := q.valueN }
  | 1 => inRange (decide (1 ≤ q.valueN ∧ q.valueN ≤ 16777215)) { d with household := q.valueN }
  | 2 => inRange (decide (q.valueN ≤ 1)) { d with stream := q.valueN }
  | 3 => inRange (decide (q.valueN ≤ 3)) { d with sizeClass := q.valueN }
  | 4 => inRange (decide (q.valueN ≤ 15)) { d with tariff := q.valueN }
  | 5 => coded (BinStatus.ofCode q.valueN) (fun x => { d with status := x })
  | 6 | 7 | 8 => .error statusRange
  | _ => .error statusNoSuch

/-- A word of an arm's calibration, with the division in force (R103). -/
def ArmCalibration.write (q : Request) (d : Nat) (c : ArmCalibration) : Except Nat (ArmCalibration × Bool) :=
  match q.word with
  | 0 => inRange (decide (-8388608 ≤ q.valueI ∧ q.valueI ≤ 8388607)) { c with zero := q.valueI }
  | 1 => inRange (decide (1 ≤ q.valueN ∧ q.valueN ≤ 131071)) { c with gain := q.valueN }
  | 2 => inRange (decide (1 ≤ q.valueN ∧ q.valueN ≤ 10 * d)) { c with capacityKg := q.valueN }
  | 3 => inRange (decide (q.valueN ≤ 1500)) { c with tiltLimit := q.valueN }
  | 4 => inRange (decide (8 ≤ q.valueN ∧ q.valueN ≤ 64)) { c with windowLength := q.valueN }
  | 5 => inRange (decide (1 ≤ q.valueN ∧ q.valueN ≤ 65535)) { c with settleBand := q.valueN }
  | _ => .error statusNoSuch

/-- The six divisions (Table 6-1). -/
def divisions : List Nat := [10, 20, 50, 100, 200, 500]

/-- A word of the Calibration Table; a deposit to index 4 is RANGE whatever its word (R103). -/
def Calibration.write (q : Request) (c : Calibration) : Except Nat (Calibration × Bool) :=
  match q.indexN with
  | 0 => (c.arms.fst.write q c.division).map (fun r => ({ c with arms := { c.arms with fst := r.1 } }, r.2))
  | 1 => (c.arms.snd.write q c.division).map (fun r => ({ c with arms := { c.arms with snd := r.1 } }, r.2))
  | 2 =>
    if q.word = 0 then
      inRange (divisions.contains q.valueN && decide (c.arms.fst.capacityKg ≤ 10 * q.valueN) &&
        decide (c.arms.snd.capacityKg ≤ 10 * q.valueN)) { c with division := q.valueN }
    else .error statusNoSuch
  | 3 =>
    inRange (decide (65536 ≤ q.valueN ∧ q.valueN ≤ 262143)) { c with tiltFactors := c.tiltFactors.set q.word q.valueN }
  | 4 => .error statusRange
  | _ => .error statusNoSuch

/-- A word of a tariff entry (R136). -/
def TariffEntry.write (q : Request) (t : TariffEntry) : Except Nat (TariffEntry × Bool) :=
  match q.word with
  | 0 => inRange (decide (q.valueN ≤ 65535)) { t with rate := q.valueN }
  | 1 => inRange (decide (q.valueN ≤ 65535)) { t with liftFee := q.valueN }
  | 2 => inRange (decide (q.valueN ≤ 65535)) { t with unweighedFee := q.valueN }
  | _ => .error statusNoSuch

/-- A word of a watch entry (R153). -/
def WatchEntry.write (q : Request) (e : WatchEntry) : Except Nat (WatchEntry × Bool) :=
  match q.word with
  | 0 => coded (flagOfCode q.valueN) (fun b => { e with armed := b })
  | 1 => unlessLive e.armed (identifier idTop q (fun x => { e with id := x }))
  | 2 => unlessLive e.armed (identifier idTop q (fun x => { e with mask := x }))
  | 3 => unlessLive e.armed (coded (WatchSource.ofCode q.valueN) (fun x => { e with source := x }))
  | 4 => unlessLive e.armed (coded (WatchKind.ofCode q.valueN) (fun x => { e with kind := x }))
  | _ => .error statusNoSuch

/-! ## Words of the Config Table (R166, Table 10-5) -/

/-- Index 0. -/
def ConfigTable.writePorts (q : Request) (c : ConfigTable) : Except Nat (ConfigTable × Bool) :=
  match q.word with
  | 0 => inRange (decide (q.valueN = 250 ∨ q.valueN = 500)) { c with bitRate := { c.bitRate with fst := q.valueN } }
  | 1 => inRange (decide (q.valueN = 250 ∨ q.valueN = 500)) { c with bitRate := { c.bitRate with snd := q.valueN } }
  | 2 => coded (MissAction.ofCode q.valueN) (fun x => { c with miss := { c.miss with fst := x } })
  | 3 => coded (MissAction.ofCode q.valueN) (fun x => { c with miss := { c.miss with snd := x } })
  | _ => .error statusNoSuch

/-- Index 1. -/
def ConfigTable.writeIds (q : Request) (c : ConfigTable) : Except Nat (ConfigTable × Bool) :=
  match q.word with
  | 0 => identifier 0x1FFFFFF0 q (fun x => { c with mreqBase := x })
  | 1 => identifier 0x1FFFFFF0 q (fun x => { c with mrepBase := x })
  | 2 => identifier 0x1FFFFFFC q (fun x => { c with statBase := x })
  | 3 => identifier 0x1FFFFFFC q (fun x => { c with vcmdBase := x })
  | 4 => identifier idTop q (fun x => { c with wmirId := x })
  | 5 => identifier idTop q (fun x => { c with hidleId := x })
  | 6 => inRange (decide (q.valueN ≤ 3)) { c with tagOffset := q.valueN }
  | 7 => inRange (decide (q.valueN ≤ 5)) { c with lcOffset := q.valueN }
  | _ => .error statusNoSuch

/-- A role binding: an entry 0 to 63, or unbound (R28). -/
def bindingOf (q : Request) : Option (Option Nat) :=
  if q.value = allOnes then some none else if q.valueN ≤ 63 then some (some q.valueN) else none

/-- Index 4: the supply settings (R72). -/
def ConfigTable.writeSupply (q : Request) (c : ConfigTable) : Except Nat (ConfigTable × Bool) :=
  match q.word with
  | 0 => clampNat 1 (min 100 c.cBoost : Nat) q (fun x => { c with cIdle := x })
  | 1 => clampNat (max 1 c.cIdle : Nat) 100 q (fun x => { c with cBoost := x })
  | 2 => clampNat 0 10000 q (fun x => { c with boostThreshold := x })
  | _ => .error statusNoSuch

/-- Indices 5 and 6: the manual settings (R166). -/
def ArmSettings.write (q : Request) (k : ArmSettings) : Except Nat (ArmSettings × Bool) :=
  match q.word with
  | 0 => clampNat 1 1000 q (fun x => { k with fa := x })
  | 1 => clampNat 1 1000 q (fun x => { k with fb := x })
  | 2 => clampNat 0 1000 q (fun x => { k with manualMax := x })
  | 3 => clampNat 1 1000 q (fun x => { k with manualRamp := x })
  | 4 => clampNat 0 100 q (fun x => { k with manualDemand := x })
  | 5 => clampNat 0 1000 q (fun x => { k with tipThreshold := x })
  | _ => .error statusNoSuch

/-- Index 7 (R101). -/
def ConfigTable.writeBins (q : Request) (c : ConfigTable) : Except Nat (ConfigTable × Bool) :=
  match q.word with
  | 0 => clampNat 500 10000 q (fun x => { c with tagWindow := x })
  | 1 => clampNat 0 120 q (fun x => { c with reliftWindow := x })
  | 2 => coded (Policy.ofCode q.valueN) (fun x => { c with unknownPolicy := x })
  | 3 => coded (Policy.ofCode q.valueN) (fun x => { c with noTagPolicy := x })
  | _ => .error statusNoSuch

/-- Indices 8 and 9 (Table 7-1, R121). -/
def ChamberSettings.writeStroke (q : Request) (k : ChamberSettings) : Except Nat (ChamberSettings × Bool) :=
  match q.word with
  | 0 => functionSet q (fun x => { k with sweepFns := x })
  | 1 => functionSet q (fun x => { k with packFns := x })
  | 2 => functionSet q (fun x => { k with returnFns := x })
  | 3 => clampNat 0 1000 q (fun x => { k with sweepLevel := x })
  | 4 => clampNat 0 1000 q (fun x => { k with packLevel := x })
  | 5 => clampNat 0 1000 q (fun x => { k with returnLevel := x })
  | 6 => clampNat 1 1000 q (fun x => { k with ramp := x })
  | 7 => clampNat 100 30000 q (fun x => { k with sweepLimit := x })
  | 8 => clampNat 100 30000 q (fun x => { k with packLimit := x })
  | 9 => clampNat 100 30000 q (fun x => { k with returnLimit := x })
  | 10 => clampNat 0 1000 q (fun x => { k with sweepEnd := x })
  | 11 => clampNat 1 400 q (fun x => { k with packPressure := x })
  | 12 => clampNat 0 1000 q (fun x => { k with endBand := x })
  | 13 => clampNat 0 1000 q (fun x => { k with homeBand := x })
  | 14 => clampNat 0 100 q (fun x => { k with strokeDemand := x })
  | 15 => clampNat 1 8 q (fun x => { k with autoPack := x })
  | _ => .error statusNoSuch

/-- Indices 10 and 11 (Table 7-1, R121). -/
def ChamberSettings.writeLoad (q : Request) (k : ChamberSettings) : Except Nat (ChamberSettings × Bool) :=
  match q.word with
  | 0 => clampNat 500 5000 q (fun x => { k with quietLimit := x })
  | 1 => clampNat 0 1000 q (fun x => { k with fillWarn := x })
  | 2 => clampNat 0 1000 q (fun x => { k with fillFull := x })
  | 3 => clampNat 1 4294967 q (fun x => { k with massWarn := x })
  | 4 => clampNat 1 4294967 q (fun x => { k with massFull := x })
  | _ => .error statusNoSuch

/-- Index 12 (R84). -/
def ConfigTable.writeDither (q : Request) (c : ConfigTable) : Except Nat (ConfigTable × Bool) :=
  match q.word with
  | 0 => clampNat 100 1500 q (fun x => { c with dither := c.dither.put .armA x })
  | 1 => clampNat 100 1500 q (fun x => { c with dither := c.dither.put .armB x })
  | 2 => clampNat 100 1500 q (fun x => { c with dither := c.dither.put .packer0 x })
  | 3 => clampNat 100 1500 q (fun x => { c with dither := c.dither.put .packer1 x })
  | _ => .error statusNoSuch

/-- An arm's settings. -/
def ConfigTable.writeArm (q : Request) (second : Bool) (c : ConfigTable) : Except Nat (ConfigTable × Bool) :=
  ((c.arms.at second).write q).map (fun r => ({ c with arms := c.arms.put second r.1 }, r.2))

/-- A chamber's settings, by one of the two writes of Table 7-1. -/
def ConfigTable.writeChamber (second : Bool) (f : ChamberSettings → Except Nat (ChamberSettings × Bool)) (c : ConfigTable) :
    Except Nat (ConfigTable × Bool) :=
  (f (c.chambers.at second)).map (fun r => ({ c with chambers := c.chambers.put second r.1 }, r.2))

/-- A word of the Config Table (R166). -/
def ConfigTable.write (q : Request) (c : ConfigTable) : Except Nat (ConfigTable × Bool) :=
  match q.indexN with
  | 0 => c.writePorts q
  | 1 => c.writeIds q
  | 2 => coded (bindingOf q) (fun b => { c with roles := c.roles.set q.word b })
  | 3 =>
    if q.word ≤ 9 then inRange (decide (q.valueN ≤ 32)) { c with roleGroups := c.roleGroups.set q.word q.valueN }
    else .error statusNoSuch
  | 4 => c.writeSupply q
  | 5 => c.writeArm q false
  | 6 => c.writeArm q true
  | 7 => c.writeBins q
  | 8 => c.writeChamber false (ChamberSettings.writeStroke q)
  | 9 => c.writeChamber true (ChamberSettings.writeStroke q)
  | 10 => c.writeChamber false (ChamberSettings.writeLoad q)
  | 11 => c.writeChamber true (ChamberSettings.writeLoad q)
  | 12 => c.writeDither q
  | 13 => if q.word = 0 then clampNat 0 64 q (fun x => { c with reserve := x }) else .error statusNoSuch
  | _ => .error statusNoSuch

/-! ## What an accepted word does -/

/-- The events an accepted Config word brings: bindings (R28), capacity (R72), thresholds (R123, R132). -/
def State.configChanged (s : State) (index word : Nat) (old : State) : State :=
  match index with
  | 2 =>
    let s := State.settleFrom old [] s
    if word = Role.engineSpeed.index then s.putCapacity (capacityFor s.cfg (s.roleValue .engineSpeed)) else s
  | 3 => State.settleFrom old [] s
  | 4 => s.putCapacity (capacityFor s.cfg (s.roleValue .engineSpeed))
  | 8 => if word = 15 then s.autoPackTest .chamber0 else s
  | 9 => if word = 15 then s.autoPackTest .chamber1 else s
  | 10 => if word = 0 then s else s.judgeLoad .chamber0
  | 11 => if word = 0 then s else s.judgeLoad .chamber1
  | _ => s

/-- A step is in use: an arm is in cycle and the step lies in the run of its program (R40). -/
def State.stepInUse (s : State) (i : Nat) : Bool :=
  let used (a : ArmId) : Bool :=
    (s.arm a).inCycle &&
      match s.programOf a with
      | some g => decide (g.firstStep ≤ i ∧ i < g.firstStep + g.stepCount)
      | none => false
  used .armA || used .armB

/-- A program is the program of an arm in cycle (R42). -/
def State.programInUse (s : State) (i : Nat) : Bool :=
  let used (a : ArmId) : Bool := (s.arm a).inCycle && decide ((s.arm a).program = some i)
  used .armA || used .armB

/-- Write one entry of a list. -/
def writeEntry {α : Type} (l : List α) (i : Nat) (f : α → Except Nat (α × Bool)) (put : α → α → State) :
    Except Nat (State × Bool) :=
  match l[i]? with
  | none => .error statusNoSuch
  | some e => (f e).map (fun r => (put e r.1, r.2))

/-- An accepted signal word: a cleared VALID is an event for its terms and role readers (R27). -/
def State.putSignal (s : State) (i : Nat) (old new : SignalEntry) : State :=
  let t := { s with signals := s.signals.set i new }
  if old.valid = new.valid then t else State.settleFrom s [] (t.evaluateOn [i])

/-- An accepted term word: a set VALID evaluates the term from FALSE, a cleared one makes it FALSE; its groups follow (R32). -/
def State.putTerm (s : State) (i : Nat) (old new : TermEntry) : State :=
  if old.valid = new.valid then { s with terms := s.terms.set i new }
  else
    let t := { s with terms := s.terms.set i ({ new with result := false }.evaluate s.signals) }
    State.settleFrom s [] (t.evaluateGroupsOn (fun k => k == i))

/-- An accepted group word: a set VALID evaluates the group from FALSE, a cleared one makes it FALSE (R35). -/
def State.putGroup (s : State) (k : Nat) (old new : GroupEntry) : State :=
  if old.valid = new.valid then { s with groups := s.groups.set k new }
  else
    let g := s.evaluateGroup { new with state := .isFalse, timer := .stopped }
    State.settleFrom s [] { s with groups := s.groups.set k g }

/-- A VALID word cleared while the entry is in use is refused LIVE (R40, R42). -/
def liveWhenCleared (q : Request) (inUse : Bool) (x : Except Nat (State × Bool)) : Except Nat (State × Bool) :=
  if q.word = 0 ∧ q.valueN = 0 ∧ inUse then .error statusLive else x

/-- A Select Table word (R42). -/
def State.writeSelect (s : State) (q : Request) : Except Nat (State × Bool) :=
  if s.select.length ≤ q.indexN ∨ q.word ≠ 0 then .error statusNoSuch
  else if q.value = allOnes then taken { s with select := s.select.set q.indexN none }
  else inRange (decide (q.valueN ≤ 15)) { s with select := s.select.set q.indexN (some q.valueN) }

/-- A staging word, at index 0xFFFF alone (R87). -/
def State.writeStaging (s : State) (q : Request) : Except Nat (State × Bool) :=
  if q.indexN = 0xFFFF then
    (s.bins.staging.write q).map (fun r => (s.setBins { s.bins with staging := r.1 }, r.2))
  else .error statusRange

/-- DEPOSIT judged by its table's chapter (step 4 of R161). -/
def State.depositWord (s : State) (q : Request) : Except Nat (State × Bool) :=
  let i := q.indexN
  match q.table with
  | 0 => (s.cfg.write q).map (fun r => (({ s with cfg := r.1 } : State).configChanged i q.word s, r.2))
  | 1 => writeEntry s.routes i (RouteEntry.write q) (fun _ e => { s with routes := s.routes.set i e })
  | 2 => writeEntry s.signals i (SignalEntry.write q) (s.putSignal i)
  | 3 => writeEntry s.terms i (TermEntry.write q) (s.putTerm i)
  | 4 =>
    match groupPlace i with
    | none => .error statusNoSuch
    | some k => writeEntry s.groups k (GroupEntry.write q) (s.putGroup k)
  | 5 =>
    liveWhenCleared q (s.stepInUse i)
      (writeEntry s.steps i (StepEntry.write q) (fun _ e => { s with steps := s.steps.set i e }))
  | 6 =>
    liveWhenCleared q (s.programInUse i)
      (writeEntry s.programs i (ProgramEntry.write q) (fun _ e => { s with programs := s.programs.set i e }))
  | 7 => s.writeSelect q
  | 8 => s.writeStaging q
  | 9 => (s.cal.write q).map (fun r => ({ s with cal := r.1 }, r.2))
  | 10 => writeEntry s.tariffs i (TariffEntry.write q) (fun _ e => { s with tariffs := s.tariffs.set i e })
  | 12 =>
    writeEntry s.watch.entries i (WatchEntry.write q)
      (fun _ e => s.setWatch { s.watch with entries := s.watch.entries.set i e })
  | _ => .error statusNoSuch

/-! ## CLEAR (R163) -/

/-- Either arm is in cycle. -/
def State.anyInCycle (s : State) : Bool := (s.arm .armA).inCycle || (s.arm .armB).inCycle

/-- CLEAR of the Signal Table: every entry cleared, the terms evaluated (R21). All entries change as one event (R38; assumption 41). -/
def State.clearSignals (s : State) : State :=
  let t := { s with signals := s.signals.map (fun _ => SignalEntry.cleared) }
  State.settleFrom s [] (t.evaluateOn (List.range s.signals.length))

/-- CLEAR of the Term Table (R32), as one event (assumption 41). -/
def State.clearTerms (s : State) : State :=
  let t := { s with terms := s.terms.map (fun _ => TermEntry.cleared) }
  State.settleFrom s [] (t.evaluateGroupsOn (fun _ => true))

/-- CLEAR of the Group Table (R35), as one event (assumption 41). -/
def State.clearGroups (s : State) : State :=
  State.settleFrom s [] { s with groups := s.groups.map (fun _ => GroupEntry.cleared) }

/-- CLEAR of the watch entries (R152). -/
def State.clearWatch (s : State) : State :=
  s.setWatch { s.watch with entries := s.watch.entries.map (fun _ => WatchEntry.cleared) }

/-- CLEAR judged by its table's chapter (R163): the state afterwards, or the status of the refusal. -/
def State.clearTable (s : State) (table : Nat) : Except Nat State :=
  match table with
  | 1 => .ok { s with routes := s.routes.map (fun _ => RouteEntry.cleared) }
  | 2 => .ok s.clearSignals
  | 3 => .ok s.clearTerms
  | 4 => .ok s.clearGroups
  | 5 => if s.anyInCycle then .error statusLive else .ok { s with steps := s.steps.map (fun _ => StepEntry.cleared) }
  | 6 =>
    if s.anyInCycle then .error statusLive else .ok { s with programs := s.programs.map (fun _ => ProgramEntry.cleared) }
  | 7 => .ok { s with select := s.select.map (fun _ => none) }
  | 8 => if s.bins.update.isSome then .error statusBusy else .ok (s.setBins { s.bins with entries := [] })
  | 10 => .ok { s with tariffs := s.tariffs.map (fun _ => TariffEntry.cleared) }
  | 12 => if s.watch.isHeld then .error statusLive else .ok s.clearWatch
  | _ => .error statusRange

end Sys2Proof.Machine
end

