-- ==== Sys2Proof/Machine/Management.lean ====
section
/-! DEFINITION. The Management Unit (chapter 10): replies, the order in which a request is judged, and every operation; then the
handling of a frame taken from a receive FIFO (R13). -/

namespace Sys2Proof.Machine

/-! ## Replies (R160, R161) -/

/-- A reply frame (Table 10-6). -/
def replyFrame (base : CanId) (op status : Nat) (q : Request) (index : BitVec 16) (value : Word) : Frame :=
  { id := base + q.node.setWidth 29,
    data := [BitVec.ofNat 8 (status * 16 + op % 16), q.tableWord] ++ splitMsb 2 index.toNat ++ splitMsb 4 value.toNat }

/-- Offer a reply to Frame Watch and port B's queue at class 1 (R160). -/
def State.offerReply (s : State) (ofReset : Bool) (f : Frame) : State := s.offerOwn (.queue .portB 1 .reply ofReset) f

/-- Reply to a request. -/
def State.reply (s : State) (op : MgmtOp) (status : Nat) (q : Request) (index : BitVec 16) (value : Word) : State :=
  s.offerReply (op = .reset && status = statusOk) (replyFrame s.cfg.mrepBase op.code status q index value)

/-- No request is in progress any more. -/
def State.requestEnds (s : State) : State := s.setMgmt { s.mgmt with inProgress := none }

/-- Page changes and hand-overs are taken, then the reply is offered, and the request in progress ends (R160). The reply thus comes
after the status pages that the request changes (assumption 44). -/
def State.answer (s : State) (op : MgmtOp) (status : Nat) (q : Request) (value : Word) : State :=
  (s.finish.reply op status q q.index value).requestEnds

/-- The operation names a word: EXAMINE and DEPOSIT. -/
def MgmtOp.namesWord : MgmtOp → Bool
  | .examine | .deposit => true
  | .identify | .insert | .remove | .release | .day | .step | .watchContinue | .lock | .reset | .clear | .port => false

/-- The value of a refused reply: the word as it stands, all ones under NO_SUCH, and a free value when the request names no
word (R161, assumption 5). -/
def State.refusedValue (s : State) (op : MgmtOp) (q : Request) (status : Nat) : State × Word :=
  if status = statusNoSuch then (s, allOnes)
  else if op = .step ∧ (status = statusBusy ∨ status = statusRange) then (s, 0)
  else
    match if op.namesWord then s.readWord q.table q.indexN q.word else none with
    | some w => (s, w)
    | none => ({ s with freeCount := s.freeCount + 1 }, Config.freeReplyValue s.freeCount)

/-- A request that finds another in progress is answered BUSY (R160); an IDENTIFY echoes its index (assumption 40). -/
def State.answerBusy (s : State) (op : MgmtOp) (q : Request) : State :=
  let (s, v) := s.refusedValue op q statusBusy
  s.reply op statusBusy q q.index v

/-- The request in progress is refused. -/
def State.refuse (s : State) (op : MgmtOp) (q : Request) (status : Nat) : State :=
  let (s, v) := s.refusedValue op q status
  s.answer op status q v

/-! ## Judging (R161, R162) -/

/-- A DEPOSIT names a table that takes none, or a word that holds a count or a volatile state (R161, step 2), whatever its index
(assumption 45). -/
def readOnlyDeposit (table word : Nat) : Bool :=
  match table with
  | 1 => word = 8 || word = 9
  | 2 => word = 13 || word = 14 || word = 15
  | 3 => word = 6
  | 4 => word = 8
  | 12 => word = 5
  | 11 | 13 | 14 => true
  | _ => false

/-- The tables CLEAR is accepted for (R163). -/
def clearable (table : Nat) : Bool :=
  match table with
  | 1 | 2 | 3 | 4 | 5 | 6 | 7 | 8 | 10 | 12 => true
  | _ => false

/-- The access condition a DEPOSIT needs (Table 10-3): SERVICE; METROLOGY for Calibration; none for Bin staging. -/
def State.depositAllowed (s : State) (table : Nat) : Bool :=
  match table with
  | 8 => true
  | 9 => s.cal.unlocked
  | _ => s.mgmt.service

/-- The access condition an operation needs holds (Table 10-3). -/
def State.levelHolds (s : State) (op : MgmtOp) (table : Nat) : Bool :=
  match op with
  | .identify | .examine | .insert | .remove | .release | .day => true
  | .deposit => s.depositAllowed table
  | .step | .watchContinue | .reset | .clear | .port => s.mgmt.service
  | .lock => s.cal.unlocked

/-- Steps 1 to 3 of R161: the status of the first failure. -/
def State.judgeRequest (s : State) (op : MgmtOp) (q : Request) : Option Nat :=
  let takesTable := op = .examine ∨ op = .deposit ∨ op = .clear
  if takesTable ∧ 14 < q.table then some statusNoSuch
  else if op = .deposit ∧ readOnlyDeposit q.table q.word then some statusRange
  else if op = .clear ∧ ¬ clearable q.table then some statusRange
  else if s.levelHolds op q.table then none
  else some statusLevel

/-! ## The operations (step 4 of R161) -/

/-- A capability record (R163, Table 10-6). -/
def capabilityRecord (k : Nat) (e : Nat × Nat) : Word := wordOf (k * 2 ^ 24 + e.1 * 2 ^ 8 + e.2)

/-- IDENTIFY (R163): the reply's index is the next record's. A refused one, which has no next record, echoes the index of the
request (assumption 40). -/
def State.doIdentify (s : State) (q : Request) : State :=
  match tableSizes[q.indexN]? with
  | none => s.refuse .identify q statusNoSuch
  | some e =>
    let next := if q.indexN = 14 then 0x00FF else q.indexN + 1
    (s.finish.reply .identify statusOk q (BitVec.ofNat 16 next) (capabilityRecord q.indexN e)).requestEnds

/-- Reading word 11 of a CLOSED record at the read pointer advances the pointer (R147). -/
def LiftLog.afterRead (l : LiftLog) (q : Request) : LiftLog :=
  if q.table = 11 ∧ q.indexN = 0xFFFF ∧ q.word = 11 then
    match l.records[l.pointer]? with
    | some r => if r.closed then { l with pointer := l.pointer + 1 } else l
    | none => l
  else l

/-- EXAMINE (R146, R161). -/
def State.doExamine (s : State) (q : Request) : State :=
  match s.readWord q.table q.indexN q.word with
  | none => s.refuse .examine q statusNoSuch
  | some w => (s.setLog (s.log.afterRead q)).answer .examine statusOk q w

/-- DEPOSIT (R161): the reply carries the stored word. -/
def State.doDeposit (s : State) (q : Request) : State :=
  match s.depositWord q with
  | .error status => s.refuse .deposit q status
  | .ok (t, wasClamped) =>
    t.answer .deposit (if wasClamped then statusOkClamped else statusOk) q
      ((t.readWord q.table q.indexN q.word).getD 0)

/-- INSERT (R88): answered at its completion when it is accepted. -/
def State.doInsert (s : State) (q : Request) : State :=
  let d := s.bins.staging
  if d.tag = 0 ∨ d.household = 0 then s.refuse .insert q statusRange
  else if (findBin d.tag s.bins.entries).isNone ∧ Config.binCapacity ≤ s.bins.entries.length then
    s.refuse .insert q statusFull
  else s.startUpdate (.insert d)

/-- REMOVE (R89): answered at its completion when it is accepted. -/
def State.doRemove (s : State) (q : Request) : State :=
  if (findBin q.valueN s.bins.entries).isNone then s.refuse .remove q statusNoSuch
  else s.startUpdate (.remove q.valueN)

/-- RELEASE (R148). -/
def State.doRelease (s : State) (q : Request) : State :=
  let (l, last) := s.log.release q.valueN
  (s.setLog l).answer .release statusOk q (wordOf last)

/-- DAY (R91). -/
def State.doDay (s : State) (q : Request) : State :=
  if s.bins.update.isSome then s.refuse .day q statusBusy
  else (s.setBins { s.bins with entries := dayBins s.bins.entries }).answer .day statusOk q 0

/-- The arm a STEP names. -/
def armOfIndex (n : Nat) : Option ArmId :=
  match n with
  | 0 => some .armA
  | 1 => some .armB
  | _ => none

/-- STEP (R69, R70; assumption 15). -/
def State.doStep (s : State) (q : Request) : State :=
  match armOfIndex q.indexN with
  | none => s.refuse .step q statusRange
  | some a =>
    if s.watch.isHeld then s.refuse .step q statusBusy
    else
      match (s.arm a).state with
      | .idle =>
        if 3 < q.valueN then s.refuse .step q statusRange
        else
          let t := s.tryStart a q.valueN true
          t.answer .step statusOk q (wordOf (t.arm a).refusal.code)
      | .paused => ((s.setArm a { s.arm a with singleStep := true }).resumeStep a).answer .step statusOk q 0
      | .waitSupply | .running | .suspended | .held | .manual | .faulted => s.refuse .step q statusBusy

/-- The end of a hold as its blocks can take it: every HELD arm and chamber, and an IDLE chamber with a stroke to start (R64, R124,
R130). -/
def State.holdEnds (s : State) : List Ev :=
  ([ArmId.armA, .armB].filter (fun a => decide ((s.arm a).state = .held))).map Ev.armHoldEnd ++
    ([ChamberId.chamber0, .chamber1].filter (fun c =>
      decide ((s.chamber c).state = .held ∨ (s.chamber c).state = .idle ∧ (s.chamber c).pending = true))).map Ev.chamberHoldEnd

/-- The end of a hold handed to its blocks, of which any may take it first (R73, R130, R157; assumption 6). -/
def State.handHoldEnd (s : State) : State := s.postAnyOrder s.holdEnds

/-- The frame taken out of the hold register is settled after the end of the hold has been handed on (R157). -/
def settleEvents (process : Bool) : Option HeldFrame → List Ev
  | none => []
  | some h => [.settleHeld process h]

/-- WATCH_CONTINUE (R157). The register's frame is taken out at once, so that a frame kept by a new hold while the end of this one
is handed on finds the register empty (assumption 39). It is settled when every block has taken the end of the hold with all that
this sets off: a grant given back has reached the arm that waited for it, whose group is DRIVING again by then. -/
def State.doWatchContinue (s : State) (q : Request) : State :=
  if 1 < q.valueN then s.refuse .watchContinue q statusRange
  else if s.watch.isHeld then
    let held := s.watch.register
    let s := (s.setWatch { s.watch with isHeld := false, holdEntry := none, register := none }).handHoldEnd
    (s.postAll (settleEvents (q.valueN = 1) held)).answer .watchContinue statusOk q 1
  else s.answer .watchContinue statusOk q 0

/-- LOCK (R104). -/
def State.doLock (s : State) (q : Request) : State :=
  ({ s with cal := { s.cal with unlocked := false } } : State).answer .lock statusOk q 0

/-- RESET (R164): it stays the request in progress until the warm reset. -/
def State.doReset (s : State) (q : Request) : State := s.reply .reset statusOk q q.index 0

/-- CLEAR (R163). -/
def State.doClear (s : State) (q : Request) : State :=
  match s.clearTable q.table with
  | .error status => s.refuse .clear q status
  | .ok t => t.answer .clear statusOk q 0

/-- The port a PORT request names. -/
def portOfIndex (n : Nat) : Option PortId :=
  match n with
  | 0 => some .portC
  | 1 => some .portB
  | _ => none

/-- PORT (R165). -/
def State.doPort (s : State) (q : Request) : State :=
  match portOfIndex q.indexN, q.valueN with
  | some p, 0 => (s.setPort p (s.port p).clearForward).answer .port statusOk q 0
  | some p, 1 => (s.setPort p (s.port p).setForward).answer .port statusOk q 0
  | some p, 2 => (s.restartPort p).answer .port statusOk q 0
  | _, _ => s.refuse .port q statusRange

/-- The operation of a request that has passed steps 1 to 3 of R161. -/
def State.operate (s : State) (op : MgmtOp) (q : Request) : State :=
  match op with
  | .identify => s.doIdentify q
  | .examine => s.doExamine q
  | .deposit => s.doDeposit q
  | .insert => s.doInsert q
  | .remove => s.doRemove q
  | .release => s.doRelease q
  | .day => s.doDay q
  | .step => s.doStep q
  | .watchContinue => s.doWatchContinue q
  | .lock => s.doLock q
  | .reset => s.doReset q
  | .clear => s.doClear q
  | .port => s.doPort q

/-- A well-formed request taken by the Management Unit (R160, R161). -/
def State.manage (s : State) (op : MgmtOp) (q : Request) : State :=
  if s.mgmt.inProgress.isSome then s.answerBusy op q
  else
    let s := s.setMgmt { s.mgmt with inProgress := some (op, q) }
    match s.judgeRequest op q with
    | some status => s.refuse op q status
    | none => s.operate op q

/-- The completion of an INSERT or REMOVE in flight (R88 to R90). -/
def State.completeUpdate (s : State) : State :=
  match s.bins.update with
  | none => s
  | some c =>
    let s := s.applyUpdate c
    match s.mgmt.inProgress with
    | some (op, q) => ((s.reply op statusOk q q.index 0).requestEnds).serveLookups
    | none => s.serveLookups

/-! ## A frame taken from a FIFO (R13) -/

/-- A malformed request is answered RANGE, echoing the bytes present (R160, assumption 26). -/
def State.answerMalformed (s : State) (node : BitVec 4) (f : Frame) : State :=
  let q := requestOf node f
  s.offerReply false (replyFrame s.cfg.mrepBase (f.byte 0).toNat statusRange q q.index q.value)

/-- The requester node of a management identifier, when it lies in the range (R13, R160). -/
def requesterOf (base id : CanId) : Option (BitVec 4) :=
  if base.toNat ≤ id.toNat ∧ id.toNat ≤ base.toNat + 15 then some (BitVec.ofNat 4 (id.toNat - base.toNat)) else none

/-- A management request frame (R160). -/
def State.managementFrame (s : State) (node : BitVec 4) (f : Frame) : State :=
  if f.dlc < 8 then s.answerMalformed node f
  else
    match MgmtOp.ofCode (f.byte 0).toNat with
    | none => s.answerMalformed node f
    | some op => s.manage op (requestOf node f)

/-- A frame taken under HOLD_AFTER is handled in full, and the hold follows, even where the handling has left SERVICE level and so
disarmed the entry; a hold made meanwhile leaves this one ignored (R13, R155, R158; assumption 17). -/
def State.holdAfter (s : State) (i : Nat) : State :=
  let s := s.finish
  if s.watch.isHeld then s.setWatch { s.watch with holdIgnored := satInc s.watch.holdIgnored } else s.enterHeld i

/-- A frame that is not a management request passes Frame Watch and reaches the Router (R13, R155). -/
def State.watchedFrame (s : State) (p : PortId) (f : Frame) : State :=
  match s.watchTest (some p) p f with
  | (s, none) => s.routeFrame s.watch.isHeld p f
  | (s, some (i, false)) => (s.routeFrame s.watch.isHeld p f).holdAfter i
  | (s, some (i, true)) => (s.setWatch { s.watch with register := some (.received p f) }).enterHeld i

/-- The handling of a frame (R13). -/
def State.handleFrame (s : State) (p : PortId) (f : Frame) : State :=
  match p with
  | .portC => s.watchedFrame .portC f
  | .portB =>
    match requesterOf s.cfg.mreqBase f.id with
    | some node => s.managementFrame node f
    | none => s.watchedFrame .portB f

/-- The head of a FIFO is taken and handled (R2, R13); an empty FIFO gives nothing. -/
def State.takeFrame (s : State) (p : PortId) : State :=
  match (s.port p).fifo with
  | [] => s
  | f :: r => (s.setPort p { s.port p with fifo := r }).handleFrame p f

end Sys2Proof.Machine
end

