-- ==== Sys2Proof/Machine/Resets.lean ====
section
/-! DEFINITION. POWER_ON and WARM_RESET: what every block keeps and what begins afresh (R1, R14, R21, R31, R32, R35, R44, R71, R78,
R87, R104, R106, R121, R149, R152, R160, R167). -/

namespace Sys2Proof.Machine

/-- A route entry after a reset: both counts 0 (R14). -/
def RouteEntry.restarted (e : RouteEntry) : RouteEntry := { e with hits := 0, blocked := 0 }

/-- A signal entry after a reset: NEVER, counts 0 (R21). -/
def SignalEntry.restarted (e : SignalEntry) : SignalEntry := { e.toNever with shortFrames := 0 }

/-- A term after a reset (R32). -/
def TermEntry.restarted (t : TermEntry) : TermEntry := { t with result := false }

/-- A group after a reset (R35). -/
def GroupEntry.restarted (g : GroupEntry) : GroupEntry := { g with state := .isFalse, timer := .stopped }

/-- Frame Watch after a reset (R152, R159). -/
def Watch.restarted (w : Watch) : Watch :=
  { entries := w.entries.map (fun e => { e with armed := false, hits := 0 }), isHeld := false, holdEntry := none,
    register := none, reportCount := 0, holdIgnored := 0, heldDropped := 0, heldDiscarded := 0 }

/-- A Compaction Controller after a reset, over its retained counts (R121). -/
def Chamber.restarted (x : Chamber) : Chamber := .fresh x.tipCounter x.tipsSinceDischarge x.fill x.mass

/-- The retained state, with the volatile state of every block begun afresh (section 3 of 00_scope.md). -/
def State.volatileFresh (s : State) : State :=
  { s with
    now := 0,
    ports := { fst := .fresh s.cfg.bitRate.fst 1, snd := .fresh s.cfg.bitRate.snd 4 },
    routes := s.routes.map RouteEntry.restarted,
    signals := s.signals.map SignalEntry.restarted,
    terms := s.terms.map TermEntry.restarted,
    groups := s.groups.map GroupEntry.restarted,
    clock := .fresh,
    arms := { fst := .fresh, snd := .fresh },
    arbiter := .fresh s.cfg.cIdle,
    valves := { q0 := .fresh, q1 := .fresh, q2 := .fresh, q3 := .fresh },
    valveTimer := .start Config.tickMs,
    bins := .fresh s.bins.entries,
    weigh := { fst := .fresh, snd := .fresh },
    chambers := { fst := s.chambers.fst.restarted, snd := s.chambers.snd.restarted },
    chbCmdBad := 0,
    log := s.log.scan,
    watch := s.watch.restarted,
    mgmt := .fresh,
    agenda := [] }

/-- Load judged and pending request set from the retained counts (R121); the feeding arm, IDLE at a reset, has nothing to take. -/
def State.judgeAtStart (s : State) (c : ChamberId) : State :=
  let x := s.chamber c
  let k := s.chamberSettings c
  s.setChamber c { x with load := loadOf k x.fill x.mass, pending := decide (k.autoPack ≤ x.tipCounter) }

/-- Every valve group places its first frame (R78). -/
def State.firstFrames (s : State) : State :=
  (((s.placeValveFrame .armA).placeValveFrame .armB).placeValveFrame .packer0).placeValveFrame .packer1

/-- Each status page is sent once (R167), in the order 0, 1, 2, 3: DESIGN CHOICE (assumption 49). -/
def State.firstPages (s : State) : State := (((s.sendPage 0).sendPage 1).sendPage 2).sendPage 3

/-- The start common to power-on and warm reset: volatile state afresh, the Log's scan, then frames and pages. -/
def State.startUp (s : State) : State :=
  (((s.volatileFresh.judgeAtStart .chamber0).judgeAtStart .chamber1).firstFrames).firstPages

/-- The metrology jumper read at power-on settles lock and counter (R104). -/
def Calibration.powered (c : Calibration) (jumper : Bool) : Calibration :=
  if jumper then { c with unlocked := true, counter := satInc c.counter } else { c with unlocked := false }

/-- Power-on (R104). -/
def State.poweredOn (s : State) (jumper : Bool) : State := { s with cal := s.cal.powered jumper }.startUp

/-- Warm reset: the lock and the counter stay (R104, R164). -/
def State.warmStart (s : State) : State := s.startUp

end Sys2Proof.Machine
end

