-- ==== Sys2Proof/Machine/OperatorCommands.lean ====
section
/-! DEFINITION. The operator commands, each the frame of its code at its consumer (Table 3-3, section 7.2). While Frame Watch is HELD
the frame never reaches the consumer: it is counted in HELD_DROPPED (R156, assumption 8). -/

namespace Sys2Proof.Machine

/-- An operator frame reaches its consumer, unless Frame Watch is HELD (R156). -/
def State.unlessHeld (s : State) (f : State → State) : State := if s.watch.isHeld then s.dropHeld else f s

/-- START (R45 to R48). -/
def execStart (a : ArmId) (args : List Byte) (s : State) : Host.Outcome State Fault Refusal :=
  run (.start a args) (fun s => s.unlessHeld (fun s => s.startCommand a args)) s

/-- PAUSE (R57). -/
def execPauseArm (a : ArmId) (s : State) : Host.Outcome State Fault Refusal :=
  run (.pauseArm a) (fun s => s.unlessHeld (fun s => s.pauseCommand a)) s

/-- CONTINUE (R58). -/
def execContinueArm (a : ArmId) (s : State) : Host.Outcome State Fault Refusal :=
  run (.continueArm a) (fun s => s.unlessHeld (fun s => s.continueCommand a)) s

/-- ABORT (R59, R67). -/
def execAbortArm (a : ArmId) (s : State) : Host.Outcome State Fault Refusal :=
  run (.abortArm a) (fun s => s.unlessHeld (fun s => s.abortCommand a)) s

/-- MANUAL_ENTER (R65). -/
def execManualEnter (a : ArmId) (s : State) : Host.Outcome State Fault Refusal :=
  run (.manualEnter a) (fun s => s.unlessHeld (fun s => s.enterManual a)) s

/-- MANUAL_EXIT (R67). -/
def execManualExit (a : ArmId) (s : State) : Host.Outcome State Fault Refusal :=
  run (.manualExit a) (fun s => s.unlessHeld (fun s => s.exitManual a)) s

/-- FAULT_CLEAR for an arm (R62). -/
def execFaultClear (a : ArmId) (s : State) : Host.Outcome State Fault Refusal :=
  run (.faultClear a) (fun s => s.unlessHeld (fun s => s.armFaultClear a)) s

/-- PACK_NOW (R122, R124, R129). -/
def execPackNow (args : List Byte) (s : State) : Host.Outcome State Fault Refusal :=
  run (.packNow args) (fun s => s.unlessHeld (fun s => s.toChamber args State.packNow)) s

/-- DISCHARGED (R133, R134). -/
def execDischarged (args : List Byte) (s : State) : Host.Outcome State Fault Refusal :=
  run (.discharged args) (fun s => s.unlessHeld (fun s => s.toChamber args State.discharge)) s

/-- FAULT_CLEAR for a chamber (R127). -/
def execChamberFaultClear (args : List Byte) (s : State) : Host.Outcome State Fault Refusal :=
  run (.chamberFaultClear args) (fun s => s.unlessHeld (fun s => s.toChamber args State.chamberFaultClear)) s

end Sys2Proof.Machine
end

