-- ==== Sys2Proof/Machine/PortCommands.lean ====
section
/-! DEFINITION. The commands of the port units: frames arriving and taken, state reports, recovery, and the end of a
transmission. -/

namespace Sys2Proof.Machine

/-- FRAME_ARRIVAL (R1, R2). -/
def State.frameArrives (s : State) (p : PortId) (f : BusFrame) : State := s.setPort p ((s.port p).receive f)

/-- The arms that port B's entry to OFF faults: in cycle or in MANUAL, HELD ones included (R61, R67). -/
def State.onBodyPort (s : State) : List ArmId :=
  [ArmId.armA, .armB].filter (fun a => (s.arm a).inCycle || (s.arm a).heldManual || decide ((s.arm a).state = .manual))

/-- BUS_OFF (R4): of the other blocks the arms act on port B, either of them first (R61, R67; assumption 6). -/
def State.goBusOff (s : State) (p : PortId) : State :=
  if (s.port p).state = .off then s
  else
    let t := (s.setPort p (s.port p).toOff.1).noteLeft (s.port p).toOff.2
    match p with
    | .portC => t
    | .portB => t.postAnyOrder (t.onBodyPort.map Ev.portOff)

/-- RECOVERY_TIMER_EXPIRY (R5). -/
def State.recover (s : State) (p : PortId) : State :=
  if (s.port p).state = .off ∧ (s.port p).recovery.running then s.restartPort p else s

/-- TRANSMISSION_END (R10). -/
def State.endTransmission (s : State) (p : PortId) : State :=
  (s.setPort p (s.port p).sent.1).noteLeft (s.port p).sent.2

def execFrameArrival (p : PortId) (f : BusFrame) (s : State) : Host.Outcome State Fault Refusal :=
  run (.frameArrival p f) (fun s => s.frameArrives p f) s

def execFrameTaken (p : PortId) (s : State) : Host.Outcome State Fault Refusal :=
  run (.frameTaken p) (fun s => s.takeFrame p) s

/-- ERROR_PASSIVE (R3). -/
def execErrorPassive (p : PortId) (s : State) : Host.Outcome State Fault Refusal :=
  run (.errorPassive p) (fun s => s.setPort p (s.port p).toPassive) s

/-- RETURN_TO_ACTIVE (R3). -/
def execReturnToActive (p : PortId) (s : State) : Host.Outcome State Fault Refusal :=
  run (.returnToActive p) (fun s => s.setPort p (s.port p).toActive) s

def execBusOff (p : PortId) (s : State) : Host.Outcome State Fault Refusal :=
  run (.busOff p) (fun s => s.goBusOff p) s

def execRecoveryTimerExpiry (p : PortId) (s : State) : Host.Outcome State Fault Refusal :=
  run (.recoveryTimerExpiry p) (fun s => s.recover p) s

def execTransmissionEnd (p : PortId) (s : State) : Host.Outcome State Fault Refusal :=
  run (.transmissionEnd p) (fun s => s.endTransmission p) s

end Sys2Proof.Machine
end

