-- ==== Sys2Proof/Machine/RequestCommands.lean ====
section
/-! DEFINITION. The management operations, each a well-formed request of its operation code taken by the Management Unit (R160,
R161, Table 10-3; assumption 8). -/

namespace Sys2Proof.Machine

/-- IDENTIFY (R163). -/
def execIdentify (q : Request) (s : State) : Host.Outcome State Fault Refusal :=
  run (.identify q) (fun s => s.manage .identify q) s

/-- EXAMINE (R146, R161). -/
def execExamine (q : Request) (s : State) : Host.Outcome State Fault Refusal :=
  run (.examine q) (fun s => s.manage .examine q) s

/-- DEPOSIT (R161). -/
def execDeposit (q : Request) (s : State) : Host.Outcome State Fault Refusal :=
  run (.deposit q) (fun s => s.manage .deposit q) s

/-- INSERT (R88). -/
def execInsertBin (q : Request) (s : State) : Host.Outcome State Fault Refusal :=
  run (.insertBin q) (fun s => s.manage .insert q) s

/-- REMOVE (R89). -/
def execRemoveBin (q : Request) (s : State) : Host.Outcome State Fault Refusal :=
  run (.removeBin q) (fun s => s.manage .remove q) s

/-- RELEASE (R148). -/
def execRelease (q : Request) (s : State) : Host.Outcome State Fault Refusal :=
  run (.release q) (fun s => s.manage .release q) s

/-- DAY (R91). -/
def execDay (q : Request) (s : State) : Host.Outcome State Fault Refusal :=
  run (.day q) (fun s => s.manage .day q) s

/-- STEP (R69). -/
def execStepArm (q : Request) (s : State) : Host.Outcome State Fault Refusal :=
  run (.stepArm q) (fun s => s.manage .step q) s

/-- WATCH_CONTINUE with value 1 (R157). -/
def execWatchContinueProcess (q : Request) (s : State) : Host.Outcome State Fault Refusal :=
  run (.watchContinueProcess q) (fun s => s.manage .watchContinue q) s

/-- WATCH_CONTINUE with value 0 (R157). -/
def execWatchContinueDiscard (q : Request) (s : State) : Host.Outcome State Fault Refusal :=
  run (.watchContinueDiscard q) (fun s => s.manage .watchContinue q) s

/-- LOCK (R104). -/
def execLock (q : Request) (s : State) : Host.Outcome State Fault Refusal :=
  run (.lock q) (fun s => s.manage .lock q) s

/-- RESET (R164). -/
def execReset (q : Request) (s : State) : Host.Outcome State Fault Refusal :=
  run (.reset q) (fun s => s.manage .reset q) s

/-- CLEAR (R163). -/
def execClear (q : Request) (s : State) : Host.Outcome State Fault Refusal :=
  run (.clear q) (fun s => s.manage .clear q) s

/-- PORT with value 0 (R11, R165). -/
def execPortClear (q : Request) (s : State) : Host.Outcome State Fault Refusal :=
  run (.portClear q) (fun s => s.manage .port q) s

/-- PORT with value 1 (R11, R165). -/
def execPortSet (q : Request) (s : State) : Host.Outcome State Fault Refusal :=
  run (.portSet q) (fun s => s.manage .port q) s

/-- PORT with value 2 (R5, R165). -/
def execPortRestart (q : Request) (s : State) : Host.Outcome State Fault Refusal :=
  run (.portRestart q) (fun s => s.manage .port q) s

end Sys2Proof.Machine
end

