-- ==== Sys2Proof/Machine/ResetCommands.lean ====
section
/-! DEFINITION. POWER_ON and WARM_RESET, one definition each. -/

namespace Sys2Proof.Machine

/-- POWER_ON (R104, R149). -/
def execPowerOn (jumper : Bool) (s : State) : Host.Outcome State Fault Refusal := .next (s.poweredOn jumper)

/-- WARM_RESET, from the reset input or after the RESET reply has left (R164). -/
def execWarmReset (s : State) : Host.Outcome State Fault Refusal := .next s.warmStart

end Sys2Proof.Machine
end

