-- ==== Sys2Proof/Machine/TimerCommands.lean ====
section
/-! DEFINITION. The timer expiries, the valve tick and the completion of a Bin Table update. An expiry acts while its timer runs and
does nothing otherwise (assumption 2). -/

namespace Sys2Proof.Machine

/-- One second of the route clock (R31). -/
def State.secondPassed (s : State) : State :=
  if s.clock.timer.running then { s with clock := s.clock.second } else s

/-- The repeat timer of the high-idle request (R77). -/
def State.repeatHighIdle (s : State) : State :=
  let x := s.arbiter
  match x.highIdle with
  | .on | .runDown =>
    if x.repeatTimer.running then
      (s.setArbiter { x with repeatTimer := .start Config.repeatMs }).offerHighIdle true
    else s
  | .off => s

/-- The run-down timer of the high-idle request (R77). -/
def State.endRunDown (s : State) : State :=
  let x := s.arbiter
  match x.highIdle with
  | .runDown =>
    if x.runDownTimer.running then
      (s.setArbiter { x with highIdle := .off, repeatTimer := .stopped, runDownTimer := .stopped }).offerHighIdle false
    else s
  | .on | .off => s

/-- The tick of the Valve Output Unit: ramping and frames of the four groups, then the disturbance test (R81, R82, R110). The frames
are placed one after another, the lowest group first, so a free transmitter of port B takes the lowest that has one (R10;
assumption 35). Where a frame so placed makes a hold, the windows still OPEN are tested for disturbance before the hold stalls them.
DESIGN CHOICE (assumption 53). -/
def State.tick (s : State) : State :=
  let s := { s with valveTimer := .start Config.tickMs }
  let s := (((s.tickGroup .armA).tickGroup .armB).tickGroup .packer0).tickGroup .packer1
  (s.disturb .armA).disturb .armB

/-- FRESHNESS_LIMIT_EXPIRY (R26). -/
def execFreshnessLimitExpiry (i : Nat) (s : State) : Host.Outcome State Fault Refusal :=
  run (.freshnessLimitExpiry i) (fun s => s.freshnessExpired i) s

/-- HOLD_TIME_EXPIRY (R26). -/
def execHoldTimeExpiry (i : Nat) (s : State) : Host.Outcome State Fault Refusal :=
  run (.holdTimeExpiry i) (fun s => s.holdExpired i) s

def execOneSecondTimerExpiry (s : State) : Host.Outcome State Fault Refusal :=
  run .oneSecondTimerExpiry State.secondPassed s

/-- TRUE_DELAY_EXPIRY (R37). -/
def execTrueDelayExpiry (g : Nat) (s : State) : Host.Outcome State Fault Refusal :=
  run (.trueDelayExpiry g) (fun s => s.delayExpired g) s

/-- STEP_TIMER_EXPIRY (R51). -/
def execStepTimerExpiry (a : ArmId) (s : State) : Host.Outcome State Fault Refusal :=
  run (.stepTimerExpiry a) (fun s => s.stepTimeout a) s

/-- DURATION_TIMER_EXPIRY (R41, R51). -/
def execDurationTimerExpiry (a : ArmId) (s : State) : Host.Outcome State Fault Refusal :=
  run (.durationTimerExpiry a) (fun s => s.durationRun a) s

def execRepeatTimerExpiry (s : State) : Host.Outcome State Fault Refusal :=
  run .repeatTimerExpiry State.repeatHighIdle s

def execRunDownTimerExpiry (s : State) : Host.Outcome State Fault Refusal :=
  run .runDownTimerExpiry State.endRunDown s

def execValveTick (s : State) : Host.Outcome State Fault Refusal := run .valveTick State.tick s

/-- STILL_FRAME_INTERVAL (R82). -/
def execStillFrameInterval (c : Consumer) (s : State) : Host.Outcome State Fault Refusal :=
  run (.stillFrameInterval c) (fun s => s.stillFrame c) s

/-- GAP_TIMER_EXPIRY (R111). -/
def execGapTimerExpiry (a : ArmId) (s : State) : Host.Outcome State Fault Refusal :=
  run (.gapTimerExpiry a) (fun s => s.gapExpired a) s

/-- PHASE_TIMER_EXPIRY (R127). -/
def execPhaseTimerExpiry (c : ChamberId) (s : State) : Host.Outcome State Fault Refusal :=
  run (.phaseTimerExpiry c) (fun s => s.phaseExpired c) s

/-- QUIET_TIMER_EXPIRY (R128). -/
def execQuietTimerExpiry (c : ChamberId) (s : State) : Host.Outcome State Fault Refusal :=
  run (.quietTimerExpiry c) (fun s => s.quietExpired c) s

/-- PERIOD_TIMER_EXPIRY (R167). -/
def execPeriodTimerExpiry (page : Nat) (s : State) : Host.Outcome State Fault Refusal :=
  run (.periodTimerExpiry page) (fun s => s.periodExpired page) s

/-- SPACING_TIMER_EXPIRY (R167). -/
def execSpacingTimerExpiry (page : Nat) (s : State) : Host.Outcome State Fault Refusal :=
  run (.spacingTimerExpiry page) (fun s => s.spacingExpired page) s

/-- BIN_UPDATE_COMPLETE (R88 to R90). -/
def execBinUpdateComplete (s : State) : Host.Outcome State Fault Refusal := run .binUpdateComplete State.completeUpdate s

end Sys2Proof.Machine
end

