-- ==== Sys2Proof/Machine/Dispatch.lean ====
section
/-! DEFINITION. The dispatch: every command to its meaning. -/

namespace Sys2Proof.Machine

def exec (i : Instr) (s : State) : Host.Outcome State Fault Refusal :=
  match i with
  | .powerOn jumper => Sys2Proof.Machine.execPowerOn jumper s
  | .warmReset => Sys2Proof.Machine.execWarmReset s
  | .frameArrival p f => Sys2Proof.Machine.execFrameArrival p f s
  | .frameTaken p => Sys2Proof.Machine.execFrameTaken p s
  | .start a args => Sys2Proof.Machine.execStart a args s
  | .pauseArm a => Sys2Proof.Machine.execPauseArm a s
  | .continueArm a => Sys2Proof.Machine.execContinueArm a s
  | .abortArm a => Sys2Proof.Machine.execAbortArm a s
  | .manualEnter a => Sys2Proof.Machine.execManualEnter a s
  | .manualExit a => Sys2Proof.Machine.execManualExit a s
  | .faultClear a => Sys2Proof.Machine.execFaultClear a s
  | .packNow args => Sys2Proof.Machine.execPackNow args s
  | .discharged args => Sys2Proof.Machine.execDischarged args s
  | .chamberFaultClear args => Sys2Proof.Machine.execChamberFaultClear args s
  | .errorPassive p => Sys2Proof.Machine.execErrorPassive p s
  | .returnToActive p => Sys2Proof.Machine.execReturnToActive p s
  | .busOff p => Sys2Proof.Machine.execBusOff p s
  | .recoveryTimerExpiry p => Sys2Proof.Machine.execRecoveryTimerExpiry p s
  | .transmissionEnd p => Sys2Proof.Machine.execTransmissionEnd p s
  | .freshnessLimitExpiry n => Sys2Proof.Machine.execFreshnessLimitExpiry n s
  | .holdTimeExpiry n => Sys2Proof.Machine.execHoldTimeExpiry n s
  | .oneSecondTimerExpiry => Sys2Proof.Machine.execOneSecondTimerExpiry s
  | .trueDelayExpiry g => Sys2Proof.Machine.execTrueDelayExpiry g s
  | .stepTimerExpiry a => Sys2Proof.Machine.execStepTimerExpiry a s
  | .durationTimerExpiry a => Sys2Proof.Machine.execDurationTimerExpiry a s
  | .repeatTimerExpiry => Sys2Proof.Machine.execRepeatTimerExpiry s
  | .runDownTimerExpiry => Sys2Proof.Machine.execRunDownTimerExpiry s
  | .valveTick => Sys2Proof.Machine.execValveTick s
  | .stillFrameInterval c => Sys2Proof.Machine.execStillFrameInterval c s
  | .gapTimerExpiry a => Sys2Proof.Machine.execGapTimerExpiry a s
  | .phaseTimerExpiry c => Sys2Proof.Machine.execPhaseTimerExpiry c s
  | .quietTimerExpiry c => Sys2Proof.Machine.execQuietTimerExpiry c s
  | .periodTimerExpiry page => Sys2Proof.Machine.execPeriodTimerExpiry page s
  | .spacingTimerExpiry page => Sys2Proof.Machine.execSpacingTimerExpiry page s
  | .binUpdateComplete => Sys2Proof.Machine.execBinUpdateComplete s
  | .identify q => Sys2Proof.Machine.execIdentify q s
  | .examine q => Sys2Proof.Machine.execExamine q s
  | .deposit q => Sys2Proof.Machine.execDeposit q s
  | .insertBin q => Sys2Proof.Machine.execInsertBin q s
  | .removeBin q => Sys2Proof.Machine.execRemoveBin q s
  | .release q => Sys2Proof.Machine.execRelease q s
  | .day q => Sys2Proof.Machine.execDay q s
  | .stepArm q => Sys2Proof.Machine.execStepArm q s
  | .watchContinueProcess q => Sys2Proof.Machine.execWatchContinueProcess q s
  | .watchContinueDiscard q => Sys2Proof.Machine.execWatchContinueDiscard q s
  | .lock q => Sys2Proof.Machine.execLock q s
  | .reset q => Sys2Proof.Machine.execReset q s
  | .clear q => Sys2Proof.Machine.execClear q s
  | .portClear q => Sys2Proof.Machine.execPortClear q s
  | .portSet q => Sys2Proof.Machine.execPortSet q s
  | .portRestart q => Sys2Proof.Machine.execPortRestart q s

end Sys2Proof.Machine
end

