-- ==== Sys2Proof/Machine/Time.lean ====
section
/-! DEFINITION. What the block does of itself when no command waits (assumption 1): the warm reset that a RESET reply leaves due, frames
waiting in a FIFO, the expiry of a timer that has run out, and otherwise the passing of 1 ms. -/

namespace Sys2Proof.Machine

/-! ## 1 ms passes -/

/-- A running timer comes 1 ms nearer its end. -/
def Timer.tick (t : Timer) : Timer := if t.running then { t with left := t.left - 1 } else t

/-- A running timer has run out. -/
def Timer.due (t : Timer) : Bool := t.running && decide (t.left = 0)

def Port.tick (x : Port) : Port := { x with recovery := x.recovery.tick }
def SignalEntry.tick (e : SignalEntry) : SignalEntry := { e with timer := e.timer.tick }
def GroupEntry.tick (g : GroupEntry) : GroupEntry := { g with timer := g.timer.tick }
def Arm.tick (x : Arm) : Arm := { x with stepTimer := x.stepTimer.tick, durationTimer := x.durationTimer.tick }
def ValveGroup.tick (g : ValveGroup) : ValveGroup := { g with sinceFrame := min (g.sinceFrame + 1) Config.stillMs }
def WeighUnit.tick (u : WeighUnit) : WeighUnit := { u with gapTimer := u.gapTimer.tick }
def Chamber.tick (x : Chamber) : Chamber := { x with phaseTimer := x.phaseTimer.tick, quietTimer := x.quietTimer.tick }
def PageTimers.tick (t : PageTimers) : PageTimers := { t with period := t.period.tick, spacing := t.spacing.tick }

/-- 1 ms passes with no event (section 4.5 of 00_scope.md). -/
def State.millisecond (s : State) : State :=
  { s with
    now := s.now + 1,
    ports := { fst := s.ports.fst.tick, snd := s.ports.snd.tick },
    signals := s.signals.map SignalEntry.tick,
    groups := s.groups.map GroupEntry.tick,
    clock := { s.clock with timer := s.clock.timer.tick },
    arms := { fst := s.arms.fst.tick, snd := s.arms.snd.tick },
    arbiter := { s.arbiter with repeatTimer := s.arbiter.repeatTimer.tick, runDownTimer := s.arbiter.runDownTimer.tick },
    valves := { q0 := s.valves.q0.tick, q1 := s.valves.q1.tick, q2 := s.valves.q2.tick, q3 := s.valves.q3.tick },
    valveTimer := s.valveTimer.tick,
    bins := { s.bins with updateTimer := s.bins.updateTimer.tick },
    weigh := { fst := s.weigh.fst.tick, snd := s.weigh.snd.tick },
    chambers := { fst := s.chambers.fst.tick, snd := s.chambers.snd.tick },
    mgmt := { s.mgmt with pages := s.mgmt.pages.map PageTimers.tick } }

/-! ## Timers that have run out -/

/-- The command of a signal entry whose timer has run out, by its state (R26). -/
def signalDue (i : Nat) (e : SignalEntry) : List Instr :=
  if e.timer.due then
    match e.state with
    | .fresh => [.freshnessLimitExpiry i]
    | .held => [.holdTimeExpiry i]
    | .never | .lost => []
  else []

/-- One command if a timer has run out. -/
def ifDue (t : Timer) (c : Instr) : List (List Instr) := if t.due then [[c]] else []

/-- The four groups. -/
def allConsumers : List Consumer := [.armA, .armB, .packer0, .packer1]

/-- A due tick, followed by the still-frame interval of each group that has reached 100 ms, so that a still group's frame is placed
after the moving groups' (R81, R82; assumption 35). -/
def State.tickCommands (s : State) : List Instr :=
  .valveTick ::
    (allConsumers.filter (fun c => decide (Config.stillMs ≤ (s.valve c).sinceFrame))).map Instr.stillFrameInterval

/-- The pages with their timers, by number. -/
def State.pageDue (s : State) : List (List Instr) :=
  (s.mgmt.pages.zipIdx.map (fun (t, p) =>
    ifDue t.period (.periodTimerExpiry p) ++ ifDue t.spacing (.spacingTimerExpiry p))).flatten

/-- What each timer that has run out brings; any of them may be taken first. -/
def State.dueCommands (s : State) : List (List Instr) :=
  ifDue s.ports.fst.recovery (.recoveryTimerExpiry .portC) ++ ifDue s.ports.snd.recovery (.recoveryTimerExpiry .portB) ++
  (s.signals.zipIdx.map (fun (e, i) => (signalDue i e).map (fun c => [c]))).flatten ++
  ifDue s.clock.timer .oneSecondTimerExpiry ++
  (s.groups.zipIdx.map (fun (g, k) => ifDue g.timer (.trueDelayExpiry (k + 1)))).flatten ++
  ifDue s.arms.fst.stepTimer (.stepTimerExpiry .armA) ++ ifDue s.arms.snd.stepTimer (.stepTimerExpiry .armB) ++
  ifDue s.arms.fst.durationTimer (.durationTimerExpiry .armA) ++
  ifDue s.arms.snd.durationTimer (.durationTimerExpiry .armB) ++
  ifDue s.arbiter.repeatTimer .repeatTimerExpiry ++ ifDue s.arbiter.runDownTimer .runDownTimerExpiry ++
  (if s.valveTimer.due then [s.tickCommands] else []) ++
  ifDue s.weigh.fst.gapTimer (.gapTimerExpiry .armA) ++ ifDue s.weigh.snd.gapTimer (.gapTimerExpiry .armB) ++
  ifDue s.chambers.fst.phaseTimer (.phaseTimerExpiry .chamber0) ++
  ifDue s.chambers.snd.phaseTimer (.phaseTimerExpiry .chamber1) ++
  ifDue s.chambers.fst.quietTimer (.quietTimerExpiry .chamber0) ++
  ifDue s.chambers.snd.quietTimer (.quietTimerExpiry .chamber1) ++ s.pageDue ++
  ifDue s.bins.updateTimer .binUpdateComplete

/-- The FIFOs that hold a frame. -/
def State.waitingFifos (s : State) : List (List Instr) :=
  (if s.ports.fst.fifo.isEmpty then [] else [[.frameTaken .portC]]) ++
    (if s.ports.snd.fifo.isEmpty then [] else [[.frameTaken .portB]])

/-- One of several things that may be taken first becomes the queue; the choice is a free value (assumption 6). -/
def State.queueOne (s : State) (l : List (List Instr)) : State :=
  match l with
  | [] => s
  | [c] => { s with pending := c }
  | c :: r =>
    { s with pending := (c :: r).getD (Config.freeChoice s.freeCount % (c :: r).length) c, freeCount := s.freeCount + 1 }

/-- The block with no command waiting (assumption 1). -/
def State.idle (s : State) : State :=
  if s.mgmt.resetDue then { s with pending := [.warmReset] }
  else if s.waitingFifos ≠ [] then s.queueOne s.waitingFifos
  else if s.dueCommands ≠ [] then s.queueOne s.dueCommands
  else s.millisecond

end Sys2Proof.Machine
end

