-- ==== Sys2Proof/Safety.lean ====
section
/-! DEFINITION. The terms in which claims are made: a safe run, a calm state, and what the frames the controller itself places and
sends change. -/

namespace Sys2Proof.Machine

/-! ## Safe runs -/

/-- `n` steps from `s` all answer a next state. -/
def runsFor : Nat → State → Bool
  | 0, _ => true
  | n + 1, s =>
    match step s with
    | .next t => runsFor n t
    | .fault _ => false
    | .refused _ => false

/-- A run is safe when every one of its steps answers a next state. -/
def SafeRun (s : State) : Prop := ∀ n, runsFor n s = true

/-! ## Calm states -/

/-- No hand-over waits, and no entry of Frame Watch is armed, so that a frame of the controller's own goes straight to its
queue or slot (R154). -/
abbrev State.calm (s : State) : Prop := s.agenda = [] ∧ ∀ e ∈ s.watch.entries, e.armed = false

/-- A calm state whose status pages stand as they were last noted: between commands they always do. -/
abbrev State.settled (s : State) : Prop := s.calm ∧ s.mgmt.noted = s.allPages

/-- No role and no role group is bound, and no arm is RUNNING: a change of a signal, term or group has no reader. -/
abbrev State.unread (s : State) : Prop :=
  (∀ r ∈ s.cfg.roles, r = none) ∧ (∀ g ∈ s.cfg.roleGroups, g = 0) ∧ ∀ a, (s.arm a).state ≠ .running

/-- Only the consumer `c` may stand in the waiting list: a claim of its own grants nobody else. -/
abbrev State.noneWaitsBut (s : State) (c : Consumer) : Prop := ∀ e ∈ s.arbiter.waiting, e.1 = c

/-- A claim of `c` for `demand` is granted at once (R73). -/
abbrev State.fits (s : State) (c : Consumer) (demand : Nat) : Prop :=
  s.arbiter.waiting = [] ∧ (demand = 0 ∨ (s.arbiter.grants.put c 0).total + demand ≤ s.arbiter.capacity)

/-! ## The controller's own frames, in plain numbers -/

/-- The valve command frame of a group that stands as `g` (R83, R84): six level bytes round(level / 4), the alive counter, and the
divider round(48000 / f) − 1 held to 39 to 255. -/
def State.commandFrame (s : State) (c : Consumer) (g : ValveGroup) : Frame :=
  { id := s.cfg.vcmdBase + BitVec.ofNat 29 c.number,
    data := (g.levels.take 6).map (fun l => BitVec.ofNat 8 ((l + 2) / 4)) ++
      [BitVec.ofNat 8 g.alive,
       BitVec.ofNat 8 (max 39 (min 255 ((2 * 48000 + s.cfg.dither.at c) / (2 * s.cfg.dither.at c) - 1)))] }

/-- A valve group has become `g` and placed its frame in its slot of port B: the alive counter moves on, 15 to 0, and the time since
the last frame begins again (R82, R83). -/
def State.placed (s : State) (c : Consumer) (g : ValveGroup) : State :=
  { s with
    valves := s.valves.put c { g with alive := (g.alive + 1) % 16, sinceFrame := 0 },
    ports := { s.ports with snd := s.ports.snd.offerSlot c.number (s.commandFrame c g) } }

/-- The owner of a valve group has left its moving states: the group is emptied at once and places a frame carrying zeros, or stands
as it was when it was STOPPED already (R79, R82). -/
def State.stopped (s : State) (c : Consumer) : State :=
  let g := s.valve c
  if g.driving then
    s.placed c { g with driving := false, functions := 0, targets := List.replicate 6 0, levels := List.replicate 6 0 }
  else s

/-- The owner of a valve group has entered a moving state and given a function set with targets: functions outside the set drop to
0 at once, and a level so dropped from above 0 places a frame (R79, R80, R82). -/
def State.driven (s : State) (c : Consumer) (set : FnSet) (targets : List Nat) (ramp : Nat) : State :=
  let g := s.valve c
  let levels := keepIn set g.levels
  let h := { g with driving := true, functions := set, targets := keepIn set targets, levels, ramp }
  if levels = g.levels then { s with valves := s.valves.put c h } else s.placed c h

/-- A consumer holds flow or waits for it (R77). -/
abbrev Arbiter.inUse (x : Arbiter) : Prop :=
  0 < x.grants.q0 ∨ 0 < x.grants.q1 ∨ 0 < x.grants.q2 ∨ 0 < x.grants.q3 ∨ x.waiting ≠ []

/-- Grants and waiting list have changed to those of `x`, and the high-idle state follows (R77): it goes ON with an ON frame in
port C's slot, from ON to RUN_DOWN, from RUN_DOWN back to ON, or stays. -/
def State.flowChanged (s : State) (x : Arbiter) : State :=
  match x.highIdle with
  | .off =>
    if x.inUse then
      { s with
        arbiter := { x with highIdle := .on, repeatTimer := .start 100 },
        ports := { s.ports with fst := s.ports.fst.offerSlot 0 { id := s.cfg.hidleId, data := [1] } } }
    else { s with arbiter := x }
  | .on =>
    if x.inUse then { s with arbiter := x } else { s with arbiter := { x with highIdle := .runDown, runDownTimer := .start 2000 } }
  | .runDown =>
    if x.inUse then { s with arbiter := { x with highIdle := .on, runDownTimer := .stopped } } else { s with arbiter := x }

/-- The claim of `c` is granted `d` units at once, or with 0 gives back what it has; nobody waits afterwards (R73). -/
def State.granted (s : State) (c : Consumer) (d : Nat) : State :=
  s.flowChanged { s.arbiter with grants := s.arbiter.grants.put c d, waiting := [] }

/-- Status page `p` as it stands is offered to port B's queue at class 2 (R167). -/
def State.withPage (s : State) (p : Nat) : State :=
  s.offerQueue .portB
    { frame := { id := s.cfg.statBase + BitVec.ofNat 29 p, data := s.pageBytes p }, cls := 2, origin := .status, ofReset := false }

/-- `t` is `s` after status pages alone, each as it stood, have been offered to port B's queue: only that queue, what the transmitter
takes from it, the page timers and marks and the model's note of the pages may differ. That the pages follow the frames placed in
`s` itself, where R10 lets either be chosen first at a free transmitter, is the model's choice (assumption 46). -/
def State.AfterPages (s t : State) : Prop :=
  ∃ (l : List Nat) (u : State), (∀ p ∈ l, p < 4) ∧ u = l.foldl State.withPage s ∧
    t = { u with mgmt := { u.mgmt with pages := t.mgmt.pages, noted := t.mgmt.noted } }

/-- The reply to a request (R160, Table 10-6): status and operation in byte 0, then table and word, the index and the value. -/
def State.replyTo (s : State) (q : Request) (op status : Nat) (index : BitVec 16) (value : Word) : QFrame :=
  { frame :=
      { id := s.cfg.mrepBase + q.node.setWidth 29,
        data := [BitVec.ofNat 8 (16 * status + op), q.tableWord, index.extractLsb' 8 8, index.extractLsb' 0 8,
          value.extractLsb' 24 8, value.extractLsb' 16 8, value.extractLsb' 8 8, value.extractLsb' 0 8] },
    cls := 1, origin := .reply, ofReset := false }

/-- `t` is `s` after the blocks of a list have acted one after another, with status pages alone before, between and after them. -/
def State.AfterEach : List (State → State) → State → State → Prop
  | [], s, t => s.AfterPages t
  | act :: l, s, t => ∃ u, s.AfterPages u ∧ State.AfterEach l (act u) t

/-- `t` is `s` after status pages alone, then the reply `r` at port B's queue, then pages alone (R160, R167). Pages may stand on either
side of the reply: a statement in these terms does not rest on the order that assumption 44 chooses. -/
def State.AfterReply (s : State) (r : QFrame) (t : State) : Prop := ∃ v, s.AfterPages v ∧ (v.offerQueue .portB r).AfterPages t

/-! ## Shared content -/

/-- `q` is `x / y` rounded to the nearest whole number, a half away from zero (00_scope.md section 4.3). -/
def Rounds (q x y : Int) : Prop := |2 * (q * y - x)| ≤ y ∧ (|2 * (q * y - x)| = y → |x| < |q * y|)

/-- Latitude and longitude of a record, when both are available (R142). -/
def State.place (s : State) : Option (Int × Int) :=
  match s.roleValue .latitude, s.roleValue .longitude with
  | some x, some y => some (x, y)
  | _, _ => none

/-- The check word of a record: the CRC of its words 0 to 10 and its calibration counter (R145). -/
def LogRecord.crc (r : LogRecord) : BitVec 16 :=
  crc16 (((List.range 11).map (fun w => splitMsb 4 (r.word w).toNat)).flatten ++ splitMsb 2 r.calCounter)

/-- The LIFT record `r` closed with outcome `o`: absent weights flagged, time and position stamped, the charge, the check word
(R137, R142, R145). -/
def State.closedAs (s : State) (o : CycleOutcome) (r : LogRecord) : LogRecord :=
  let x : LogRecord :=
    { r with
      closed := true, outcome := o, time := s.clock.count,
      latitude := (s.place.map Prod.fst).getD 0, longitude := (s.place.map Prod.snd).getD 0,
      flags := { r.flags with
        noGross := r.flags.noGross || r.gross.isNone, noTare := r.flags.noTare || r.tare.isNone,
        timeUnset := r.flags.timeUnset || !s.clock.isSet, posAbsent := r.flags.posAbsent || s.place.isNone } }
  let y : LogRecord := { x with charge := liftCharge (s.tariffs.getD (r.stream * 16 + r.tariff) .cleared) s.cal.division x }
  { y with check := y.crc }

/-- An arm with its cycle over (R55). That its prior state is none is R61's for one that faults in HELD, and else the model's (assumption
50). -/
def Arm.ended (x : Arm) (st : ArmState) (k : ArmFault) : Arm :=
  { x with
    state := st, fault := k, program := none, position := none, loops := List.replicate 32 0, stepTimer := .stopped,
    durationTimer := .stopped, singleStep := false, openRecord := none, prior := none, grantedHeld := false, keptEnd := false }

/-- A Weighing Unit with its arm's cycle over (R114). -/
def WeighUnit.ended (u : WeighUnit) : WeighUnit :=
  { u with
    state := .idle, record := none, window := [], isOpen := false, disturbed := false, gapTimer := .stopped, quiet := false,
    gross := none, tare := none }

/-- The cycle of arm `a`, whose OPEN record `r` has number `n` and is not tipped, is over with outcome `o` (R55, R98, R114, R142): the
record closed, the arm in state `st` with fault code `k`, its Weighing Unit and its decision request idle, its valve group stopped,
its claim given back with nobody else waiting. -/
def State.cycleOver (s : State) (a : ArmId) (n : Nat) (r : LogRecord) (o : CycleOutcome) (st : ArmState) (k : ArmFault) : State :=
  (State.stopped
    { s with
      log := { s.log with
        records := s.log.records.map (fun e : LogRecord => if e.seq = n ∧ e.closed = false then s.closedAs o r else e) },
      arms := s.arms.put a.second ((s.arm a).ended st k),
      weigh := s.weigh.put a.second (s.weighUnit a).ended,
      bins := { s.bins with
        requests := s.bins.requests.put a.second .empty,
        waiting := s.bins.waiting.filter (fun w => w ≠ WaitingLookup.decision a) } }
    a.consumer).granted a.consumer 0

/-- An arm that stops with its remaining times kept (R56). -/
def Arm.stoppedIn (x : Arm) (st : ArmState) : Arm :=
  { x with
    state := st, stepTimer := { x.stepTimer with running := false }, durationTimer := { x.durationTimer with running := false } }

/-- The controller of chamber `c` becomes `x`, which is in a phase of its stroke, and drives its group as the settings give for that
phase (R125, Table 7-1). -/
def State.stroking (s : State) (c : ChamberId) (x : Chamber) : State :=
  let k := s.chamberSettings c
  match x.state with
  | .sweep => (s.setChamber c x).driven c.consumer k.sweepFns (List.replicate 6 k.sweepLevel) k.ramp
  | .pack => (s.setChamber c x).driven c.consumer k.packFns (List.replicate 6 k.packLevel) k.ramp
  | _ => (s.setChamber c x).driven c.consumer k.returnFns (List.replicate 6 k.returnLevel) k.ramp

/-! ## Invariants -/

/-- The Bin Table is in strictly ascending order of tag (R86). -/
abbrev State.binsAscending (s : State) : Prop := (s.bins.entries.map (fun e => e.data.tag)).Pairwise (· < ·)

/-- Function set empty, targets and levels 0. -/
abbrev ValveGroup.still (g : ValveGroup) : Prop :=
  g.functions = 0 ∧ g.targets = List.replicate 6 0 ∧ g.levels = List.replicate 6 0

/-- A valve group is DRIVING exactly while its owner is in a moving state, and a STOPPED group is still (R79). -/
def State.groupsFollowOwners (s : State) : Prop :=
  (∀ a : ArmId, (s.valve a.consumer).driving = decide ((s.arm a).state = .running ∨ (s.arm a).state = .manual)) ∧
  (∀ c : ChamberId,
    (s.valve c.consumer).driving =
      decide ((s.chamber c).state = .sweep ∨ (s.chamber c).state = .pack ∨ (s.chamber c).state = .ret)) ∧
  ∀ c : Consumer, (s.valve c).driving = false → (s.valve c).still

end Sys2Proof.Machine
end

