-- ==== Sys2Proof/Certificates/Slice0/Obligations.lean ====
section
/-! DEFINITION. The statements for the provers. A statement about a command says the next state it answers, every part of it: what
the rules write in full and every other part as it was. Where a status page changes, `State.AfterPages` leaves open which pages
follow, and nothing else (that they follow the frames of the act itself is assumption 46); `State.AfterEach` the same around
blocks that act one after another, and `State.AfterReply` around a reply. -/

open Sys2Proof Sys2Proof.Machine

/-! ## The machine as a whole -/

/-- A step runs the command at the front of the queue on the state with the queue's rest. -/
def Obligations.StepRunsTheFrontCommand : Prop :=
  ∀ (c : Instr) (rest : List Instr) (s : State),
    step { s with pending := c :: rest } = exec c { s with pending := rest }

/-- Power-on of the block as delivered, with the metrology jumper inactive, leaves the reset state. The delivered contents of
tables for which the manual states none are the model's choice (assumptions 4, 16 and 25), as are the order in which the four pages
wait (assumption 49) and a chamber's prior state of none (assumption 50). -/
def Obligations.PowerOnAsDeliveredIsReset : Prop := exec (.powerOn false) State.delivered = .next State.reset

/-- A well-formed command answers a next state in every state; an ill-formed term is refused (the model's own refusal,
assumption 1). -/
def Obligations.EveryCommandAnswersNext : Prop :=
  ∀ (c : Instr) (s : State),
    (c.wellFormed = true → ∃ t, exec c s = .next t) ∧
    (c.wellFormed = false → exec c s = .refused .notACommand)

/-- POWER_ON and WARM_RESET (R1, R14, R21, R31, R32, R35, R44, R71, R78, R104, R106, R121, R149, R150, R152, R160, R164, R167):
the retained parts stand, the volatile parts begin afresh, the lock and the calibration counter follow the jumper at power-on and
stand at a warm reset; each valve group has placed its first frame, and each status page waits in port B's queue; the scan marks a
CLOSED record DAMAGED when its check word fails, a mark once set standing, and closes an OPEN one INTERRUPTED with its weights
absent and its own check word. Five points are the model's choice: port B's transmitter has taken group 0's frame first
(assumption 25), the pages stand in the order 0, 1, 2, 3 (assumption 49), a Weighing Unit begins with window length 0 in force
(assumption 27), a chamber begins with the prior state none (assumption 50), and the waiting commands and the model's count of free values stand (assumption 10). -/
def Obligations.ResetKeepsRetainedState : Prop :=
  ∀ (s : State) (c : Instr) (cal : Calibration) (first : Consumer → Frame) (chamber : ChamberId → Chamber)
      (scan : LogRecord → LogRecord),
    (∀ r, scan r =
      if r.closed = true then { r with damaged := r.damaged || decide (r.check ≠ r.crc) }
      else
        let x : LogRecord :=
          { r with
            closed := true, outcome := .interrupted, gross := none, tare := none, nDiv := none, charge := 0, time := 0,
            latitude := 0, longitude := 0,
            flags := { r.flags with noGross := true, noTare := true, timeUnset := true, posAbsent := true } }
        { x with check := x.crc }) →
    (c = .warmReset ∧ cal = s.cal) ∨
      (c = .powerOn false ∧ cal = { s.cal with unlocked := false }) ∨
      (c = .powerOn true ∧ cal = { s.cal with unlocked := true, counter := min (s.cal.counter + 1) 65535 }) →
    (∀ k, first k =
      { id := s.cfg.vcmdBase + BitVec.ofNat 29 k.number,
        data := [0, 0, 0, 0, 0, 0, 0, BitVec.ofNat 8 (max 39 (min 255
          ((2 * 48000 + s.cfg.dither.at k) / (2 * s.cfg.dither.at k) - 1)))] }) →
    (∀ k, chamber k =
      let x := s.chamber k
      let y := s.chamberSettings k
      { Chamber.fresh x.tipCounter x.tipsSinceDischarge x.fill x.mass with
        load :=
          if y.fillFull ≤ x.fill ∨ y.massFull * 1000 ≤ x.mass then .full
          else if y.fillWarn ≤ x.fill ∨ y.massWarn * 1000 ≤ x.mass then .warn
          else .normal,
        pending := decide (y.autoPack ≤ x.tipCounter) }) →
    ∃ t, exec c s = .next t ∧
      t = { s with
            now := 0, cal,
            ports :=
              { fst := .fresh s.cfg.bitRate.fst 1,
                snd := { Port.fresh s.cfg.bitRate.snd 4 with
                  transmitter := some (.fromSlot 0 (first .armA)),
                  slots := [none, some (first .armB), some (first .packer0), some (first .packer1)],
                  queue := (List.range 4).map (fun p =>
                    { frame := { id := s.cfg.statBase + BitVec.ofNat 29 p, data := t.pageBytes p }, cls := 2,
                      origin := .status, ofReset := false }) } },
            valves :=
              { q0 := { ValveGroup.fresh with alive := 1 }, q1 := { ValveGroup.fresh with alive := 1 },
                q2 := { ValveGroup.fresh with alive := 1 }, q3 := { ValveGroup.fresh with alive := 1 } },
            chambers := { fst := chamber .chamber0, snd := chamber .chamber1 },
            routes := s.routes.map (fun e => { e with hits := 0, blocked := 0 }),
            signals := s.signals.map (fun e =>
              { e with value := none, state := .never, clamped := false, timer := .stopped, shortFrames := 0 }),
            terms := s.terms.map (fun e => { e with result := false }),
            groups := s.groups.map (fun e => { e with state := .isFalse, timer := .stopped }),
            clock := { count := 0, isSet := false, timer := .start 1000 },
            arms := { fst := .fresh, snd := .fresh },
            arbiter :=
              { capacity := s.cfg.cIdle, grants := { q0 := 0, q1 := 0, q2 := 0, q3 := 0 }, waiting := [], highIdle := .off,
                repeatTimer := .stopped, runDownTimer := .stopped },
            valveTimer := .start 20,
            bins := .fresh s.bins.entries,
            weigh := { fst := .fresh, snd := .fresh },
            chbCmdBad := 0,
            log := { s.log with records := s.log.records.map scan, pointer := 0 },
            watch :=
              { entries := s.watch.entries.map (fun e => { e with armed := false, hits := 0 }), isHeld := false,
                holdEntry := none, register := none, reportCount := 0, holdIgnored := 0, heldDropped := 0,
                heldDiscarded := 0 },
            mgmt :=
              { inProgress := none, service := false, resetDue := false,
                pages := List.replicate 4 { period := .start 500, spacing := .start 50, mark := false },
                noted := t.allPages },
            agenda := [] }

/-! ## Invariants that every step keeps -/

/-- The Bin Table stays in strictly ascending order of tag, whatever the step (R86, R88, R89). -/
def Obligations.BinTableStaysAscending : Prop :=
  ∀ s t : State, s.binsAscending → step s = .next t → t.binsAscending

/-- A valve group is DRIVING exactly while its owner is in a moving state, and a STOPPED group has an empty function set with
targets and levels 0, whatever the step (R79). -/
def Obligations.ValveGroupsFollowTheirOwners : Prop :=
  ∀ s t : State, s.groupsFollowOwners → step s = .next t → t.groupsFollowOwners

/-- Both invariants hold at reset. -/
def Obligations.InvariantsHoldAtReset : Prop := State.reset.binsAscending ∧ State.reset.groupsFollowOwners

/-- With the lock LOCKED no step but a POWER_ON changes the calibration, its counter or the lock; UNLOCKED, no step but a
POWER_ON changes the counter (R103, R104). -/
def Obligations.LockedCalibrationStands : Prop :=
  ∀ s t : State, (∀ j r, s.pending ≠ .powerOn j :: r) → step s = .next t →
    (s.cal.unlocked = false → t.cal = s.cal) ∧ t.cal.counter = s.cal.counter

/-- Without SERVICE level no step changes the Config, Step, Program, Select or Tariff Table, nor a configured word of the Route,
Signal, Term, Group or Watch Table, and none arms an entry of Frame Watch (Table 10-3, R152, R161, R162). Counts, results and
volatile states of those tables move on. -/
def Obligations.ConfigurationNeedsService : Prop :=
  ∀ s t : State, s.mgmt.service = false → step s = .next t →
    t.cfg = s.cfg ∧ t.steps = s.steps ∧ t.programs = s.programs ∧ t.select = s.select ∧ t.tariffs = s.tariffs ∧
    t.routes.map (fun e : RouteEntry => { e with hits := 0, blocked := 0 }) =
      s.routes.map (fun e : RouteEntry => { e with hits := 0, blocked := 0 }) ∧
    t.signals.map (fun e : SignalEntry =>
        { e with value := none, state := .never, clamped := false, shortFrames := 0, timer := .stopped }) =
      s.signals.map (fun e : SignalEntry =>
        { e with value := none, state := .never, clamped := false, shortFrames := 0, timer := .stopped }) ∧
    t.terms.map (fun e : TermEntry => { e with result := false }) =
      s.terms.map (fun e : TermEntry => { e with result := false }) ∧
    t.groups.map (fun e : GroupEntry => { e with state := .isFalse, timer := .stopped }) =
      s.groups.map (fun e : GroupEntry => { e with state := .isFalse, timer := .stopped }) ∧
    t.watch.entries.map (fun e : WatchEntry => { e with armed := false, hits := 0 }) =
      s.watch.entries.map (fun e : WatchEntry => { e with armed := false, hits := 0 }) ∧
    ∀ (i : Nat) (e d : WatchEntry), s.watch.entries[i]? = some e → t.watch.entries[i]? = some d → d.armed = true →
      e.armed = true

/-- A CLOSED record is never altered, and leaves the Log only by a RELEASE that covers it: commanded as RELEASE, or taken as the
request frame of a RELEASE at the head of port B's FIFO. A reset only marks it DAMAGED,
and takes no such mark away (R138, R142, R148, R150). -/
def Obligations.ClosedRecordsStand : Prop :=
  ∀ (s t : State) (r : LogRecord), step s = .next t → r ∈ s.log.records → r.closed = true →
    r ∈ t.log.records ∨
    (∃ d, { r with damaged := d } ∈ t.log.records ∧ (r.damaged = true → d = true) ∧
      ((∃ j l, s.pending = .powerOn j :: l) ∨ ∃ l, s.pending = .warmReset :: l)) ∨
    (∃ n, covered n r.seq = true ∧
      ((∃ q l, s.pending = .release q :: l ∧ n = q.value.toNat) ∨
        ∃ l f fs node, s.pending = .frameTaken .portB :: l ∧ s.ports.snd.fifo = f :: fs ∧
          requesterOf s.cfg.mreqBase f.id = some node ∧ 8 ≤ f.data.length ∧ f.byte 0 = 6 ∧
          n = (requestOf node f).value.toNat))

/-! ## Port units -/

/-- A frame on the bus (R1, R2): nothing while the port is OFF; a frame with an 11-bit identifier or a remote frame is counted;
an extended data frame joins the FIFO, or is lost and counted when the FIFO holds 16. -/
def Obligations.FrameArrivalJoinsTheFifo : Prop :=
  ∀ (p : PortId) (s : State), s.settled →
    (∀ f : BusFrame, f.wellFormed = true → (s.port p).state = .off → exec (.frameArrival p f) s = .next s) ∧
    ((s.port p).state ≠ .off →
      exec (.frameArrival p .foreign) s =
        .next (s.setPort p { s.port p with
          counters := { (s.port p).counters with rxForeign := min ((s.port p).counters.rxForeign + 1) 65535 } }) ∧
      ∀ f : Frame, f.data.length ≤ 8 →
        ((s.port p).fifo.length < 16 →
          exec (.frameArrival p (.extended f)) s =
            .next (s.setPort p { s.port p with fifo := (s.port p).fifo ++ [f] })) ∧
        (16 ≤ (s.port p).fifo.length →
          exec (.frameArrival p (.extended f)) s =
            .next (s.setPort p { s.port p with
              counters := { (s.port p).counters with rxOverrun := min ((s.port p).counters.rxOverrun + 1) 65535 } })))

/-- FRAME_TAKEN (R2, R13, R15, R16, R8): an empty FIFO gives nothing; the head of a port's FIFO that Frame Watch lets pass, of
port B outside the management range, when no VALID entry matches it, leaves the FIFO and is counted a miss, and is dropped, or
forwarded to the other port at class 3 by its forward enable. A page that the forwarded frame changes follows it (assumption 46).
-/
def Obligations.UnmatchedFrameIsAMiss : Prop :=
  ∀ s : State,
    (s.settled → ∀ p : PortId, (s.port p).fifo = [] → exec (.frameTaken p) s = .next s) ∧
    ∀ (p d : PortId) (f : Frame) (r : List Frame), s.settled → d ≠ p → (s.port p).fifo = f :: r →
      (p = .portB → f.id.toNat < s.cfg.mreqBase.toNat ∨ s.cfg.mreqBase.toNat + 15 < f.id.toNat) →
      (∀ e ∈ s.routes,
        ¬ (e.valid = true ∧ (e.source = .any ∨ e.source = (match p with | .portC => .portC | .portB => .portB)) ∧
          f.id &&& e.mask = e.matchId &&& e.mask)) →
      ∀ (x : Port) (miss : MissAction),
        x = { s.port p with
              fifo := r, counters := { (s.port p).counters with miss := min ((s.port p).counters.miss + 1) 65535 } } →
        miss = (match p with | .portC => s.cfg.miss.fst | .portB => s.cfg.miss.snd) →
        (miss = .drop → exec (.frameTaken p) s = .next (s.setPort p x)) ∧
        (miss = .forward → (s.port d).forwardEnable = false →
          exec (.frameTaken p) s =
            .next ((s.setPort p x).setPort d { s.port d with
              counters := { (s.port d).counters with fwdDisabled := min ((s.port d).counters.fwdDisabled + 1) 65535 } })) ∧
        (miss = .forward → (s.port d).forwardEnable = true →
          ∃ t, exec (.frameTaken p) s = .next t ∧
            ((s.setPort p x).offerQueue d { frame := f, cls := 3, origin := .forwarded, ofReset := false }).AfterPages t)

/-- A frame of either port won by an entry, no entry before it matching (R8, R15 to R20): its hit is counted. A DROP entry does
nothing else, whatever its gate. A gate group not TRUE blocks a FORWARD, CONSUME or BOTH entry: the block is counted and the frame
discarded. A frame for an arm or the chambers under CONSUME or BOTH is dropped while Frame Watch is HELD before the gate is looked
at, and counted in HELD_DROPPED. A FORWARD entry offers the frame to the other port at the entry's class, or counts it there with
the forward enable clear. A BOTH entry does the same and delivers the frame, shown at a Weighing Unit without an OPEN window
(R102), where the order of the two, a free choice (assumption 6), shows in nothing. A page that a forwarded frame changes follows
it (assumption 46). -/
def Obligations.MatchedFrameTakesItsAction : Prop :=
  ∀ (s : State) (p d : PortId) (f : Frame) (r : List Frame) (i : Nat) (e : RouteEntry) (x : Port) (q : QFrame) (u : State)
    (isOpen stops : Prop),
    s.settled → d ≠ p → (s.port p).fifo = f :: r →
    (p = .portB → f.id.toNat < s.cfg.mreqBase.toNat ∨ s.cfg.mreqBase.toNat + 15 < f.id.toNat) →
    s.routes[i]? = some e → e.valid = true → (e.source = .any ∨ e.source = (match p with | .portC => .portC | .portB => .portB)) →
    f.id &&& e.mask = e.matchId &&& e.mask →
    (∀ j < i, ∀ g, s.routes[j]? = some g →
      ¬ (g.valid = true ∧ (g.source = .any ∨ g.source = (match p with | .portC => .portC | .portB => .portB)) ∧
        f.id &&& g.mask = g.matchId &&& g.mask)) →
    (isOpen ↔ e.gate = 0 ∨ ∃ g, s.groups[e.gate - 1]? = some g ∧ g.state = .isTrue) →
    (stops ↔ s.watch.isHeld = true ∧ (e.action = .consume ∨ e.action = .both) ∧
      (e.consumer = .armA ∨ e.consumer = .armB ∨ e.consumer = .chamber)) →
    x = { s.port d with
          counters := { (s.port d).counters with fwdDisabled := min ((s.port d).counters.fwdDisabled + 1) 65535 } } →
    q = { frame := f, cls := e.cls, origin := .forwarded, ofReset := false } →
    u = { s.setPort p { s.port p with fifo := r } with routes := s.routes.set i { e with hits := min (e.hits + 1) 65535 } } →
    (e.action = .drop → exec (.frameTaken p) s = .next u) ∧
    (e.action ≠ .drop → ¬ stops → ¬ isOpen →
      exec (.frameTaken p) s =
        .next { u with
          routes := s.routes.set i { e with hits := min (e.hits + 1) 65535, blocked := min (e.blocked + 1) 65535 } }) ∧
    (stops → exec (.frameTaken p) s =
      .next (u.setWatch { s.watch with heldDropped := min (s.watch.heldDropped + 1) 65535 })) ∧
    (e.action = .forward → isOpen →
      ((s.port d).forwardEnable = false → exec (.frameTaken p) s = .next (u.setPort d x)) ∧
      ((s.port d).forwardEnable = true → ∃ t, exec (.frameTaken p) s = .next t ∧ (u.offerQueue d q).AfterPages t)) ∧
    (e.action = .both → isOpen →
      ∀ (a : ArmId) (v : State), e.consumer = (match a with | .armA => .weighA | .armB => .weighB) →
        (s.weighUnit a).isOpen = false → s.cfg.lcOffset + 3 ≤ f.data.length →
        v = { u.setWeighUnit a { s.weighUnit a with live := some (sampleOf s.cfg.lcOffset f, s.now) } with
              freeCount := s.freeCount + 1 } →
        ((s.port d).forwardEnable = false → exec (.frameTaken p) s = .next (v.setPort d x)) ∧
        ((s.port d).forwardEnable = true → ∃ t, exec (.frameTaken p) s = .next t ∧ (v.offerQueue d q).AfterPages t))

/-- A frame of either port won by a CONSUME entry whose gate lets it pass (R17, R19): its hit is counted and it reaches its
consumer. At a Weighing Unit without an OPEN window it becomes the live count, or is counted short (R102); at the tag unit without
a waiting request it becomes the arm's last tag (R92). An operator frame does what the command of its code does (Table 3-3, R122),
byte 1 and the bytes behind it being the command's; one without a byte or with another code is counted in CMD_BAD of the arm, or
in CHB_CMD_BAD (R45, R122). Operator frames are shown while Frame Watch is FREE; dropping, blocking and frames for SIGNALS are
`MatchedFrameTakesItsAction` and `SignalFrameUpdatesItsEntries`. -/
def Obligations.ConsumedFrameReachesItsConsumer : Prop :=
  ∀ (s : State) (p : PortId) (f : Frame) (r : List Frame) (i : Nat) (e : RouteEntry) (u : State),
    s.settled → (s.port p).fifo = f :: r → f.data.length ≤ 8 →
    (p = .portB → f.id.toNat < s.cfg.mreqBase.toNat ∨ s.cfg.mreqBase.toNat + 15 < f.id.toNat) →
    s.routes[i]? = some e → e.valid = true → (e.source = .any ∨ e.source = (match p with | .portC => .portC | .portB => .portB)) →
    f.id &&& e.mask = e.matchId &&& e.mask → e.action = .consume →
    (∀ j < i, ∀ g, s.routes[j]? = some g →
      ¬ (g.valid = true ∧ (g.source = .any ∨ g.source = (match p with | .portC => .portC | .portB => .portB)) ∧
        f.id &&& g.mask = g.matchId &&& g.mask)) →
    (e.gate = 0 ∨ ∃ g, s.groups[e.gate - 1]? = some g ∧ g.state = .isTrue) →
    u = { s.setPort p { s.port p with fifo := r } with routes := s.routes.set i { e with hits := min (e.hits + 1) 65535 } } →
    (∀ a : ArmId, e.consumer = (match a with | .armA => .weighA | .armB => .weighB) →
      ((s.weighUnit a).isOpen = false → s.cfg.lcOffset + 3 ≤ f.data.length →
        exec (.frameTaken p) s =
          .next (u.setWeighUnit a { s.weighUnit a with live := some (sampleOf s.cfg.lcOffset f, s.now) })) ∧
      (f.data.length < s.cfg.lcOffset + 3 →
        exec (.frameTaken p) s =
          .next (u.setWeighUnit a { s.weighUnit a with sampleShort := min ((s.weighUnit a).sampleShort + 1) 65535 }))) ∧
    (∀ a : ArmId, e.consumer = (match a with | .armA => .tagA | .armB => .tagB) →
      s.cfg.tagOffset + 5 ≤ f.data.length → qualityOf s.cfg.tagOffset f ≠ 0 → tagOf s.cfg.tagOffset f ≠ 0 →
      (s.bins.requests.at a.second).state ≠ .waitRead →
      exec (.frameTaken p) s =
        .next ((u.setBins { s.bins with
          tagValid := s.bins.tagValid.put a.second (min (s.bins.tagValid.at a.second + 1) 65535) }).setArm a
            { s.arm a with lastTag := some { tag := tagOf s.cfg.tagOffset f, readAt := s.now } })) ∧
    (∀ a : ArmId, s.watch.isHeld = false → e.consumer = (match a with | .armA => .armA | .armB => .armB) →
      (∀ (b : Byte) (args : List Byte), f.data = b :: args →
        ∀ c, (b.toNat, c) ∈ [(1, Instr.start a args), (2, .pauseArm a), (3, .continueArm a), (4, .abortArm a),
            (5, .manualEnter a), (6, .manualExit a), (7, .faultClear a)] →
          exec (.frameTaken p) s = exec c u) ∧
      (f.data = [] ∨ f.byte 0 = 0 ∨ 7 < (f.byte 0).toNat →
        exec (.frameTaken p) s = .next (u.setArm a { s.arm a with cmdBad := min ((s.arm a).cmdBad + 1) 65535 }))) ∧
    (s.watch.isHeld = false → e.consumer = .chamber →
      (∀ (b : Byte) (args : List Byte), f.data = b :: args →
        ∀ c, (b.toNat, c) ∈ [(1, Instr.packNow args), (2, .discharged args), (3, .chamberFaultClear args)] →
          exec (.frameTaken p) s = exec c u) ∧
      (f.data = [] ∨ f.byte 0 = 0 ∨ 3 < (f.byte 0).toNat →
        exec (.frameTaken p) s = .next { u with chbCmdBad := min (s.chbCmdBad + 1) 65535 }))

/-- ERROR_PASSIVE, RETURN_TO_ACTIVE, BUS_OFF and RECOVERY_TIMER_EXPIRY (R3, R4, R5). ACTIVE goes PASSIVE and PASSIVE goes ACTIVE,
each counted; in every other state those reports change nothing. Entry to OFF is counted, queue and transmission are discarded and
counted, the recovery timer starts, FIFO, slots and forward enable stand, and a lost RESET reply makes the warm reset due (R164);
on port B this is stated for arms in IDLE or FAULTED, on which the port has no effect (`ArmsAnswerLoss` states the others). A port
already OFF changes nothing by those reports. When the recovery timer runs out in OFF the port restarts: ACTIVE, FIFO and queue
emptied and counted, transmitter free, rate, slots and forward enable as they were; the transmitter then makes its choice, and a
lost RESET reply makes the warm reset due (R164). In another state, or with its timer stopped, nothing happens (assumption 2). -/
def Obligations.PortStatesChange : Prop :=
  ∀ (p : PortId) (s : State) (x : Port), x = s.port p →
    (s.calm → x.state = .active → ∃ t, exec (.errorPassive p) s = .next t ∧
      (s.setPort p { x with
        state := .passive,
        counters := { x.counters with passiveCount := min (x.counters.passiveCount + 1) 65535 } }).AfterPages t) ∧
    (s.calm → x.state = .passive → ∃ t, exec (.returnToActive p) s = .next t ∧
      (s.setPort p { x with
        state := .active,
        counters := { x.counters with activeCount := min (x.counters.activeCount + 1) 65535 } }).AfterPages t) ∧
    (s.calm → x.state ≠ .off → (p = .portB → ∀ a : ArmId, (s.arm a).state = .idle ∨ (s.arm a).state = .faulted) →
      ∃ t due, exec (.busOff p) s = .next t ∧
        ({ s.setPort p { x with
            state := .off, queue := [], transmitter := none, recovery := .start 200,
            counters := { x.counters with
              busoffCount := min (x.counters.busoffCount + 1) 65535,
              txFlushed := min (x.counters.txFlushed +
                (x.queue.length + if x.transmitter.isSome then 1 else 0)) 65535 } } with
          mgmt := { s.mgmt with resetDue := due } } : State).AfterPages t ∧
        (due = true ↔ s.mgmt.resetDue = true ∨
          ∃ q : QFrame, q.ofReset = true ∧ (q ∈ x.queue ∨ x.transmitter = some (.fromQueue q)))) ∧
    (s.settled → x.state ≠ .active → exec (.errorPassive p) s = .next s) ∧
    (s.settled → x.state ≠ .passive → exec (.returnToActive p) s = .next s) ∧
    (s.settled → x.state = .off → exec (.busOff p) s = .next s) ∧
    (s.calm → x.state = .off → x.recovery.running = true →
      ∃ t due, exec (.recoveryTimerExpiry p) s = .next t ∧
        ({ s.setPort p (Port.choose { x with
            state := .active, fifo := [], queue := [], transmitter := none, recovery := .stopped,
            counters := { x.counters with
              rxFlushed := min (x.counters.rxFlushed + x.fifo.length) 65535,
              txFlushed := min (x.counters.txFlushed +
                (x.queue.length + if x.transmitter.isSome then 1 else 0)) 65535 } }) with
          mgmt := { s.mgmt with resetDue := due } } : State).AfterPages t ∧
        (due = true ↔ s.mgmt.resetDue = true ∨
          ∃ q : QFrame, q.ofReset = true ∧ (q ∈ x.queue ∨ x.transmitter = some (.fromQueue q)))) ∧
    (s.settled → x.state ≠ .off ∨ x.recovery.running = false → exec (.recoveryTimerExpiry p) s = .next s)

/-- TRANSMISSION_END (R10, R164): the transmitter is free and makes its next choice; the leaving of a RESET reply makes the warm
reset due; a free transmitter has nothing to end. The choice: the pending slot of the lowest number before the queue, the head of
the queue when no slot is pending, nothing when neither is there; and no choice while it is sending or the port is OFF. -/
def Obligations.TransmissionEndFreesTheTransmitter : Prop :=
  (∀ (p : PortId) (s : State), s.settled →
    ((s.port p).transmitter = none → exec (.transmissionEnd p) s = .next s) ∧
    (∀ (n : Nat) (f : Frame), (s.port p).transmitter = some (.fromSlot n f) →
      exec (.transmissionEnd p) s =
        .next (s.setPort p (Port.choose { s.port p with transmitter := none }))) ∧
    (∀ q : QFrame, (s.port p).transmitter = some (.fromQueue q) →
      exec (.transmissionEnd p) s =
        .next { s.setPort p (Port.choose { s.port p with transmitter := none }) with
          mgmt := { s.mgmt with resetDue := s.mgmt.resetDue || q.ofReset } })) ∧
  ∀ x : Port,
    (x.state = .off ∨ x.transmitter ≠ none → x.choose = x) ∧
    (x.state ≠ .off → x.transmitter = none →
      (∀ (n : Nat) (f : Frame), x.slots[n]? = some (some f) → (∀ m < n, x.slots[m]? = some none) →
        x.choose = { x with slots := x.slots.set n none, transmitter := some (.fromSlot n f) }) ∧
      ((∀ o ∈ x.slots, o = none) →
        (∀ (q : QFrame) (r : List QFrame), x.queue = q :: r →
          x.choose = { x with queue := r, transmitter := some (.fromQueue q) }) ∧
        (x.queue = [] → x.choose = x)))

/-- A frame offered to a transmit queue that stands in order of class (R4, R6, R7): with room it joins, the queue staying in order
of class, the frame behind those of its own class, and no frame changing place among its class. A full queue evicts the newest frame
of its greatest class, if that class is greater than the offered frame's, counted in TX_EVICT of its class; otherwise the offered
frame is dropped, counted in TX_DROP of its own. A port in OFF drops it, counted in OFF_DROP. -/
def Obligations.QueueKeepsClassThenAge : Prop :=
  ∀ (x : Port) (q : QFrame), x.queue.Pairwise (fun a b => a.cls ≤ b.cls) →
    (∀ l : List QFrame, l.Pairwise (fun a b => a.cls ≤ b.cls) →
      (joinQueue q l).Pairwise (fun a b => a.cls ≤ b.cls) ∧
      ∀ k : Nat, (joinQueue q l).filter (fun e => decide (e.cls = k)) =
        l.filter (fun e => decide (e.cls = k)) ++ if q.cls = k then [q] else []) ∧
    (x.state = .off →
      x.offerQueue q = ({ x with counters := { x.counters with offDrop := min (x.counters.offDrop + 1) 65535 } }, [q])) ∧
    (x.state ≠ .off → x.queue.length < 48 →
      x.offerQueue q = (Port.choose { x with queue := joinQueue q x.queue }, [])) ∧
    (x.state ≠ .off → 48 ≤ x.queue.length → ∀ (l : List QFrame) (v : QFrame), x.queue = l ++ [v] →
      (∀ e ∈ x.queue, e.cls ≤ v.cls) ∧
      (q.cls < v.cls →
        x.offerQueue q =
          (Port.choose { x with
            queue := joinQueue q l,
            counters := { x.counters with
              txEvict := x.counters.txEvict.modify v.cls (fun n => min (n + 1) 65535) } }, [v])) ∧
      (v.cls ≤ q.cls →
        x.offerQueue q =
          ({ x with
            counters := { x.counters with
              txDrop := x.counters.txDrop.modify q.cls (fun n => min (n + 1) 65535) } }, [q])))

/-! ## Signals and interlocks -/

/-- Scaling (R24): the stored field read by its sign, times numerator over denominator, rounded to the nearest with a half away
from zero, plus the offset. -/
def Obligations.ScalingRoundsHalfAway : Prop :=
  ∀ (e : SignalEntry) (f : Frame), 1 ≤ e.denominator → 1 ≤ e.width → e.rawField f < 2 ^ e.width →
    ∃ raw q : Int,
      e.scaled f = e.offset + q ∧
      raw = (if e.isSigned = true ∧ 2 ^ (e.width - 1) ≤ e.rawField f then (e.rawField f : Int) - 2 ^ e.width
        else e.rawField f) ∧
      |2 * (q * e.denominator - raw * e.numerator)| ≤ e.denominator ∧
      (|2 * (q * e.denominator - raw * e.numerator)| = e.denominator → |raw * e.numerator| < |q * e.denominator|)

/-- One Signal Table entry takes a frame (R23, R25, R26). A frame in which the field does not lie only counts in the short-frame
count: value, state, CLAMPED and timer stand. From any other the raw field is taken, which has the entry's width: LSB-first its
bit `j` is frame bit start + j, counted up from bit 0 of each byte; MSB-first its bits run downward from bit 7 − (start mod 8) of
the first byte. The scaled value (`ScalingRoundsHalfAway`) is raised to clamp low, then lowered to clamp high, and stored; CLAMPED
is set if either adjustment changed the value it met; the entry is FRESH, and its freshness timer starts afresh, or stands still
with limit 0. Where clamp low is above clamp high, a scaled value equal to clamp high is raised and lowered back, and that CLAMPED
is then set is the model's reading (assumption 37, DEDUCED). -/
def Obligations.SignalEntryTakesAFrame : Prop :=
  ∀ (e : SignalEntry) (f : Frame),
    (8 * f.data.length < e.startBit + e.width → e.take f = { e with shortFrames := min (e.shortFrames + 1) 65535 }) ∧
    (e.startBit + e.width ≤ 8 * f.data.length →
      (∀ x y : Int, x = (if e.scaled f < e.clampLow then e.clampLow else e.scaled f) →
        y = (if e.clampHigh < x then e.clampHigh else x) →
        e.take f =
          { e with
            value := some y, clamped := decide (x ≠ e.scaled f ∨ y ≠ x), state := .fresh,
            timer :=
              if e.freshnessLimit = 0 then { running := false, left := 0 } else { running := true, left := e.freshnessLimit } } ∧
        (e.clampHigh < e.clampLow → y = e.clampHigh ∧ (e.take f).clamped = true)) ∧
      (1 ≤ e.width →
        e.rawField f < 2 ^ e.width ∧
        ∀ j < e.width,
          (e.order = .lsbFirst →
            (e.rawField f).testBit j = (f.byte ((e.startBit + j) / 8)).getLsbD ((e.startBit + j) % 8)) ∧
          (e.order = .msbFirst →
            (e.rawField f).testBit (e.width - 1 - j) =
              (f.byte ((e.startBit + j) / 8)).getLsbD (7 - (e.startBit + j) % 8))))

/-- The table of R34: the result of a VALID term whose signal is FRESH or HELD at the value `v`. EQ, NE and BIT_SET take no
hysteresis; a term without hysteresis keeps the boundary of its last column; an IN_BAND term with A above B and a BIT_SET term
with A = 0 never become TRUE. -/
def Obligations.TermComparisonTable : Prop :=
  ∀ (t : TermEntry) (signals : List SignalEntry) (e : SignalEntry) (v : Int),
    t.valid = true → signals[t.signal]? = some e → (e.state = .fresh ∨ e.state = .held) → e.value = some v →
    (t.result = false →
      ((t.evaluate signals).result = true ↔
        match t.comparison with
        | .gt => t.thresholdA < v
        | .ge => t.thresholdA ≤ v
        | .lt => v < t.thresholdA
        | .le => v ≤ t.thresholdA
        | .inBand => t.thresholdA ≤ v ∧ v ≤ t.thresholdB
        | .eq => v = t.thresholdA
        | .ne => v ≠ t.thresholdA
        | .bitSet => ∃ i, (BitVec.ofInt 32 v).getLsbD i = true ∧ (BitVec.ofInt 32 t.thresholdA).getLsbD i = true)) ∧
    (t.result = true →
      ((t.evaluate signals).result = false ↔
        match t.comparison with
        | .gt => v < t.thresholdA - t.hysteresis
        | .ge => v < t.thresholdA - t.hysteresis
        | .lt => t.thresholdA + t.hysteresis < v
        | .le => t.thresholdA + t.hysteresis < v
        | .inBand => v < t.thresholdA - t.hysteresis ∨ t.thresholdB + t.hysteresis < v
        | .eq => v ≠ t.thresholdA
        | .ne => v = t.thresholdA
        | .bitSet => ∀ i, ¬ ((BitVec.ofInt 32 v).getLsbD i = true ∧ (BitVec.ofInt 32 t.thresholdA).getLsbD i = true))) ∧
    (t.result = false → t.comparison = .inBand → t.thresholdB < t.thresholdA → (t.evaluate signals).result = false) ∧
    (t.comparison = .bitSet → t.thresholdA = 0 → (t.evaluate signals).result = false)

/-- One evaluation of a group (R36, R37). A reference is satisfied when its term is VALID, its term's signal is FRESH or HELD, and
the term is TRUE, or FALSE for a negated reference; the group is satisfied when it has a reference and every one is satisfied. A
VALID satisfied group goes from FALSE to TRUE at once without a true-delay, else to PENDING with the delay running, and stands in
PENDING or TRUE; any other group goes FALSE at once with its timer stopped. -/
def Obligations.GroupsFollowTheirTerms : Prop :=
  ∀ (s : State) (g : GroupEntry) (ok : GroupRef → Prop),
    (∀ r, ok r ↔ ∃ t e v, s.terms[r.term]? = some t ∧ t.valid = true ∧ s.signals[t.signal]? = some e ∧
      (e.state = .fresh ∨ e.state = .held) ∧ e.value = some v ∧ (t.result = true ↔ r.negate = false)) →
    (g.valid = true → (∃ r, some r ∈ g.refs) → (∀ r, some r ∈ g.refs → ok r) →
      (g.state = .isFalse → g.trueDelay = 0 → s.evaluateGroup g = { g with state := .isTrue, timer := .stopped }) ∧
      (g.state = .isFalse → 0 < g.trueDelay →
        s.evaluateGroup g = { g with state := .pending, timer := { running := true, left := g.trueDelay } }) ∧
      (g.state ≠ .isFalse → s.evaluateGroup g = g)) ∧
    (g.valid = false ∨ (∀ r, some r ∉ g.refs) ∨ (∃ r, some r ∈ g.refs ∧ ¬ ok r) →
      s.evaluateGroup g = { g with state := .isFalse, timer := .stopped })

/-- FRESHNESS_LIMIT_EXPIRY and HOLD_TIME_EXPIRY (R26) of a VALID entry whose timer runs: FRESH goes HELD with the hold time
running, or LOST at once with hold time 0; HELD goes LOST; the value is kept; the terms on the entry and their groups are
evaluated (R38). ONE_SECOND_TIMER_EXPIRY (R31): the route clock's count moves on by one, above 4294967295 to 0, its flag stands and
its timer restarts. TRUE_DELAY_EXPIRY (R37): a VALID PENDING group whose timer runs becomes TRUE, the other groups standing. Entries
and groups are stated where no reader is bound. In every other state, or with its timer stopped, nothing happens (assumption 2). -/
def Obligations.SignalUnitTimersExpire : Prop :=
  ∀ s : State,
    (∀ (i : Nat) (e : SignalEntry), i < 64 → s.signals[i]? = some e →
      (s.calm → s.unread → e.valid = true → e.timer.running = true →
        (e.state = .fresh → 0 < e.holdTime → ∃ t, exec (.freshnessLimitExpiry i) s = .next t ∧
          ({ s with
              signals := s.signals.set i { e with state := .held, timer := { running := true, left := e.holdTime } } }.evaluateOn [i]).AfterPages t) ∧
        (e.state = .fresh → e.holdTime = 0 → ∃ t, exec (.freshnessLimitExpiry i) s = .next t ∧
          ({ s with
              signals := s.signals.set i { e with state := .lost, timer := .stopped } }.evaluateOn [i]).AfterPages t) ∧
        (e.state = .held → ∃ t, exec (.holdTimeExpiry i) s = .next t ∧
          ({ s with
              signals := s.signals.set i { e with state := .lost, timer := .stopped } }.evaluateOn [i]).AfterPages t)) ∧
      (s.settled → e.valid = false ∨ e.timer.running = false ∨ e.state ≠ .fresh →
        exec (.freshnessLimitExpiry i) s = .next s) ∧
      (s.settled → e.valid = false ∨ e.timer.running = false ∨ e.state ≠ .held → exec (.holdTimeExpiry i) s = .next s)) ∧
    (s.settled → s.clock.timer.running = true → exec .oneSecondTimerExpiry s =
      .next { s with
        clock := { s.clock with count := (s.clock.count + 1) % 4294967296, timer := .start 1000 } }) ∧
    (s.settled → s.clock.timer.running = false → exec .oneSecondTimerExpiry s = .next s) ∧
    ∀ (g : Nat) (e : GroupEntry), g < 32 → s.groups[g]? = some e →
      (s.calm → s.unread → e.valid = true → e.state = .pending → e.timer.running = true →
        ∃ t, exec (.trueDelayExpiry (g + 1)) s = .next t ∧
          { s with groups := s.groups.set g { e with state := .isTrue, timer := .stopped } }.AfterPages t) ∧
      (s.settled → e.valid = false ∨ e.state ≠ .pending ∨ e.timer.running = false →
        exec (.trueDelayExpiry (g + 1)) s = .next s)

/-- A frame from port C won for SIGNALS (R22, R38): every VALID entry of its route entry takes the frame, as one event, and the
terms and groups on those it updates are evaluated; entries of other route entries stand. Stated where no reader is bound. -/
def Obligations.SignalFrameUpdatesItsEntries : Prop :=
  ∀ (s : State) (f : Frame) (r : List Frame) (i : Nat) (e : RouteEntry),
    s.calm → s.unread → s.ports.fst.fifo = f :: r → winner s.routes .portC f = some i → s.routes[i]? = some e →
    e.action = .consume → e.consumer = .signals → e.gate = 0 →
    ∃ t, exec (.frameTaken .portC) s = .next t ∧
      ({ s with
          ports := { s.ports with fst := { s.ports.fst with fifo := r } },
          routes := s.routes.set i { e with hits := min (e.hits + 1) 65535 },
          signals := s.signals.map (fun d : SignalEntry => if d.valid = true ∧ d.source = i then d.take f else d) }.evaluateOn
        ((List.range s.signals.length).filter (fun k =>
          match s.signals[k]? with
          | some d => d.valid && decide (d.source = i) && decide (d.startBit + d.width ≤ 8 * f.data.length)
          | none => false))).AfterPages t

/-! ## Arms -/

/-- The program a START selects (R42, R43): the entry of the Select Table for its arm and size class names it, and it is valid,
with all eight conditions of R43 holding: its entry VALID; its last step within the Step Store; every step of its run VALID; one
TAG step and one TIP_MARK step, the TAG first; at most one WEIGH_GROSS step, between the two; at most one WEIGH_TARE step, after
the TIP_MARK; the return step between the two; and no loop that goes back before position 1 or holds, at either end or between, a
step that is no POSITION or TIME step. Stated for a Step Store of 192 entries and step counts of 1 or more, as the tables have
them. -/
def Obligations.SelectionMeetsTheConditions : Prop :=
  ∀ (s : State) (a : ArmId) (size n : Nat), size ≤ 3 → s.steps.length = 192 → (∀ g ∈ s.programs, 1 ≤ g.stepCount) →
    (s.validSelection a size = some n ↔
      s.select[(match a with | .armA => 0 | .armB => 4) + size]? = some (some n) ∧
      ∃ (g : ProgramEntry) (step : Nat → StepEntry → Prop) (t m : Nat),
        s.programs[n]? = some g ∧
        (∀ p k, step p k ↔ 1 ≤ p ∧ p ≤ g.stepCount ∧ s.steps[g.firstStep + p - 1]? = some k) ∧
        g.valid = true ∧ g.firstStep + g.stepCount - 1 ≤ 191 ∧ (∀ p k, step p k → k.valid = true) ∧
        (∃ k, step t k ∧ k.endKind = .tag) ∧ (∀ p k, step p k → k.endKind = .tag → p = t) ∧
        (∃ k, step m k ∧ k.endKind = .tipMark) ∧ (∀ p k, step p k → k.endKind = .tipMark → p = m) ∧ t < m ∧
        (∀ p k, step p k → k.endKind = .weighGross →
          t < p ∧ p < m ∧ ∀ p' k', step p' k' → k'.endKind = .weighGross → p' = p) ∧
        (∀ p k, step p k → k.endKind = .weighTare → m < p ∧ ∀ p' k', step p' k' → k'.endKind = .weighTare → p' = p) ∧
        t < g.returnStep ∧ g.returnStep < m ∧
        ∀ p k, step p k → 0 < k.loopCount →
          k.loopDistance + 1 ≤ p ∧
          ∀ p' k', p ≤ p' + k.loopDistance → p' ≤ p → step p' k' → k'.endKind = .position ∨ k'.endKind = .time)

/-- An arm command that has no effect in the arm's state is counted in CMD_IGNORED, a START without a size class of 0 to 3 in
CMD_BAD, and neither changes anything else (R45, R46, R57 to R59, R62, R65, R67). START in IDLE is judged in the order program,
permit, log reserve, chamber, and the first check that fails gives the refusal code and nothing else (R46, R47). -/
def Obligations.ArmCommandsRefusedOrIgnored : Prop :=
  ∀ (s : State) (a : ArmId) (x ignored bad : Arm), s.watch.isHeld = false → x = s.arm a →
    ignored = { x with cmdIgnored := min (x.cmdIgnored + 1) 65535 } →
    bad = { x with cmdBad := min (x.cmdBad + 1) 65535 } →
    (s.settled →
      exec (.start a []) s = .next (s.setArm a bad) ∧
      (∀ (b : Byte) (l : List Byte), l.length ≤ 6 →
        (3 < b.toNat → exec (.start a (b :: l)) s = .next (s.setArm a bad)) ∧
        (b.toNat ≤ 3 → x.state ≠ .idle → exec (.start a (b :: l)) s = .next (s.setArm a ignored))) ∧
      (x.state = .idle ∨ x.state = .paused ∨ x.state = .held ∨ x.state = .manual ∨ x.state = .faulted →
        exec (.pauseArm a) s = .next (s.setArm a ignored)) ∧
      (x.state ≠ .paused → exec (.continueArm a) s = .next (s.setArm a ignored)) ∧
      (x.state = .idle ∨ x.state = .held ∨ x.state = .faulted → exec (.abortArm a) s = .next (s.setArm a ignored)) ∧
      (x.state ≠ .idle → exec (.manualEnter a) s = .next (s.setArm a ignored)) ∧
      (x.state ≠ .manual → exec (.manualExit a) s = .next (s.setArm a ignored)) ∧
      (x.state ≠ .faulted → exec (.faultClear a) s = .next (s.setArm a ignored))) ∧
    ∀ (b : Byte) (l : List Byte) (r : ArmRefusal), s.calm → l.length ≤ 6 → b.toNat ≤ 3 → x.state = .idle →
      (s.validSelection a b.toNat = none ∧ r = .programInvalid ∨
        s.validSelection a b.toNat ≠ none ∧
          (s.given a.liftPermit = false ∧ r = .noPermit ∨
            s.given a.liftPermit = true ∧
              (2048 - s.log.records.length ≤ s.cfg.reserve ∧ r = .logReserve ∨
                s.cfg.reserve < 2048 - s.log.records.length ∧ (s.chamber a.chamber).load = .full ∧ r = .chamberFull))) →
      ∃ t, exec (.start a (b :: l)) s = .next t ∧ (s.setArm a { x with refusal := r }).AfterPages t

/-- START admitted (R47 to R50, R140), shown with the guard given at a POSITION step whose term is not TRUE and whose flow is
granted at once: an OPEN record is placed with the next number, the program and its first step are taken, both timers run as
the step gives them, and the arm is RUNNING with its valve group driven as the step says. That a START clears the single-step flag
is read from R70 (assumption 14, DEDUCED); that a page follows a frame of the same act is the model's choice (assumption 46). -/
def Obligations.StartOpensTheCycle : Prop :=
  ∀ (s : State) (a : ArmId) (b : Byte) (l : List Byte) (n : Nat) (g : ProgramEntry) (p : StepEntry),
    s.calm → s.watch.isHeld = false → l.length ≤ 6 → b.toNat ≤ 3 → (s.arm a).state = .idle →
    s.validSelection a b.toNat = some n → s.given a.liftPermit = true →
    s.cfg.reserve < 2048 - s.log.records.length → (s.chamber a.chamber).load ≠ .full →
    s.roleValue a.posRole ≠ none → s.ports.snd.state ≠ .off → s.given a.runGuard = true →
    s.programs[n]? = some g → s.steps[g.firstStep]? = some p → p.endKind = .position → s.termTrue p.endParam = false →
    s.fits a.consumer p.demand → (s.valve a.consumer).driving = false →
    ∃ t u, exec (.start a (b :: l)) s = .next t ∧
      u = { s with
            log := { s.log with
              records := s.log.records ++
                [{ LogRecord.blank .lift a.second s.cal.counter s.cal.unlocked with
                    seq := s.log.nextSeq, sizeClass := b.toNat, stream := a.chamber.number }],
              nextSeq := if s.log.nextSeq = 4294967295 then 1 else s.log.nextSeq + 1 },
            arms := s.arms.put a.second
              { s.arm a with
                state := .running, program := some n, position := some 1, loops := List.replicate 32 0,
                stepTimer := .start p.timeLimit, durationTimer := .stopped, singleStep := false, refused := false,
                openRecord := some s.log.nextSeq, refusal := .none, keptEnd := false } } ∧
      ((u.granted a.consumer p.demand).driven a.consumer p.functions (List.replicate 6 p.level) p.ramp).AfterPages t

/-- PAUSE in RUNNING, WAIT_SUPPLY or SUSPENDED (R56, R57): PAUSED, both timers stopped with their remainders, the single-step flag
cleared, the valve group stopped, the claim given back, shown with no window open on the arm. MANUAL_EXIT and ABORT in MANUAL
(R59, R67): IDLE with the granted flag cleared, the valve group stopped and the claim given back. Both shown with nobody else
waiting for flow. FAULT_CLEAR in FAULTED (R62): IDLE with fault code NONE, and nothing else. That a page follows the group's zero
frame, and that the prior state is none after MANUAL, is the model's choice (assumptions 46 and 50); that the last manual position
is kept at the end of MANUAL is read from R68 (assumption 34, DEDUCED). -/
def Obligations.StoppingCommandsStopTheArm : Prop :=
  ∀ (s : State) (a : ArmId), s.calm → s.watch.isHeld = false →
    (((s.arm a).state = .running ∨ (s.arm a).state = .waitSupply ∨ (s.arm a).state = .suspended) →
      (s.weighUnit a).isOpen = false → s.noneWaitsBut a.consumer →
      ∃ t, exec (.pauseArm a) s = .next t ∧
        (((s.setArm a { (s.arm a).stoppedIn .paused with singleStep := false }).stopped a.consumer).granted
          a.consumer 0).AfterPages t) ∧
    ((s.arm a).state = .manual → s.noneWaitsBut a.consumer → ∀ c, c = .manualExit a ∨ c = .abortArm a →
      ∃ t, exec c s = .next t ∧
        (((s.setArm a { s.arm a with state := .idle, manualGranted := false, prior := none, grantedHeld := false }).stopped
          a.consumer).granted a.consumer 0).AfterPages t) ∧
    ((s.arm a).state = .faulted → (s.valve a.consumer).driving = false →
      ∃ t, exec (.faultClear a) s = .next t ∧
        (s.setArm a { s.arm a with state := .idle, fault := .none }).AfterPages t)

/-- The end of a lift cycle (R51, R53, R55, R56, R59, R61, R98, R114, R142): by ABORT, ABORTED; by the step timer of a POSITION or
TIME step whose timeout action is FAULT, FAULTED with STEP_TIMEOUT; by the duration of a TIME step at the program's last position,
COMPLETED. The record is closed with the outcome (`State.cycleOver`; `State.closedAs` holds all it carries), the arm keeps no
program, step or record, its Weighing Unit and its decision request are idle, its valve group is stopped and its claim given back.
Shown for an untipped record, with no quiet request of the arm and nobody else waiting for flow. That a cycle's end clears the
single-step flag is read from R70 (assumption 14, DEDUCED); that a page follows the group's zero frame, and that the prior state is
none after a cycle, is the model's choice (assumptions 46 and 50). -/
def Obligations.CycleEndClosesTheRecord : Prop :=
  ∀ (s : State) (a : ArmId) (n : Nat) (r : LogRecord) (c : Instr) (o : CycleOutcome) (st : ArmState) (k : ArmFault),
    s.calm → (s.arm a).openRecord = some n → s.log.openRecord n = some r → r.flags.tipped = false →
    (s.weighUnit a).isOpen = false → (s.weighUnit a).quiet = false → s.noneWaitsBut a.consumer →
    (c = .abortArm a ∧ s.watch.isHeld = false ∧
        ((s.arm a).state = .running ∨ (s.arm a).state = .waitSupply ∨ (s.arm a).state = .suspended ∨
          (s.arm a).state = .paused) ∧
        o = .aborted ∧ st = .idle ∧ k = (s.arm a).fault) ∨
      (c = .stepTimerExpiry a ∧ (s.arm a).state = .running ∧ (s.arm a).stepTimer.running = true ∧
        (∃ p, s.currentStep a = some p ∧ (p.endKind = .position ∨ p.endKind = .time) ∧ p.onTimeout = .fault) ∧
        o = .faulted ∧ st = .faulted ∧ k = .stepTimeout) ∨
      (c = .durationTimerExpiry a ∧ (s.arm a).state = .running ∧ (s.arm a).durationTimer.running = true ∧
        (s.arm a).refused = false ∧
        (∃ g p, s.programOf a = some g ∧ (s.arm a).position = some g.stepCount ∧ s.currentStep a = some p ∧
          p.endKind = .time ∧ p.loopCount ≤ (s.arm a).loops.getD (g.stepCount - 1) 0) ∧
        o = .completed ∧ st = .idle ∧ k = (s.arm a).fault) →
    ∃ t, exec c s = .next t ∧ (s.cycleOver a n r o st k).AfterPages t

/-- How a step's end passes on (R51, R53 to R55, R70). The end comes by the duration of a TIME step, by the step timer of a
POSITION or TIME step whose timeout action is NEXT, or is taken by the arm itself (`State.finishStep`). While the loop counter of
the position is below the loop-back count of its POSITION or TIME step it counts up and the arm goes back by the loop distance;
otherwise it is reset, and the arm goes from a TAG step of a refused cycle to the return step, from any other to the next
position, and from the last the cycle ends, REFUSED or COMPLETED. A refused cycle passes over every WEIGH_GROSS, WEIGH_TARE and
TIP_MARK step and every step that drives LIFT_UP, and with none left ends REFUSED. At the position reached both timers are loaded;
with the single-step flag the arm is PAUSED there and the flag clear, without the guard SUSPENDED, and with it RUNNING, shown at a
POSITION step whose term is not TRUE or a TIME step with a duration, when its flow is granted at once. The end of TIP_MARK marks
the record tipped and hands one tip to the chamber. Shown for an untipped record, with no window open and no quiet request of the
arm and nobody else waiting for flow. That a cycle's end clears the single-step flag is read from R70 (assumption 14, DEDUCED);
that a page follows the group's frame, that the chamber takes the tip after the arm has passed on, and that the prior state is none
after a cycle, is the model's choice (assumptions 46, 3 and 50). -/
def Obligations.StepEndPassesOn : Prop :=
  ∀ (s : State) (a : ArmId) (g : ProgramEntry) (p : Nat) (k : StepEntry) (skipped : StepEntry → Prop)
    (overEnd : CycleOutcome → State → Prop) (goes : Arm → Nat → State → Prop) (passes : Arm → State → Prop),
    s.calm → (s.arm a).state = .running → (s.arm a).position = some p → s.programOf a = some g → s.currentStep a = some k →
    g.stepCount ≤ 32 → (s.weighUnit a).isOpen = false → (s.weighUnit a).quiet = false → s.noneWaitsBut a.consumer →
    (∀ e, skipped e ↔ e.endKind = .weighGross ∨ e.endKind = .weighTare ∨ e.endKind = .tipMark ∨ e.functions.getLsbD 2 = true) →
    (∀ o v, overEnd o v ↔ ∃ n r, (s.arm a).openRecord = some n ∧ s.log.openRecord n = some r ∧ r.flags.tipped = false ∧
      v = s.cycleOver a n r o .idle (s.arm a).fault) →
    (∀ x target v, goes x target v ↔
      (∃ (q : Nat) (d : StepEntry) (y : Arm), target ≤ q ∧ q ≤ g.stepCount ∧ s.stepAt a q = some d ∧ (x.refused = true → ¬ skipped d) ∧
        (∀ j, target ≤ j → j < q → x.refused = true ∧ ∃ e, s.stepAt a j = some e ∧ skipped e) ∧
        y = { x with
          position := some q, stepTimer := { running := false, left := d.timeLimit },
          durationTimer := { running := false, left := if d.endKind = EndKind.time then d.endParam else 0 }, keptEnd := false } ∧
        (x.singleStep = true ∧
            v = ((s.setArm a { y with state := .paused, singleStep := false }).stopped a.consumer).granted a.consumer 0 ∨
          x.singleStep = false ∧ s.given a.runGuard = false ∧
            v = ((s.setArm a { y with state := .suspended }).stopped a.consumer).granted a.consumer 0 ∨
          x.singleStep = false ∧ s.given a.runGuard = true ∧ s.fits a.consumer d.demand ∧
            (d.endKind = .position ∧ s.termTrue d.endParam = false ∨ d.endKind = .time ∧ 0 < d.endParam) ∧
            v = ((s.setArm a { y with
                stepTimer := { running := true, left := d.timeLimit },
                durationTimer := { y.durationTimer with running := decide (d.endKind = EndKind.time) } }).granted
                  a.consumer d.demand).driven a.consumer d.functions (List.replicate 6 d.level) d.ramp)) ∨
      x.refused = true ∧ target ≤ g.stepCount ∧
        (∀ j, target ≤ j → j ≤ g.stepCount → ∃ e, s.stepAt a j = some e ∧ skipped e) ∧ overEnd .refused v) →
    (∀ x v, passes x v ↔
      (k.endKind = .position ∨ k.endKind = .time) ∧ x.loops.getD (p - 1) 0 < k.loopCount ∧ k.loopDistance < p ∧
          goes { x with loops := x.loops.set (p - 1) (x.loops.getD (p - 1) 0 + 1) } (p - k.loopDistance) v ∨
        ((k.endKind ≠ .position ∧ k.endKind ≠ .time) ∨ k.loopCount ≤ x.loops.getD (p - 1) 0) ∧
          ∃ z : Arm, z = { x with loops := x.loops.set (p - 1) 0 } ∧
            (k.endKind = .tag ∧ x.refused = true ∧ goes z g.returnStep v ∨
              (k.endKind ≠ .tag ∨ x.refused = false) ∧ p < g.stepCount ∧ goes z (p + 1) v ∨
              (k.endKind ≠ .tag ∨ x.refused = false) ∧ g.stepCount ≤ p ∧
                overEnd (if x.refused = true then .refused else .completed) v)) →
    ∀ v : State,
      (k.endKind = .time → (s.arm a).durationTimer.running = true → passes { s.arm a with durationTimer := .stopped } v →
        ∃ t, exec (.durationTimerExpiry a) s = .next t ∧ v.AfterPages t) ∧
      (k.endKind = .position ∨ k.endKind = .time → k.onTimeout = .next → (s.arm a).stepTimer.running = true →
        passes { s.arm a with stepTimer := .stopped } v →
        ∃ t, exec (.stepTimerExpiry a) s = .next t ∧ v.AfterPages t) ∧
      (k.endKind ≠ .tipMark → passes (s.arm a) v → s.finishStep a = v) ∧
      ∀ n, k.endKind = .tipMark → p < g.stepCount → (s.arm a).refused = false → (s.arm a).openRecord = some n →
        passes (s.arm a) v →
        s.finishStep a =
          { v with
            log := { s.log with
              records := s.log.records.map (fun e : LogRecord =>
                if e.seq = n ∧ e.closed = false then { e with flags := { e.flags with tipped := true } } else e) },
            agenda := [.tip a.chamber] }

/-- What an arm loses (R60, R61, R67). BUS_OFF of port B faults every arm in cycle with BODY_PORT_OFF, its record closed FAULTED,
and every arm in MANUAL, HELD ones included, leaves it for FAULTED with that code; of two arms a free choice takes one first
(assumption 6). ARM_POS become unavailable faults an arm in cycle with POSITION_LOST and drops the last position of one in MANUAL.
RUN_GUARD lost takes an arm from RUNNING or WAIT_SUPPLY to SUSPENDED with its claim given back; RUN_GUARD given claims the step
again, shown at a POSITION step whose term is not TRUE and whose flow is granted at once. MANUAL_PERMIT lost, or the chamber FULL,
takes an arm from MANUAL to IDLE. Any other state stands. The last three are stated of the block's own act. Shown for untipped
records, with no window open and no quiet request of the arm and nobody else waiting for flow. That a cycle's end clears the
single-step flag is read from R70 (assumption 14, DEDUCED), that the last manual position is kept at the leaving of MANUAL from R68
(assumption 34, DEDUCED), and that a page follows a group's zero frame, and that the prior state is none after a cycle or MANUAL, is
the model's choice (assumptions 46 and 50). -/
def Obligations.ArmsAnswerLoss : Prop :=
  (∀ (s : State) (loses : ArmId → Bool) (lose : ArmId → State → State) (x : Port),
    s.calm → x = s.ports.snd → x.state ≠ .off →
    (∀ a, loses a = true ↔ (s.arm a).inCycle = true ∨ (s.arm a).state = .manual ∨
      (s.arm a).state = .held ∧ (s.arm a).prior = some .manual) →
    (∀ a, loses a = true → (s.weighUnit a).isOpen = false ∧ (s.weighUnit a).quiet = false ∧ s.noneWaitsBut a.consumer) →
    (∀ a v, (s.arm a).inCycle = true → ∃ n r, (s.arm a).openRecord = some n ∧ s.log.openRecord n = some r ∧
      r.flags.tipped = false ∧ lose a v = v.cycleOver a n r .faulted .faulted .bodyPortOff) →
    (∀ a v, (s.arm a).inCycle = false →
      lose a v = ((v.setArm a { v.arm a with
        state := .faulted, fault := .bodyPortOff, manualGranted := false, prior := none,
        grantedHeld := false }).stopped a.consumer).granted a.consumer 0) →
    ∃ t due n acts, exec (.busOff .portB) s = .next t ∧
      acts.Perm (([ArmId.armA, .armB].filter loses).map lose) ∧
      State.AfterEach acts
        { s with
          ports := { s.ports with
            snd := { x with
              state := .off, queue := [], transmitter := none, recovery := .start 200,
              counters := { x.counters with
                busoffCount := min (x.counters.busoffCount + 1) 65535,
                txFlushed := min (x.counters.txFlushed +
                  (x.queue.length + if x.transmitter.isSome then 1 else 0)) 65535 } } },
          mgmt := { s.mgmt with resetDue := due }, freeCount := n } t ∧
      (due = true ↔ s.mgmt.resetDue = true ∨
        ∃ q : QFrame, q.ofReset = true ∧ (q ∈ x.queue ∨ x.transmitter = some (.fromQueue q)))) ∧
  ∀ (s : State) (a : ArmId) (x : Arm), s.calm → x = s.arm a → (s.weighUnit a).isOpen = false →
    (s.weighUnit a).quiet = false → s.noneWaitsBut a.consumer →
    (s.roleValue a.posRole = none →
      (x.inCycle = true → ∀ n r, x.openRecord = some n → s.log.openRecord n = some r → r.flags.tipped = false →
        s.positionEvent a = s.cycleOver a n r .faulted .faulted .positionLost) ∧
      (x.state = .manual ∨ x.state = .held ∧ x.prior = some .manual →
        s.positionEvent a = s.setArm a { x with lastManualPos := none }) ∧
      (x.state = .idle ∨ x.state = .faulted → s.positionEvent a = s)) ∧
    (s.given a.runGuard = false →
      (x.state = .running ∨ x.state = .waitSupply →
        s.guardChange a = ((s.setArm a (x.stoppedIn .suspended)).stopped a.consumer).granted a.consumer 0) ∧
      (x.state ≠ .running → x.state ≠ .waitSupply → s.guardChange a = s)) ∧
    (s.given a.runGuard = true →
      (x.state ≠ .suspended → s.guardChange a = s) ∧
      ∀ d, x.state = .suspended → s.currentStep a = some d → d.endKind = .position → s.termTrue d.endParam = false →
        s.fits a.consumer d.demand →
        s.guardChange a =
          ((s.setArm a { x with
            state := .running, stepTimer := { x.stepTimer with running := true }, keptEnd := false }).granted
              a.consumer d.demand).driven a.consumer d.functions (List.replicate 6 d.level) d.ramp) ∧
    ∀ u : State,
      u = ((s.setArm a { x with state := .idle, manualGranted := false, prior := none, grantedHeld := false }).stopped
        a.consumer).granted a.consumer 0 →
      (x.state = .manual → s.fullEvent a = u ∧ (s.given a.manualPermit = false → s.manualPermitChange a = u) ∧
        (s.given a.manualPermit = true → s.manualPermitChange a = s)) ∧
      (x.state ≠ .manual → s.fullEvent a = s ∧ s.manualPermitChange a = s)

/-- The close of a tipped record with decision ACCEPT or RELIFT, by an ABORT in PAUSED (R100, R131, R132, R142): the entry of its
tag gets one more lift and the record's time as last lift, SET or UNSET by the clock's flag; a tag without an entry is counted in
CLOSE_MISSED; during an update in flight the change waits. The feeding chamber's mass grows by n_div × d, up to 4294967295, and
its load state is judged. Shown with the arm's group STOPPED and nobody else waiting for flow. That the cycle's end clears the
single-step flag is read from R70 (assumption 14, DEDUCED), and that the prior state is none after it is the model's choice
(assumption 50). -/
def Obligations.TippedCloseReachesBinAndChamber : Prop :=
  ∀ (s : State) (a : ArmId) (n m : Nat) (r : LogRecord) (bins : BinUnit) (x : Chamber),
    s.calm → s.watch.isHeld = false → (s.arm a).state = .paused → (s.arm a).openRecord = some n →
    s.log.openRecord n = some r → r.flags.tipped = true → (r.decision = .accept ∨ r.decision = .relift) → r.nDiv = some m →
    (s.weighUnit a).quiet = false → s.noneWaitsBut a.consumer → (s.valve a.consumer).driving = false →
    (s.bins.update ≠ none ∧
        bins = { s.bins with
          waiting := s.bins.waiting.filter (fun w => w ≠ WaitingLookup.decision a) ++
            [.closeUpdate r.tag s.clock.count s.clock.isSet] } ∨
      s.bins.update = none ∧ (∃ e ∈ s.bins.entries, e.data.tag = r.tag) ∧
        bins = { s.bins with
          waiting := s.bins.waiting.filter (fun w => w ≠ WaitingLookup.decision a),
          entries := s.bins.entries.map (fun e : BinEntry =>
            if e.data.tag = r.tag then
              { e with
                liftCount := min (e.liftCount + 1) 65535, lastLift := if s.clock.isSet then .set else .unset,
                lastLiftTime := s.clock.count }
            else e) } ∨
      s.bins.update = none ∧ (∀ e ∈ s.bins.entries, e.data.tag ≠ r.tag) ∧
        bins = { s.bins with
          waiting := s.bins.waiting.filter (fun w => w ≠ WaitingLookup.decision a),
          closeMissed := min (s.bins.closeMissed + 1) 65535 }) →
    (let k := s.chamberSettings a.chamber
      let y := s.chamber a.chamber
      let mass := min (y.mass + m * s.cal.division) 4294967295
      x = { y with
        mass,
        load :=
          if k.fillFull ≤ y.fill ∨ k.massFull * 1000 ≤ mass then .full
          else if k.fillWarn ≤ y.fill ∨ k.massWarn * 1000 ≤ mass then .warn
          else .normal }) →
    ∃ t u, exec (.abortArm a) s = .next t ∧
      u = { s with
            log := { s.log with
              records := s.log.records.map (fun e : LogRecord =>
                if e.seq = n ∧ e.closed = false then s.closedAs .aborted r else e) },
            arms := s.arms.put a.second ((s.arm a).ended .idle (s.arm a).fault),
            weigh := s.weigh.put a.second (s.weighUnit a).ended,
            bins := { bins with requests := s.bins.requests.put a.second .empty },
            chambers := s.chambers.put a.chamber.second x } ∧
      (u.granted a.consumer 0).AfterPages t

/-- CONTINUE, and STEP at SERVICE level with no request in progress, for an arm in PAUSED with the guard given (R49, R50, R58, R69,
R70), shown at a POSITION step whose term is not TRUE and whose flow is granted at once: RUNNING in the same step, the step timer
running on with its remainder, the valve group driven as the step says. CONTINUE clears the single-step flag; STEP sets it and is
answered OK with value 0, whatever its size class: that a size class above 3 is refused RANGE (R69) from IDLE alone is the model's
reading (assumption 15, DEDUCED). That a page follows a frame of the same act is the model's choice (assumption 46). -/
def Obligations.ContinueAndStepResumeTheStep : Prop :=
  ∀ (s : State) (a : ArmId) (p : StepEntry) (u : Bool → State),
    s.watch.isHeld = false → (s.arm a).state = .paused → s.given a.runGuard = true →
    s.currentStep a = some p → p.endKind = .position → s.termTrue p.endParam = false → s.fits a.consumer p.demand →
    (∀ single, u single =
      ((s.setArm a { s.arm a with
          state := .running, singleStep := single, stepTimer := { (s.arm a).stepTimer with running := true },
          keptEnd := false }).granted a.consumer p.demand).driven a.consumer p.functions (List.replicate 6 p.level) p.ramp) →
    (s.calm → ∃ t, exec (.continueArm a) s = .next t ∧ (u false).AfterPages t) ∧
    ∀ q : Request, s.calm → s.mgmt.inProgress = none → s.mgmt.service = true →
      q.index = (match a with | .armA => 0 | .armB => 1) →
      ∃ t, exec (.stepArm q) s = .next t ∧ (u true).AfterReply (s.replyTo q 8 0 q.index 0) t

/-- MANUAL_ENTER in IDLE (R65, R66): without the permit NO_PERMIT, in a FULL chamber CHAMBER_FULL, and nothing else; otherwise
MANUAL with the present position kept, and, the flow being granted at once, the granted flag set and the lift functions driven
from JOY: JOY × Fa / Fb rounded, 0 when its amount is 30 or less, held to the manual maximum either way, above 0 the target of
LIFT_UP and below 0 that of LIFT_DOWN; without JOY both are 0. A JOY update in MANUAL with the granted flag sets those targets, and
without it none; stated of the block's own act. That a page follows the frame of a dropped function is the model's choice
(assumption 46). -/
def Obligations.ManualEnterTakesTheArm : Prop :=
  ∀ (s : State) (a : ArmId) (j : Int), s.calm →
    1 ≤ (s.armSettings a).fb →
    (s.roleValue a.joyRole = none ∧ j = 0 ∨
      ∃ v q : Int, s.roleValue a.joyRole = some v ∧ Rounds q (v * (s.armSettings a).fa) (s.armSettings a).fb ∧
        j = if |q| ≤ 30 then 0 else max (-((s.armSettings a).manualMax : Int)) (min (s.armSettings a).manualMax q)) →
    (s.watch.isHeld = false → (s.arm a).state = .idle →
      (s.given a.manualPermit = false → ∃ t, exec (.manualEnter a) s = .next t ∧
        (s.setArm a { s.arm a with refusal := .noPermit }).AfterPages t) ∧
      (s.given a.manualPermit = true → (s.chamber a.chamber).load = .full → ∃ t, exec (.manualEnter a) s = .next t ∧
        (s.setArm a { s.arm a with refusal := .chamberFull }).AfterPages t) ∧
      (s.given a.manualPermit = true → (s.chamber a.chamber).load ≠ .full →
        s.fits a.consumer (s.armSettings a).manualDemand →
        ∃ t, exec (.manualEnter a) s = .next t ∧
          (((s.setArm a { s.arm a with
              state := .manual, manualGranted := true, lastManualPos := s.roleValue a.posRole }).granted a.consumer
                (s.armSettings a).manualDemand).driven a.consumer 12 [0, 0, j.toNat, (-j).toNat, 0, 0]
                  (s.armSettings a).manualRamp).AfterPages t)) ∧
    ((s.arm a).state = .manual → (s.valve a.consumer).driving = true →
      ((s.arm a).manualGranted = true →
        s.joyEvent a = s.driven a.consumer 12 [0, 0, j.toNat, (-j).toNat, 0, 0] (s.armSettings a).manualRamp) ∧
      ((s.arm a).manualGranted = false → s.joyEvent a = s))

/-- A position reaching an arm in MANUAL (R68, R99, R123, R143, R145). When it crosses the tip threshold upward from the position
last kept, one tip is handed to the chamber and the Log writes a MANUAL_TIP record: with the arm's last tag when its age is at
most the tag window, which takes that tag away, and else with none; with household, tariff and size class of the tag's entry and
the unweighed fee of its tariff when that entry is ACTIVE; CLOSED and COMPLETED, with no weights, TIPPED, stamped and sealed. With
no record free it is counted in MANUAL_TIP_LOST. Any other position is kept and does nothing else. Shown with no update in flight.
That the chamber takes the tip after the record is written is the model's choice (assumption 3). -/
def Obligations.ManualTipIsRecorded : Prop :=
  ∀ (s : State) (a : ArmId) (v : Int), (s.arm a).state = .manual → s.roleValue a.posRole = some v → s.binsAscending →
    s.bins.update = none →
    ((∀ w, (s.arm a).lastManualPos = some w → (s.armSettings a).tipThreshold ≤ w ∨ v < (s.armSettings a).tipThreshold) →
      s.positionEvent a = s.setArm a { s.arm a with lastManualPos := some v }) ∧
    ∀ w : Int, (s.arm a).lastManualPos = some w → w < (s.armSettings a).tipThreshold → (s.armSettings a).tipThreshold ≤ v →
      ∀ (tag : Option Nat) (found : Option BinEntry) (last : Option TagRead),
        (tag = none ∧ last = (s.arm a).lastTag ∧
            (∀ k, (s.arm a).lastTag = some k → s.cfg.tagWindow < s.now - k.readAt) ∨
          (∃ k, (s.arm a).lastTag = some k ∧ s.now - k.readAt ≤ s.cfg.tagWindow ∧ tag = some k.tag) ∧ last = none) →
        (found = none ∧ (∀ e ∈ s.bins.entries, tag ≠ some e.data.tag) ∨
          ∃ e ∈ s.bins.entries, tag = some e.data.tag ∧ found = some e) →
        ∀ u : State,
          u = { s with
                arms := s.arms.put a.second { s.arm a with lastManualPos := some v, lastTag := last },
                agenda := s.agenda ++ [.tip a.chamber] } →
          (2048 ≤ s.log.records.length →
            s.positionEvent a =
              { u with log := { s.log with manualTipLost := min (s.log.manualTipLost + 1) 65535 } }) ∧
          (s.log.records.length < 2048 → ∀ r : LogRecord,
            r = { LogRecord.blank .manualTip a.second s.cal.counter s.cal.unlocked with
                  seq := s.log.nextSeq, closed := true, outcome := .completed, stream := a.chamber.number,
                  tag := tag.getD 0, household := (found.map (fun e => e.data.household)).getD 0,
                  tariff := (found.map (fun e => e.data.tariff)).getD 0,
                  sizeClass := (found.map (fun e => e.data.sizeClass)).getD 0,
                  flags := {
                    noGross := true, noTare := true, tipped := true, lockOpen := s.cal.unlocked,
                    timeUnset := !s.clock.isSet, posAbsent := s.place.isNone },
                  time := s.clock.count,
                  latitude := (s.place.map Prod.fst).getD 0, longitude := (s.place.map Prod.snd).getD 0,
                  charge := ((found.filter (fun e => e.data.status = .active)).map (fun e =>
                    (s.tariffs.getD (a.chamber.number * 16 + e.data.tariff) .cleared).unweighedFee)).getD 0 } →
            s.positionEvent a =
              { u with
                log := { s.log with
                  records := s.log.records ++ [{ r with check := r.crc }],
                  nextSeq := if s.log.nextSeq = 4294967295 then 1 else s.log.nextSeq + 1 } })

/-! ## Supply and valves -/

/-- Claims and the waiting list (R72 to R76). A claim first takes back what its consumer has: grant and waiting entry. A claim of
0 ends there; with nobody waiting and the demand within the capacity less the grants it is granted; otherwise it waits at the end
of the list. A grant given back, a head taken out and a rise of the capacity test the head: those at the front are granted in
order, each of them fitting within the capacity with the grants made so far, and the list stops at the first that does not fit;
anything else leaves the list as it stands. A lower capacity takes no grant away. -/
def Obligations.ClaimsAreServedInOrder : Prop :=
  (∀ (x : Arbiter) (c : Consumer),
    ∃ (front rest : List (Consumer × Nat)) (y : Arbiter),
      x.waiting.filter (fun e => decide (e.1 ≠ c)) = front ++ rest ∧
      y = { x with waiting := rest, grants := front.foldl (fun g e => g.put e.1 e.2) (x.grants.put c 0) } ∧
      (∀ l e r, front = l ++ e :: r → ∀ g : Quad Nat, g = l.foldl (fun g e => g.put e.1 e.2) (x.grants.put c 0) →
        g.q0 + g.q1 + g.q2 + g.q3 + e.2 ≤ x.capacity) ∧
      (0 < x.grants.at c ∨ (∃ d l, x.waiting = (c, d) :: l) →
        ∀ e l, rest = e :: l → x.capacity < y.grants.q0 + y.grants.q1 + y.grants.q2 + y.grants.q3 + e.2) ∧
      (x.grants.at c = 0 → (∀ d l, x.waiting ≠ (c, d) :: l) → front = []) ∧
      ∀ d : Nat, x.claim c d =
        if d = 0 then (y, front.map Prod.fst, true)
        else if rest = [] ∧ y.grants.q0 + y.grants.q1 + y.grants.q2 + y.grants.q3 + d ≤ x.capacity then
          ({ y with grants := y.grants.put c d }, front.map Prod.fst, true)
        else ({ y with waiting := rest ++ [(c, d)] }, front.map Prod.fst, false)) ∧
  ∀ (s : State) (n : Nat), s.calm →
    (n ≤ s.arbiter.capacity → s.putCapacity n = { s with arbiter := { s.arbiter with capacity := n } }) ∧
    (s.arbiter.capacity < n →
      ∃ (front rest : List (Consumer × Nat)) (y : Arbiter),
        s.arbiter.waiting = front ++ rest ∧
        y = { s.arbiter with
          capacity := n, waiting := rest, grants := front.foldl (fun g e => g.put e.1 e.2) s.arbiter.grants } ∧
        (∀ l e r, front = l ++ e :: r → ∀ g : Quad Nat, g = l.foldl (fun g e => g.put e.1 e.2) s.arbiter.grants →
          g.q0 + g.q1 + g.q2 + g.q3 + e.2 ≤ n) ∧
        (∀ e l, rest = e :: l → n < y.grants.q0 + y.grants.q1 + y.grants.q2 + y.grants.q3 + e.2) ∧
        s.putCapacity n =
          { s.flowChanged y with
            agenda := s.agenda ++ front.map (fun e =>
              match e.1 with
              | .armA => .armGrant .armA
              | .armB => .armGrant .armB
              | .packer0 => .chamberGrant .chamber0
              | .packer1 => .chamberGrant .chamber1) })

/-- The high-idle request (R77). Grants and waiting list becoming those of `x`: from OFF the first use goes ON, with the repeat
timer started and an ON frame in port C's slot; in ON the end of all use goes RUN_DOWN with the run-down timer started; in RUN_DOWN
new use goes back ON, the run-down timer stopped and no frame; else the state stands. The repeat timer, in ON or RUN_DOWN, offers an
ON frame and restarts; the run-down timer, in RUN_DOWN, offers an OFF frame, stops the repeat timer and goes OFF. Stopped timers and
the other states give nothing (assumption 2). -/
def Obligations.HighIdleFollowsTheFlow : Prop :=
  ∀ s : State,
    (∀ (x : Arbiter) (use : Bool), s.calm →
      (use = true ↔ 0 < x.grants.q0 ∨ 0 < x.grants.q1 ∨ 0 < x.grants.q2 ∨ 0 < x.grants.q3 ∨ x.waiting ≠ []) →
      (x.highIdle = .off → use = true →
        (s.setArbiter x).judgeHighIdle =
          { s with
            arbiter := { x with highIdle := .on, repeatTimer := .start 100 },
            ports := { s.ports with fst := s.ports.fst.offerSlot 0 { id := s.cfg.hidleId, data := [1] } } }) ∧
      (x.highIdle = .on → use = false →
        (s.setArbiter x).judgeHighIdle =
          { s with arbiter := { x with highIdle := .runDown, runDownTimer := .start 2000 } }) ∧
      (x.highIdle = .runDown → use = true →
        (s.setArbiter x).judgeHighIdle = { s with arbiter := { x with highIdle := .on, runDownTimer := .stopped } }) ∧
      (x.highIdle = .off ∧ use = false ∨ x.highIdle = .on ∧ use = true ∨ x.highIdle = .runDown ∧ use = false →
        (s.setArbiter x).judgeHighIdle = { s with arbiter := x })) ∧
    (s.calm → s.arbiter.highIdle ≠ .off → s.arbiter.repeatTimer.running = true →
      ∃ t, exec .repeatTimerExpiry s = .next t ∧
        ({ s with
            arbiter := { s.arbiter with repeatTimer := .start 100 },
            ports := { s.ports with
              fst := s.ports.fst.offerSlot 0 { id := s.cfg.hidleId, data := [1] } } } : State).AfterPages t) ∧
    (s.calm → s.arbiter.highIdle = .runDown → s.arbiter.runDownTimer.running = true →
      ∃ t, exec .runDownTimerExpiry s = .next t ∧
        ({ s with
            arbiter := { s.arbiter with highIdle := .off, repeatTimer := .stopped, runDownTimer := .stopped },
            ports := { s.ports with
              fst := s.ports.fst.offerSlot 0 { id := s.cfg.hidleId, data := [0] } } } : State).AfterPages t) ∧
    (s.settled → s.arbiter.highIdle = .off ∨ s.arbiter.repeatTimer.running = false →
      exec .repeatTimerExpiry s = .next s) ∧
    (s.settled → s.arbiter.highIdle ≠ .runDown ∨ s.arbiter.runDownTimer.running = false →
      exec .runDownTimerExpiry s = .next s)

/-- VALVE_TICK (R81 to R84, R110): group after group, each DRIVING one moves every level toward its target by at most its ramp and a
STOPPED one stands, and a group left with a level above 0 places its frame (`State.placed`: level bytes, alive counter, divider);
then an OPEN window of either arm is emptied and marked disturbed while a packer's group has a level above 0.
STILL_FRAME_INTERVAL (R82 to R85): a group with every level 0 whose last frame was placed 100 ms ago or longer places a frame in
its slot of port B with its identifier, six level bytes round(level / 4), the alive counter and the divider P held to 39 to 255; the
alive counter wraps from 15 to 0. A moving group, and one whose last frame is younger, has no interval that has run out
(assumption 2). That the lowest group places its frame first at a tick, and that a page follows the frames, is the model's choice
(assumptions 35 and 46). -/
def Obligations.ValveFramesArePlaced : Prop :=
  (∀ (s : State) (g : Consumer → ValveGroup) (w : ArmId → WeighUnit), s.calm →
    (∀ c, g c =
      let x := s.valve c
      { x with
        levels :=
          if x.driving = true then
            List.zipWith (fun target level => if level < target then min (level + x.ramp) target
              else max (level - x.ramp) target) x.targets x.levels
          else x.levels }) →
    (∀ a, w a =
      let u := s.weighUnit a
      if u.isOpen = true ∧ ((∃ l ∈ (g .packer0).levels, 0 < l) ∨ ∃ l ∈ (g .packer1).levels, 0 < l) then
        { u with window := [], disturbed := true, disturbCount := min (u.disturbCount + 1) 65535 }
      else u) →
    ∃ t u, exec .valveTick s = .next t ∧
      u = [Consumer.armA, .armB, .packer0, .packer1].foldl
            (fun (x : State) c => if ∃ l ∈ (g c).levels, 0 < l then x.placed c (g c) else x.setValve c (g c))
            { s with valveTimer := .start 20, weigh := { fst := w .armA, snd := w .armB } } ∧
      u.AfterPages t) ∧
  ∀ (s : State) (c : Consumer),
    (s.calm → (∀ l ∈ (s.valve c).levels, l = 0) → (s.valve c).levels.length = 6 → 100 ≤ (s.valve c).sinceFrame →
      ∃ t, exec (.stillFrameInterval c) s = .next t ∧
        ({ s with
            valves := s.valves.put c { s.valve c with alive := ((s.valve c).alive + 1) % 16, sinceFrame := 0 },
            ports := { s.ports with
              snd := s.ports.snd.offerSlot c.number
                { id := s.cfg.vcmdBase + BitVec.ofNat 29 c.number,
                  data := [0, 0, 0, 0, 0, 0, BitVec.ofNat 8 (s.valve c).alive,
                    BitVec.ofNat 8 (max 39 (min 255
                      ((2 * 48000 + s.cfg.dither.at c) / (2 * s.cfg.dither.at c) - 1)))] } } } : State).AfterPages t) ∧
    (s.settled → (∃ l ∈ (s.valve c).levels, 0 < l) ∨ (s.valve c).sinceFrame < 100 →
      exec (.stillFrameInterval c) s = .next s)

/-! ## Weighing -/

/-- A sample at an OPEN window, and the step's time limit at it (R102, R108, R109, R112, R113, R117, R118, R120). The sample joins
the latest W counts and restarts the gap timer. The window settles when it holds W counts that differ by at most the settling
band; at the time limit a window of W counts ends as well, marked UNSETTLED, and a shorter one ends with no value. An ended window
is emptied, the quiet request drops, the result goes to the unit and to the record, and the end to the arm. With a value the
result carries its grams (`WeightIsComputedInStages`), the tilt flag of its kind beyond the tilt limit and TILT_LOST without TILT,
and a gross OVERRANGE above Max × 1000 + 9 d. A tare with a value, a gross with one standing in the unit, gives the record its net
divisions and the flags of the net as well, and without either the record has no net. Which chamber takes the dropped quiet
request first is a free choice (assumption 6). -/
def Obligations.WindowSettlesOrTimesOut : Prop :=
  ∀ (s : State) (a : ArmId) (n : Nat) (u : WeighUnit) (tare : Bool) (ended : WeighUnit → Option Int → Bool → State → Prop),
    u = s.weighUnit a → u.state = (if tare = true then .collectTare else .collectGross) → u.isOpen = true → u.quiet = true →
    u.record = some n →
    (∀ v grams unsettled t, ended v grams unsettled t ↔
      ∃ (f : RecFlags) (net : Option (Nat × RecFlags)) (w : WeighUnit) (es : List Ev),
        f = { disturbed := v.disturbed,
              gUnsettled := grams.isSome && unsettled && !tare, tUnsettled := grams.isSome && unsettled && tare,
              tiltLost := grams.isSome && (s.roleValue .tilt).isNone,
              gTilt := grams.isSome && decide ((s.armCal a).tiltLimit < ((s.roleValue .tilt).getD 0).natAbs) && !tare,
              tTilt := grams.isSome && decide ((s.armCal a).tiltLimit < ((s.roleValue .tilt).getD 0).natAbs) && tare,
              overrange := grams.any (fun g : Int =>
                !tare && decide (((s.armCal a).capacityKg * 1000 + 9 * s.cal.division : Nat) < g)) } ∧
        (tare = true ∧ (∃ r g x, v.gross = some r ∧ r.grams = some g ∧ grams = some x ∧
            net = some (netOf (s.armCal a) s.cal.division g x r.flags.overrange)) ∨
          (tare = false ∨ grams = none ∨ ∀ r, v.gross = some r → r.grams = none) ∧ net = none) ∧
        w = { v with window := [], isOpen := false, gapTimer := .stopped, quiet := false } ∧
        (es = [.quietChanged .chamber0, .quietChanged .chamber1] ∨ es = [.quietChanged .chamber1, .quietChanged .chamber0]) ∧
        t = { s with
              weigh := s.weigh.put a.second
                (if tare = true then { w with state := .done, tare := some { grams, flags := f } }
                else { w with state := .grossDone, gross := some { grams, flags := f } }),
              log := { s.log with
                records := s.log.records.map (fun e : LogRecord =>
                  if e.seq = n ∧ e.closed = false then
                    if tare = true then
                      { e with
                        tare := grams, nDiv := net.map Prod.fst,
                        flags := (e.flags.join f).join ((net.map Prod.snd).getD {}) }
                    else { e with gross := grams, flags := e.flags.join f }
                  else e) },
              agenda := s.agenda ++ es ++ [.windowEnd a], freeCount := s.freeCount + 1 }) →
    (∀ (f : Frame) (w : List Int) (v : WeighUnit), s.cfg.lcOffset + 3 ≤ f.data.length →
      w = (u.window ++ [sampleOf s.cfg.lcOffset f]).drop (u.window.length + 1 - u.lengthInForce) →
      v = { u with
            live := some (sampleOf s.cfg.lcOffset f, s.now), window := w, gapTimer := { running := true, left := 100 } } →
      (w.length ≠ u.lengthInForce ∨ (∃ x ∈ w, ∃ y ∈ w, ((s.armCal a).settleBand : Int) < x - y) →
        s.sampleFrame a f = s.setWeighUnit a v) ∧
      (w.length = u.lengthInForce → (∀ x ∈ w, ∀ y ∈ w, x - y ≤ (s.armCal a).settleBand) →
        ended v (some (windowGrams (s.armCal a) s.cal.tiltFactors ((s.roleValue .tilt).getD 0) w u.lengthInForce)) false
          (s.sampleFrame a f))) ∧
    (u.window.length = u.lengthInForce →
      ended u (some (windowGrams (s.armCal a) s.cal.tiltFactors ((s.roleValue .tilt).getD 0) u.window u.lengthInForce)) true
        (s.weighTimeLimit a)) ∧
    (u.window.length < u.lengthInForce → ended u none true (s.weighTimeLimit a))

/-- GAP_TIMER_EXPIRY of an OPEN gross window (R111, R113, R120): the gap is counted, the window ends VOID with no value, the
record carries LOADCELL_LOST and no gross, the quiet request drops, and the weigh step ends. Shown in single-step operation, where
the arm then pauses at the next step (R70), with no chamber to act on the dropped request and nobody else waiting for flow. Which
chamber hears of the dropped request first is a free choice that shows in nothing here (assumption 6). That a page follows the
group's zero frame is the model's choice (assumption 46). -/
def Obligations.GapEndsTheWindowVoid : Prop :=
  ∀ (s : State) (a : ArmId) (n p : Nat) (g : ProgramEntry) (k d : StepEntry) (f : RecFlags),
    s.settled → (s.weighUnit a).state = .collectGross → (s.weighUnit a).isOpen = true → (s.weighUnit a).quiet = true →
    (s.weighUnit a).gapTimer.running = true → (s.weighUnit a).record = some n →
    (∀ c, (s.chamber c).state ≠ .quiet ∧ ((s.chamber c).state = .idle → (s.chamber c).pending = false)) →
    (∀ b, b ≠ a → (s.weighUnit b).quiet = false) →
    (s.arm a).state = .running → (s.arm a).singleStep = true → (s.arm a).refused = false →
    (s.arm a).position = some p → s.programOf a = some g → p < g.stepCount → s.currentStep a = some k →
    k.endKind = .weighGross → s.stepAt a (p + 1) = some d → s.noneWaitsBut a.consumer →
    f = { disturbed := (s.weighUnit a).disturbed, loadcellLost := true } →
    ∃ t u, exec (.gapTimerExpiry a) s = .next t ∧
      u = { s with
            weigh := s.weigh.put a.second
              { s.weighUnit a with
                state := .grossDone, window := [], isOpen := false, gapTimer := .stopped, quiet := false,
                gross := some { grams := none, flags := f },
                gapCount := min ((s.weighUnit a).gapCount + 1) 65535 },
            log := { s.log with
              records := s.log.records.map (fun e : LogRecord =>
                if e.seq = n ∧ e.closed = false then { e with gross := none, flags := e.flags.join f } else e) },
            arms := s.arms.put a.second
              { s.arm a with
                state := .paused, position := some (p + 1), loops := (s.arm a).loops.set (p - 1) 0,
                stepTimer := { running := false, left := d.timeLimit },
                durationTimer := { running := false, left := if d.endKind = EndKind.time then d.endParam else 0 },
                singleStep := false, keptEnd := false },
            freeCount := s.freeCount + 1 } ∧
      ((u.stopped a.consumer).granted a.consumer 0).AfterPages t

/-- The weight computation. Stages A to D (R115 to R117): the mean of the window, less the zero, times the tilt factor interpolated
between whole degrees up to 15, over 65536, times the gain, over 65536, each quotient rounded to the nearest with a half away from
zero. Stages E and F (R118): the net of a gross and a tare in divisions of `d` grams with its flags, never above the capacity in
divisions. -/
def Obligations.WeightIsComputedInStages : Prop :=
  (∀ (c : ArmCalibration) (m : List Nat) (tilt : Int) (window : List Int) (w : Nat), 1 ≤ w → m.length = 16 →
    ∃ mean part t : Int, ∃ tau : Nat, ∃ factor : Int,
      Rounds mean window.sum w ∧ tau = (if tilt.natAbs ≤ 1500 then tilt.natAbs else 1500) ∧
      (∀ x y : Nat, m[tau / 100]? = some x → m[tau / 100 + 1]? = some y →
        Rounds part (((y : Int) - x) * (tau % 100 : Nat)) 100 ∧ factor = x + part) ∧
      (∀ x : Nat, tau = 1500 → m[15]? = some x → factor = x) ∧
      Rounds t ((mean - c.zero) * factor) 65536 ∧
      Rounds (windowGrams c m tilt window w) (t * c.gain) 65536) ∧
  ∀ (c : ArmCalibration) (d : Nat) (gross tare : Int) (heavy : Bool) (n : Nat) (f : RecFlags),
    1 ≤ d → netOf c d gross tare heavy = (n, f) →
    (gross < tare → n = 0 ∧ f = { negative := true, belowMin := true }) ∧
    (tare ≤ gross →
      ∃ q : Nat, Rounds q (gross - tare) d ∧
        (c.capacityKg * 1000 / d < q ∨ heavy = true →
          n = c.capacityKg * 1000 / d ∧ f = { overrange := true, belowMin := decide (n < 20) }) ∧
        (q ≤ c.capacityKg * 1000 / d → heavy = false → n = q ∧ f = { belowMin := decide (n < 20) })) ∧
    n ≤ c.capacityKg * 1000 / d

/-! ## The bin decision -/

/-- The bin decision (Table 5-2, R92 to R97) of a request in WAIT_READ, with no update in flight, for an arm in cycle but not
RUNNING, which keeps the step's end. A tag read from port C, won by a CONSUME entry: by the tag's entry REFUSE_BLOCKED,
REFUSE_STREAM, RELIFT (a last lift SET, the clock set and no earlier, less than the relift window ago) or ACCEPT; without one
UNKNOWN or REFUSE_UNKNOWN by the policy. The record takes decision and tag, and the entry's household, tariff and stream with
SIZE_MISMATCH; the last tag and the request are used up, and a refusing decision marks the cycle refused. At the time limit,
without a tag: NO_TAG or REFUSE_NO_TAG by the policy, handed to the record and at once to the arm, before anything but an entry to
HELD, a lookup still waiting being dropped.
That a refusing decision reaches a cycle not RUNNING at once is read from R54 (assumption 21, DEDUCED); that the decision stands
before the other hand-overs of its act, and behind an entry to HELD, is the model's choice (assumptions 3 and 18). -/
def Obligations.BinDecisionTable : Prop :=
  ∀ (s : State) (a : ArmId) (n k : Nat) (q : DecisionRequest),
    q = s.bins.requests.at a.second → q.record = n → q.sizeClass = k → s.binsAscending →
    (∀ (f : Frame) (r : List Frame) (i tag : Nat) (e : RouteEntry) (found : Option BinEntry) (d : Decision),
      s.settled → s.bins.update = none → q.state = .waitRead →
      (s.arm a).inCycle = true → (s.arm a).state ≠ .running →
      s.ports.fst.fifo = f :: r → winner s.routes .portC f = some i → s.routes[i]? = some e → e.action = .consume →
      e.consumer = (match a with | .armA => .tagA | .armB => .tagB) → e.gate = 0 →
      s.cfg.tagOffset + 5 ≤ f.data.length → qualityOf s.cfg.tagOffset f ≠ 0 → tag = tagOf s.cfg.tagOffset f → tag ≠ 0 →
      ((∃ b ∈ s.bins.entries, b.data.tag = tag ∧ found = some b ∧
          (b.data.status = .blocked ∧ d = .refuseBlocked ∨
            b.data.status = .active ∧ b.data.stream ≠ a.chamber.number ∧ d = .refuseStream ∨
            b.data.status = .active ∧ b.data.stream = a.chamber.number ∧
              ((b.lastLift = .set ∧ s.clock.isSet = true ∧ b.lastLiftTime ≤ s.clock.count ∧
                  s.clock.count - b.lastLiftTime < s.cfg.reliftWindow * 60) ∧ d = .relift ∨
                (b.lastLift ≠ .set ∨ s.clock.isSet = false ∨ s.clock.count < b.lastLiftTime ∨
                  s.cfg.reliftWindow * 60 ≤ s.clock.count - b.lastLiftTime) ∧ d = .accept))) ∨
        (∀ b ∈ s.bins.entries, b.data.tag ≠ tag) ∧ found = none ∧
          (s.cfg.unknownPolicy = .continueCycle ∧ d = .unknown ∨ s.cfg.unknownPolicy = .refuse ∧ d = .refuseUnknown)) →
      exec (.frameTaken .portC) s = .next { s with
        ports := { s.ports with fst := { s.ports.fst with fifo := r } },
        routes := s.routes.set i { e with hits := min (e.hits + 1) 65535 },
        bins := { s.bins with
          tagValid := s.bins.tagValid.put a.second (min (s.bins.tagValid.at a.second + 1) 65535),
          requests := s.bins.requests.put a.second .empty },
        arms := s.arms.put a.second
          { s.arm a with
            lastTag := none, keptEnd := true,
            refused := (s.arm a).refused ||
              decide (d = .refuseBlocked ∨ d = .refuseStream ∨ d = .refuseUnknown ∨ d = .refuseNoTag) },
        log := { s.log with
          records := s.log.records.map (fun x : LogRecord =>
            if x.seq = n ∧ x.closed = false then
              { x with
                decision := d, tag,
                household := (found.map (fun b => b.data.household)).getD x.household,
                tariff := (found.map (fun b => b.data.tariff)).getD x.tariff,
                stream := (found.map (fun b => b.data.stream)).getD x.stream,
                flags := { x.flags with
                  sizeMismatch := x.flags.sizeMismatch || found.any (fun b => decide (b.data.sizeClass ≠ k)) } }
            else x) } }) ∧
    (q.state ≠ .none → ∀ d : Decision,
      (s.cfg.noTagPolicy = .continueCycle ∧ d = .noTag ∨ s.cfg.noTagPolicy = .refuse ∧ d = .refuseNoTag) →
      s.tagTimeLimit a = { s with
        log := { s.log with
          records := s.log.records.map (fun x : LogRecord =>
            if x.seq = n ∧ x.closed = false then { x with decision := d } else x) },
        bins := { s.bins with
          requests := s.bins.requests.put a.second .empty,
          waiting := s.bins.waiting.filter (fun w => decide (w ≠ .decision a)) },
        agenda := nextIn (.decision a (decide (d = .refuseNoTag))) s.agenda })

/-! ## Chambers -/

/-- PACK_NOW in IDLE (R122, R124, R125): without PACK_PERMIT the pending request is set and waits; with it, no quiet request
raised, the flow granted at once and the blade not yet at the sweep end, the stroke starts: SWEEP with its time limit, the group
driven as the settings give, tip counter and pending request cleared. That a page follows a frame of the same act is the model's
choice (assumption 46). -/
def Obligations.PackNowStartsTheStroke : Prop :=
  ∀ (s : State) (c : ChamberId) (b : Byte) (l : List Byte), s.calm → s.watch.isHeld = false → l.length ≤ 6 →
    b.toNat = c.number → (s.chamber c).state = .idle →
    (s.given c.packPermit = false → ∃ t, exec (.packNow (b :: l)) s = .next t ∧
      (s.setChamber c { s.chamber c with pending := true }).AfterPages t) ∧
    (s.given c.packPermit = true → (∀ a, (s.weighUnit a).quiet = false) →
      s.fits c.consumer (s.chamberSettings c).strokeDemand →
      (∀ v, s.roleValue c.bladeRole = some v → v < (s.chamberSettings c).sweepEnd) →
      ∃ t u, exec (.packNow (b :: l)) s = .next t ∧
        (s.setChamber c { s.chamber c with pending := true }).AfterPages u ∧
        (((u.setChamber c
            { s.chamber c with
              state := .sweep, phase := .sweep, phaseTimer := .start (s.chamberSettings c).sweepLimit,
              quietTimer := .stopped, quieted := false, grantFlag := true, pending := false, tipCounter := 0,
              entered := true }).granted c.consumer (s.chamberSettings c).strokeDemand).driven c.consumer
                (s.chamberSettings c).sweepFns (List.replicate 6 (s.chamberSettings c).sweepLevel)
                (s.chamberSettings c).ramp).AfterPages t)

/-- DISCHARGED judged in the order of R133: the first check that fails gives the refusal code, is counted in DISCH_REFUSED, and
changes nothing else. Accepted (R132, R134, R144, R145): a CLOSED DISCHARGE record is placed with the next number and the
chamber's values as they stood, and the chamber begins again from 0 with its load judged, shown for thresholds that do not make an
empty chamber FULL. That an empty chamber with a warn threshold of 0 is WARN, as R132 judges it, where R134 calls its load NORMAL,
is the model's choice (assumption 42). -/
def Obligations.DischargeIsJudgedInOrder : Prop :=
  ∀ (s : State) (c : ChamberId) (b : Byte) (l : List Byte),
    s.calm → s.watch.isHeld = false → l.length ≤ 6 → b.toNat = c.number →
    (∀ r : DischargeRefusal,
      ((s.chamber c).state ≠ .idle ∧ r = .notIdle ∨
        (s.chamber c).state = .idle ∧
          (s.given c.dischargePermit = false ∧ r = .noPermit ∨
            s.given c.dischargePermit = true ∧
              ((s.arm c.arm).inCycle = true ∧ r = .armInCycle ∨
                (s.arm c.arm).inCycle = false ∧ 2048 ≤ s.log.records.length ∧ r = .logFull))) →
      ∃ t, exec (.discharged (b :: l)) s = .next t ∧
        (s.setChamber c { s.chamber c with
          refusal := r, dischRefused := min ((s.chamber c).dischRefused + 1) 65535 }).AfterPages t) ∧
    ((s.chamber c).state = .idle → s.given c.dischargePermit = true → (s.arm c.arm).inCycle = false →
      s.log.records.length < 2048 → ¬ ((s.chamberSettings c).fillFull = 0 ∨ (s.chamberSettings c).massFull = 0) →
      ∃ t u r, exec (.discharged (b :: l)) s = .next t ∧
        u = { s with
              log := { s.log with
                records := s.log.records ++ [{ r with check := r.crc }],
                nextSeq := if s.log.nextSeq = 4294967295 then 1 else s.log.nextSeq + 1 },
              chambers := s.chambers.put c.second
                { s.chamber c with
                  mass := 0, fill := 0, tipCounter := 0, tipsSinceDischarge := 0, pending := false, refusal := .none,
                  load :=
                    if (s.chamberSettings c).fillWarn = 0 ∨ (s.chamberSettings c).massWarn = 0 then .warn else .normal } } ∧
        u.AfterPages t ∧
        r = { LogRecord.blank .discharge c.second s.cal.counter s.cal.unlocked with
              seq := s.log.nextSeq, closed := true, outcome := .completed,
              mass := (s.chamber c).mass, tips := (s.chamber c).tipsSinceDischarge, fill := (s.chamber c).fill,
              time := s.clock.count,
              latitude := (s.place.map Prod.fst).getD 0, longitude := (s.place.map Prod.snd).getD 0,
              flags := {
                lockOpen := s.cal.unlocked, timeUnset := !s.clock.isSet, posAbsent := s.place.isNone } })

/-- PHASE_TIMER_EXPIRY in SWEEP, PACK or RETURN with the timer running (R127): FAULTED with STROKE_TIMEOUT, counted, the stroke
phase NONE, flags and pending request cleared, the group stopped and the claim given back, shown with nobody else waiting for flow.
QUIET_TIMER_EXPIRY in QUIET with the timer running (R125, R128): the stroke resumes its phase whatever the quiet requests are, the
phase timer running on with its remainder and the group driven as the settings give, shown with BLADE and PRESS unavailable, so that
the phase does not end at once. In every other state, or with its timer stopped, either changes nothing (assumption 2). FAULT_CLEAR
for a chamber in FAULTED (R127), shown without PACK_PERMIT: IDLE with fault code NONE, the pending request set again when the tip
counter is at or above the threshold. In every other state it is counted in CMD_IGNORED; a chamber command that names no chamber is
counted in CHB_CMD_BAD (R122). That a page follows a frame of the same act is the model's choice (assumption 46). -/
def Obligations.StrokeTimersExpire : Prop :=
  ∀ (s : State) (c : ChamberId) (x : Chamber), x = s.chamber c →
    (s.calm → (x.state = .sweep ∨ x.state = .pack ∨ x.state = .ret) → x.phaseTimer.running = true →
      s.noneWaitsBut c.consumer →
      ∃ t, exec (.phaseTimerExpiry c) s = .next t ∧
        (((s.setChamber c
            { x with
              state := .faulted, phase := .none, phaseTimer := .stopped, quietTimer := .stopped, quieted := false,
              grantFlag := false, operatorFlag := false, pending := false, grantedHeld := false, entered := false,
              fault := .strokeTimeout, strokeFaults := min (x.strokeFaults + 1) 65535 }).stopped
                c.consumer).granted c.consumer 0).AfterPages t) ∧
    (s.settled → (x.state ≠ .sweep ∧ x.state ≠ .pack ∧ x.state ≠ .ret) ∨ x.phaseTimer.running = false →
      exec (.phaseTimerExpiry c) s = .next s) ∧
    (∀ st : ChamberState,
      (x.phase = .sweep ∧ st = .sweep ∨ x.phase = .pack ∧ st = .pack ∨ x.phase = .ret ∧ st = .ret) →
      s.calm → x.state = .quiet → x.quietTimer.running = true → x.quieted = true → x.entered = true →
      s.roleValue c.bladeRole = none → s.roleValue c.pressRole = none →
      ∃ t, exec (.quietTimerExpiry c) s = .next t ∧
        (s.stroking c
          { x with state := st, phaseTimer := { x.phaseTimer with running := true }, quietTimer := .stopped }).AfterPages t) ∧
    (s.settled → x.state ≠ .quiet ∨ x.quietTimer.running = false → exec (.quietTimerExpiry c) s = .next s) ∧
    (s.settled → s.watch.isHeld = false → ∀ i ∈ [Instr.packNow [], .discharged [], .chamberFaultClear []],
      exec i s = .next { s with chbCmdBad := min (s.chbCmdBad + 1) 65535 }) ∧
    ∀ (b : Byte) (l : List Byte), s.watch.isHeld = false → l.length ≤ 6 →
      (s.calm → b.toNat = c.number → x.state = .faulted → (s.valve c.consumer).driving = false →
        s.given c.packPermit = false →
        ∃ t, exec (.chamberFaultClear (b :: l)) s = .next t ∧
          (s.setChamber c { x with
            state := .idle, fault := .none,
            pending := x.pending || decide ((s.chamberSettings c).autoPack ≤ x.tipCounter) }).AfterPages t) ∧
      (s.settled → b.toNat = c.number → x.state ≠ .faulted →
        exec (.chamberFaultClear (b :: l)) s =
          .next (s.setChamber c { x with cmdIgnored := min (x.cmdIgnored + 1) 65535 })) ∧
      (s.settled → 2 ≤ b.toNat → ∀ i ∈ [Instr.packNow (b :: l), .discharged (b :: l), .chamberFaultClear (b :: l)],
        exec i s = .next { s with chbCmdBad := min (s.chbCmdBad + 1) 65535 })

/-- The end of a stroke phase, tested at an update or change of BLADE or PRESS (R126, R132): SWEEP at the sweep end goes to PACK;
PACK at the packing pressure goes to RETURN, the fill being taken from BLADE when it is available and the load judged, a chamber
become FULL being handed to its arm at once; PACK within the end band without that pressure goes to RETURN with the fill as it
was; each phase so entered starts its time limit and drives the group as the settings give, and is tested at once in its turn
(R125). RETURN within the home band ends the stroke: IDLE, its flags clear, the claim given back with nobody else waiting, and a
new stroke is tried (R124). A role that is unavailable satisfies no condition, and without an end condition nothing happens. The
test of the phase entered is handed on before the FULL chamber is handed to its arm: that order is the model's choice (assumption
3). -/
def Obligations.StrokePhasesEnd : Prop :=
  ∀ (s : State) (c : ChamberId) (x : Chamber) (k : ChamberSettings) (swept pressed near home : Prop) (enter : Chamber → Chamber),
    s.calm → x = s.chamber c → k = s.chamberSettings c →
    (swept ↔ ∃ b, s.roleValue c.bladeRole = some b ∧ (k.sweepEnd : Int) ≤ b) →
    (pressed ↔ ∃ p, s.roleValue c.pressRole = some p ∧ (k.packPressure : Int) ≤ p) →
    (near ↔ ∃ b, s.roleValue c.bladeRole = some b ∧ 1000 - (k.endBand : Int) ≤ b) →
    (home ↔ ∃ b, s.roleValue c.bladeRole = some b ∧ b ≤ (k.homeBand : Int)) →
    (∀ y, enter y = { y with
      state := .ret, phase := .ret, phaseTimer := .start k.returnLimit, quietTimer := .stopped, entered := true }) →
    (x.state = .sweep → swept →
      s.phaseRole c =
        { s.stroking c { x with
            state := .pack, phase := .pack, phaseTimer := .start k.packLimit, quietTimer := .stopped, entered := true } with
          agenda := [.phaseTest c] }) ∧
    (x.state = .pack → pressed → ∀ (fill : Nat) (load : LoadState),
      (s.roleValue c.bladeRole = none ∧ fill = x.fill ∧ load = x.load ∨
        (∃ b, s.roleValue c.bladeRole = some b ∧ (fill : Int) = max 0 (min 1000 (1000 - b))) ∧
          load =
            if k.fillFull ≤ fill ∨ k.massFull * 1000 ≤ x.mass then .full
            else if k.fillWarn ≤ fill ∨ k.massWarn * 1000 ≤ x.mass then .warn
            else .normal) →
      s.phaseRole c =
        { s.stroking c (enter { x with fill, load }) with
          agenda := .phaseTest c :: if load = .full ∧ x.load ≠ .full then [.chamberFull c.arm] else [] }) ∧
    (x.state = .pack → ¬ pressed → near → s.phaseRole c = { s.stroking c (enter x) with agenda := [.phaseTest c] }) ∧
    (x.state = .ret → home → s.noneWaitsBut c.consumer →
      s.phaseRole c =
        { ((s.setChamber c { x with
            state := .idle, phase := .none, phaseTimer := .stopped, grantFlag := false, quieted := false,
            entered := false }).stopped c.consumer).granted c.consumer 0 with agenda := [.strokeTest c] }) ∧
    ((x.state = .sweep → ¬ swept) → (x.state = .pack → ¬ pressed ∧ ¬ near) → (x.state = .ret → ¬ home) →
      s.phaseRole c = s)

/-- What stops a stroke and starts it again. A quiet request (R128): a chamber in a phase, not yet quieted, goes to QUIET with its
phase timer stopped at its remainder, the quiet timer started and its group stopped; the end of all quiet requests resumes the
phase. The loss of PACK_PERMIT (R129): from a phase or QUIET to SUSPENDED, the phase timer keeping its remainder; from WAIT_SUPPLY
to SUSPENDED with the place in the waiting list given up; its return resumes the phase with the flow still granted, or claims it
again, but for a stroke that waits for the operator. A tip (R123) is counted and at the auto-pack threshold sets the pending
request. Each is stated of the block's own act: a phase so resumed is tested in its turn (R125). Anything else leaves everything
as it is. -/
def Obligations.StrokesGiveWay : Prop :=
  ∀ (s : State) (c : ChamberId) (x : Chamber) (k : ChamberSettings) (phases : Prop),
    s.calm → x = s.chamber c → k = s.chamberSettings c → (phases ↔ x.state = .sweep ∨ x.state = .pack ∨ x.state = .ret) →
    (∀ y : State,
      y = (s.setChamber c { x with
        state := .quiet, quieted := true, phaseTimer := { x.phaseTimer with running := false },
        quietTimer := .start k.quietLimit }).stopped c.consumer →
      (∃ a, (s.weighUnit a).quiet = true) →
      (phases → x.quieted = false → s.quietEvent c = y) ∧ (¬ phases ∨ x.quieted = true → s.quietEvent c = s)) ∧
    (∀ st : ChamberState,
      (x.phase = .sweep ∧ st = .sweep ∨ x.phase = .pack ∧ st = .pack ∨ x.phase = .ret ∧ st = .ret) → x.entered = true →
      ∀ y : Chamber, y = { x with
          state := st, phaseTimer := { x.phaseTimer with running := true }, quietTimer := .stopped } →
      ((∀ a, (s.weighUnit a).quiet = false) → x.state = .quiet →
        s.quietEvent c = { s.stroking c y with agenda := [.phaseTest c] }) ∧
      (s.given c.packPermit = true → x.state = .suspended → x.operatorFlag = false →
        (x.grantFlag = true → s.packPermitChange c = { s.stroking c y with agenda := [.phaseTest c] }) ∧
        (x.grantFlag = false → s.fits c.consumer k.strokeDemand →
          s.packPermitChange c =
            { (s.granted c.consumer k.strokeDemand).stroking c { y with grantFlag := true } with
              agenda := [.phaseTest c] }))) ∧
    ((∀ a, (s.weighUnit a).quiet = false) → x.state ≠ .quiet → (x.state = .idle → x.pending = false) → s.quietEvent c = s) ∧
    (s.given c.packPermit = false →
      (phases ∨ x.state = .quiet →
        s.packPermitChange c =
          (s.setChamber c { x with
            state := .suspended, phaseTimer := { x.phaseTimer with running := false },
            quietTimer := .stopped }).stopped c.consumer) ∧
      (x.state = .waitSupply → s.noneWaitsBut c.consumer →
        s.packPermitChange c =
          ((s.setChamber c { x with state := .suspended, grantFlag := false }).stopped c.consumer).granted c.consumer 0) ∧
      (x.state = .idle ∨ x.state = .suspended ∨ x.state = .held ∨ x.state = .faulted → s.packPermitChange c = s)) ∧
    (s.given c.packPermit = true →
      (x.state = .idle → x.pending = false) → (x.state = .suspended → x.operatorFlag = true) → s.packPermitChange c = s) ∧
    ∀ y : Chamber, y = { x with
        tipCounter := min (x.tipCounter + 1) 65535, tipsSinceDischarge := min (x.tipsSinceDischarge + 1) 65535 } →
      (y.tipCounter < k.autoPack → s.takeTip c = s.setChamber c y) ∧
      (k.autoPack ≤ y.tipCounter →
        s.takeTip c = { s.setChamber c { y with pending := true } with agenda := [.strokeTest c] })

/-! ## Charges -/

/-- The charge of a LIFT record (R119, R137): the rows of the table, with the sum of fee part and weight part rounded to a
multiple of 10, a last digit of 5 to 9 upward. -/
def Obligations.ChargeTable : Prop :=
  ∀ (t : TariffEntry) (d : Nat) (r : LogRecord) (billable : Bool),
    (billable = true ↔
      r.flags.gUnsettled = false ∧ r.flags.tUnsettled = false ∧ r.flags.gTilt = false ∧ r.flags.tTilt = false ∧
      r.flags.tiltLost = false ∧ r.flags.overrange = false ∧ r.flags.belowMin = false ∧ r.flags.negative = false ∧
      r.flags.noGross = false ∧ r.flags.noTare = false ∧ r.flags.lockOpen = false) →
    (r.flags.tipped = false → liftCharge t d r = 0) ∧
    (r.decision ≠ .accept → r.decision ≠ .relift → liftCharge t d r = 0) ∧
    (r.flags.tipped = true → billable = false →
      (r.decision = .accept → liftCharge t d r = t.unweighedFee) ∧ (r.decision = .relift → liftCharge t d r = 0)) ∧
    (r.flags.tipped = true → billable = true → ∀ n fee : Nat, r.nDiv = some n →
      (r.decision = .accept ∧ fee = t.liftFee ∨ r.decision = .relift ∧ fee = 0) →
      ∃ sum, sum = fee + (n * d * t.rate + 500) / 1000 ∧ liftCharge t d r % 10 = 0 ∧
        liftCharge t d r ≤ sum + 5 ∧ sum < liftCharge t d r + 5)

/-! ## Status pages and the Bin Table's update -/

/-- Status pages (R167), with port B not OFF and its queue not full. PERIOD_TIMER_EXPIRY sends the page as it stands;
SPACING_TIMER_EXPIRY sends it when its change mark is set and otherwise only stops. A page whose contents differ from what was last
noted of it is sent when its spacing timer is stopped, and marked while it runs. A send restarts both timers, clears the mark and
joins port B's queue at class 2. A stopped timer has nothing to expire (assumption 2). That a change is seen against the contents
last noted, after each hand-over, is the model's choice (assumption 9). -/
def Obligations.PageTimersSendThePage : Prop :=
  ∀ (s : State) (p : Nat) (x : PageTimers) (u : State), p < 4 → s.mgmt.pages[p]? = some x →
    u = { s with
          ports := { s.ports with
            snd := Port.choose { s.ports.snd with
              queue := joinQueue
                { frame := { id := s.cfg.statBase + BitVec.ofNat 29 p, data := s.pageBytes p }, cls := 2,
                  origin := .status, ofReset := false } s.ports.snd.queue } },
          mgmt := { s.mgmt with
            pages := s.mgmt.pages.set p { period := .start 500, spacing := .start 50, mark := false },
            noted := s.allPages } } →
    (s.settled → s.ports.snd.state ≠ .off → s.ports.snd.queue.length < 48 →
      (x.period.running = true → exec (.periodTimerExpiry p) s = .next u) ∧
      (x.spacing.running = true → x.mark = true → exec (.spacingTimerExpiry p) s = .next u)) ∧
    (s.settled → x.spacing.running = true → x.mark = false →
      exec (.spacingTimerExpiry p) s =
        .next { s with mgmt := { s.mgmt with pages := s.mgmt.pages.set p { x with spacing := .stopped } } }) ∧
    (s.settled → x.period.running = false → exec (.periodTimerExpiry p) s = .next s) ∧
    (s.settled → x.spacing.running = false → exec (.spacingTimerExpiry p) s = .next s) ∧
    (s.calm → s.mgmt.noted.length = 4 → s.mgmt.noted[p]? ≠ some (s.pageBytes p) →
      (∀ q < 4, q ≠ p → s.mgmt.noted[q]? = some (s.pageBytes q)) →
      (x.spacing.running = true →
        s.finish = { s with mgmt := { s.mgmt with pages := s.mgmt.pages.set p { x with mark := true }, noted := s.allPages } }) ∧
      (x.spacing.running = false → s.ports.snd.state ≠ .off → s.ports.snd.queue.length < 48 → s.finish = u))

/-- INSERT and REMOVE (R88, R89). Accepted, the change is put in flight to complete within 50 ms (the time is a free value,
assumption 7) and the request stays in progress unanswered; the table itself stands. At BIN_UPDATE_COMPLETE the change is entered
(an INSERT over the entry of its tag, whose lift count and last lift stand, or as a new entry with count 0 and marker ABSENT; a
REMOVE takes the entry of its tag out), every other entry standing, and the request is answered OK: shown on an ascending table
with no lookup waiting. Without an update in flight nothing happens (assumption 2). -/
def Obligations.BinChangesGoInFlightAndComplete : Prop :=
  ∀ s : State,
    (∀ q : Request, s.settled → s.mgmt.inProgress = none →
      (s.bins.staging.tag ≠ 0 → s.bins.staging.household ≠ 0 →
        ((∃ e ∈ s.bins.entries, e.data.tag = s.bins.staging.tag) ∨ s.bins.entries.length < 4096) →
        ∃ ms ≤ 50, exec (.insertBin q) s = .next { s with
          freeCount := s.freeCount + 1,
          bins := { s.bins with update := some (.insert s.bins.staging), updateTimer := .start ms },
          mgmt := { s.mgmt with inProgress := some (.insert, q) } }) ∧
      ((∃ e ∈ s.bins.entries, e.data.tag = q.value.toNat) →
        ∃ ms ≤ 50, exec (.removeBin q) s = .next { s with
          freeCount := s.freeCount + 1,
          bins := { s.bins with update := some (.remove q.value.toNat), updateTimer := .start ms },
          mgmt := { s.mgmt with inProgress := some (.remove, q) } })) ∧
    (∀ (ch : BinChange) (op : MgmtOp) (q : Request) (code : Nat),
      s.settled → s.binsAscending → s.bins.update = some ch → s.bins.waiting = [] →
      s.mgmt.inProgress = some (op, q) → (op = .insert ∧ code = 4 ∨ op = .remove ∧ code = 5) →
      ∃ t l, exec .binUpdateComplete s = .next t ∧
        ({ s with
            bins := { s.bins with entries := l, update := none, updateTimer := .stopped },
            mgmt := { s.mgmt with inProgress := none } }.offerQueue .portB (s.replyTo q code 0 q.index 0)).AfterPages t ∧
        (∀ tag, ch = .remove tag → ∀ e, e ∈ l ↔ e ∈ s.bins.entries ∧ e.data.tag ≠ tag) ∧
        (∀ d, ch = .insert d →
          (∀ e, e.data.tag ≠ d.tag → (e ∈ l ↔ e ∈ s.bins.entries)) ∧
          (∀ e ∈ s.bins.entries, e.data.tag = d.tag → { e with data := d } ∈ l) ∧
          ((∀ e ∈ s.bins.entries, e.data.tag ≠ d.tag) →
            { data := d, liftCount := 0, lastLift := .absent, lastLiftTime := 0 } ∈ l))) ∧
    (s.settled → s.bins.update = none → exec .binUpdateComplete s = .next s)

/-! ## Management -/

/-- FRAME_TAKEN on port B in the management range, requester node 0 to 15 (R13, R160, R161). A malformed request, shorter than 8
bytes or with no operation code in byte 0, is answered RANGE at once, in progress or not, its bytes echoed with 0 for those absent
(how byte 0 is echoed is read from the reply's fields, assumption 26, DEDUCED). A well-formed one does what the command of its
code does, with table and word, index and value of its bytes; a WATCH_CONTINUE with a value above 1 and a PORT with a value above
2 or an index above 1 are answered RANGE at SERVICE level. A request taken while another is in progress is answered BUSY and
changes nothing else: with the word as it stands for an EXAMINE or DEPOSIT of a word there is, with 0 for a STEP (assumption 15,
DEDUCED), else with a free value (assumption 5), the index of the request echoed, that of an IDENTIFY too (assumption 40). Neither
answer disturbs the request in progress. -/
def Obligations.RequestFramesReachManagement : Prop :=
  (∀ (s : State) (f : Frame) (r : List Frame) (n : Nat) (q : Request) (u : State),
    s.ports.snd.fifo = f :: r → n < 16 → f.id.toNat = s.cfg.mreqBase.toNat + n →
    q = { node := BitVec.ofNat 4 n, tableWord := f.byte 1, index := f.byte 2 ++ f.byte 3,
          value := f.byte 4 ++ f.byte 5 ++ f.byte 6 ++ f.byte 7 } →
    u = s.setPort .portB { s.ports.snd with fifo := r } →
    (s.calm → f.data.length < 8 ∨ f.byte 0 = 0 ∨ 13 < (f.byte 0).toNat →
      ∃ t, exec (.frameTaken .portB) s = .next t ∧
        (u.offerQueue .portB
          { frame :=
              { id := s.cfg.mrepBase + BitVec.ofNat 29 n,
                data := BitVec.ofNat 8 (96 + (f.byte 0).toNat % 16) :: (List.range 7).map (fun k => f.byte (k + 1)) },
            cls := 1, origin := .reply, ofReset := false }).AfterPages t) ∧
    (8 ≤ f.data.length → ∀ c : Instr,
      ((f.byte 0).toNat, c) ∈ [(1, Instr.identify q), (2, .examine q), (3, .deposit q), (4, .insertBin q), (5, .removeBin q),
          (6, .release q), (7, .day q), (8, .stepArm q), (10, .lock q), (11, .reset q), (12, .clear q)] ∨
        ((f.byte 0).toNat, q.value, c) ∈ [(9, 0, Instr.watchContinueDiscard q), (9, 1, .watchContinueProcess q),
          (13, 0, .portClear q), (13, 1, .portSet q), (13, 2, .portRestart q)] →
      exec (.frameTaken .portB) s = exec c u) ∧
    (8 ≤ f.data.length → s.settled → s.mgmt.inProgress = none → s.mgmt.service = true → ∀ code : Nat,
      (f.byte 0).toNat = code → (code = 9 ∧ 1 < q.value.toNat ∨ code = 13 ∧ (2 < q.value.toNat ∨ 1 < q.index.toNat)) →
      ∃ t v, exec (.frameTaken .portB) s = .next t ∧
        ({ u with freeCount := s.freeCount + 1 }.offerQueue .portB (s.replyTo q code 6 q.index v)).AfterPages t)) ∧
  ∀ (s : State) (q : Request) (code : Nat) (c : Instr), s.calm → s.mgmt.inProgress ≠ none → c.wellFormed = true →
    (code, c) ∈ [(1, Instr.identify q), (2, .examine q), (3, .deposit q), (4, .insertBin q), (5, .removeBin q), (6, .release q),
      (7, .day q), (8, .stepArm q), (9, .watchContinueDiscard q), (9, .watchContinueProcess q), (10, .lock q), (11, .reset q),
      (12, .clear q), (13, .portClear q), (13, .portSet q), (13, .portRestart q)] →
    (∀ w, code = 8 ∧ w = 0 ∨ (code = 2 ∨ code = 3) ∧ s.readWord q.table q.index.toNat q.word = some w →
      ∃ t, exec c s = .next t ∧ (s.offerQueue .portB (s.replyTo q code 2 q.index w)).AfterPages t) ∧
    (code ≠ 8 → ((code = 2 ∨ code = 3) → s.readWord q.table q.index.toNat q.word = none) →
      ∃ t v, exec c s = .next t ∧
        ({ s with freeCount := s.freeCount + 1 }.offerQueue .portB (s.replyTo q code 2 q.index v)).AfterPages t)

/-- IDENTIFY and EXAMINE (R146, R147, R161, R163). IDENTIFY: index 0 to 14 is answered with the table's number, entries and words
and the next index, 0x00FF after 14; above 14 NO_SUCH with all ones, the index echoed (assumption 40). EXAMINE: a word the layout
names is answered OK with its value, and reading word 11 of a CLOSED record at the read pointer moves the pointer on by one; any
other word is answered NO_SUCH with all ones and changes nothing. -/
def Obligations.IdentifyAndExamine : Prop :=
  ∀ (s : State) (q : Request), s.settled → s.mgmt.inProgress = none →
    (∀ n w : Nat, tableSizes[q.index.toNat]? = some (n, w) →
      ∃ t, exec (.identify q) s = .next t ∧
        (s.offerQueue .portB (s.replyTo q 1 0 (if q.index = 14 then 255 else q.index + 1)
          (BitVec.ofNat 32 (q.index.toNat * 2 ^ 24 + n * 2 ^ 8 + w)))).AfterPages t) ∧
    (15 ≤ q.index.toNat →
      ∃ t, exec (.identify q) s = .next t ∧
        (s.offerQueue .portB (s.replyTo q 1 3 q.index 0xFFFFFFFF)).AfterPages t) ∧
    (∀ w : Word, s.readWord q.table q.index.toNat q.word = some w →
      ∃ t pointer, exec (.examine q) s = .next t ∧
        ({ s with log := { s.log with pointer } }.offerQueue .portB (s.replyTo q 2 0 q.index w)).AfterPages t ∧
        ((∃ r, s.log.records[s.log.pointer]? = some r ∧ r.closed = true) ∧ q.table = 11 ∧ q.index = 0xFFFF ∧ q.word = 11 →
          pointer = s.log.pointer + 1) ∧
        ((∀ r, s.log.records[s.log.pointer]? = some r → r.closed = false) ∨ q.table ≠ 11 ∨ q.index ≠ 0xFFFF ∨
            q.word ≠ 11 →
          pointer = s.log.pointer)) ∧
    (s.readWord q.table q.index.toNat q.word = none →
      ∃ t, exec (.examine q) s = .next t ∧
        (s.offerQueue .portB (s.replyTo q 2 3 q.index 0xFFFFFFFF)).AfterPages t)

/-- DEPOSIT judged in the order of R161. A table above 14 is NO_SUCH with all ones; a word that takes no deposit RANGE; without
the table's level LEVEL (SERVICE, METROLOGY for Calibration, none for Bin staging: R162); a configured word of a VALID or armed
entry, and the VALID word cleared of a step or program in use, LIVE (R14, R27, R32, R35, R40, R42, R153): each leaves every word
as it was and is answered with the word as it stands. Accepted words, and no others, take the value and are answered OK with it,
or held to their range and answered OK_CLAMPED: shown at the Log reserve (held to 0 to 64), a step's level (0 to 1000), an arm's
gain and capacity (RANGE outside theirs), the staging entry's household, the VALID word of a route entry, the ARMED word of a
watch entry that does not watch own frames, and the Tariff Table, where an index above 31 or a word above 2 is NO_SUCH and a value
above 65535 RANGE. That LIVE comes before RANGE is the model's choice (assumption 36), and that a clamped word is read as signed
(assumption 13). Shown with no armed entry that watches own frames. That a VALID or ARMED word takes no value above 1 is read from
section 10.3 (assumption 12, DEDUCED), and that Calibration index 4 is LEVEL while LOCKED and RANGE while UNLOCKED from the order
of R161 (assumption 32, DEDUCED). -/
def Obligations.DepositsAreJudged : Prop :=
  ∀ (s : State) (q : Request) (i : Nat) (answered : State → Nat → Word → Prop) (fixed live : Prop),
    s.agenda = [] → s.mgmt.noted = s.allPages → (∀ e ∈ s.watch.entries, e.armed = true → e.source ≠ .own) →
    s.mgmt.inProgress = none → i = q.index.toNat →
    (∀ u code w, answered u code w ↔
      ∃ t, exec (.deposit q) s = .next t ∧ (u.offerQueue .portB (s.replyTo q 3 code q.index w)).AfterPages t) →
    (fixed ↔ q.table = 11 ∨ q.table = 13 ∨ q.table = 14 ∨ q.table = 1 ∧ (q.word = 8 ∨ q.word = 9) ∨
      q.table = 2 ∧ (q.word = 13 ∨ q.word = 14 ∨ q.word = 15) ∨ q.table = 3 ∧ q.word = 6 ∨ q.table = 4 ∧ q.word = 8 ∨
      q.table = 12 ∧ q.word = 5) →
    (live ↔
      q.table = 1 ∧ (∃ e, s.routes[i]? = some e ∧ e.valid = true) ∧ 1 ≤ q.word ∧ q.word ≤ 7 ∨
      q.table = 2 ∧ (∃ e, s.signals[i]? = some e ∧ e.valid = true) ∧ 1 ≤ q.word ∧ q.word ≤ 12 ∨
      q.table = 3 ∧ (∃ e, s.terms[i]? = some e ∧ e.valid = true) ∧ 1 ≤ q.word ∧ q.word ≤ 5 ∨
      q.table = 4 ∧ 1 ≤ i ∧ i ≤ 32 ∧ (∃ e, s.groups[i - 1]? = some e ∧ e.valid = true) ∧ 1 ≤ q.word ∧ q.word ≤ 7 ∨
      q.table = 5 ∧ (∃ e, s.steps[i]? = some e ∧ e.valid = true) ∧ 1 ≤ q.word ∧ q.word ≤ 10 ∨
      q.table = 6 ∧ (∃ e, s.programs[i]? = some e ∧ e.valid = true) ∧ 1 ≤ q.word ∧ q.word ≤ 3 ∨
      q.table = 12 ∧ (∃ e, s.watch.entries[i]? = some e ∧ e.armed = true) ∧ 1 ≤ q.word ∧ q.word ≤ 4 ∨
      q.table = 5 ∧ (∃ a g, (s.arm a).inCycle = true ∧ s.programOf a = some g ∧ g.firstStep ≤ i ∧
        i < g.firstStep + g.stepCount) ∧ q.word = 0 ∧ q.value = 0 ∨
      q.table = 6 ∧ (∃ a, (s.arm a).inCycle = true ∧ (s.arm a).program = some i) ∧ q.word = 0 ∧ q.value = 0) →
    (15 ≤ q.table → answered s 3 0xFFFFFFFF) ∧
    (∀ w : Word, s.readWord q.table i q.word = some w →
      (fixed → answered s 6 w) ∧
      (¬ fixed → q.table ≤ 14 → (q.table = 9 ∧ s.cal.unlocked = false ∨ q.table ≠ 8 ∧ q.table ≠ 9 ∧ s.mgmt.service = false) →
        answered s 4 w) ∧
      (live → s.mgmt.service = true → answered s 5 w) ∧
      (q.table = 9 → s.cal.unlocked = true → i = 4 → answered s 6 w)) ∧
    (q.table = 0 → i = 13 → q.word = 0 → s.mgmt.service = true → ∀ x : Nat,
      (x : Int) = max 0 (min 64 q.value.toInt) →
      answered { s with cfg := { s.cfg with reserve := x } } (if q.value.toInt = x then 0 else 1) (BitVec.ofNat 32 x)) ∧
    (q.table = 5 → q.word = 2 → s.mgmt.service = true → ∀ (e : StepEntry) (x : Nat),
      s.steps[i]? = some e → e.valid = false → (x : Int) = max 0 (min 1000 q.value.toInt) →
      answered { s with steps := s.steps.set i { e with level := x } } (if q.value.toInt = x then 0 else 1)
        (BitVec.ofNat 32 x)) ∧
    (q.table = 9 → s.cal.unlocked = true → ∀ a : ArmId, i = (match a with | .armA => 0 | .armB => 1) →
      ∀ put : ArmCalibration → State, (∀ c, put c = { s with cal := { s.cal with arms := s.cal.arms.put a.second c } }) →
      (q.word = 1 →
        (1 ≤ q.value.toNat ∧ q.value.toNat ≤ 131071 → answered (put { s.armCal a with gain := q.value.toNat }) 0 q.value) ∧
        (q.value = 0 ∨ 131071 < q.value.toNat → answered s 6 (BitVec.ofNat 32 (s.armCal a).gain))) ∧
      (q.word = 2 →
        (1 ≤ q.value.toNat ∧ q.value.toNat ≤ 10 * s.cal.division →
          answered (put { s.armCal a with capacityKg := q.value.toNat }) 0 q.value) ∧
        (q.value = 0 ∨ 10 * s.cal.division < q.value.toNat →
          answered s 6 (BitVec.ofNat 32 (s.armCal a).capacityKg)))) ∧
    (q.table = 8 → i = 0xFFFF → q.word = 1 →
      (1 ≤ q.value.toNat ∧ q.value.toNat ≤ 16777215 →
        answered { s with bins := { s.bins with staging := { s.bins.staging with household := q.value.toNat } } } 0 q.value) ∧
      (q.value = 0 ∨ 16777215 < q.value.toNat → answered s 6 (BitVec.ofNat 32 s.bins.staging.household))) ∧
    (q.table = 1 → q.word = 0 → s.mgmt.service = true → ∀ e, s.routes[i]? = some e →
      (q.value.toNat ≤ 1 → answered { s with routes := s.routes.set i { e with valid := decide (q.value = 1) } } 0 q.value) ∧
      (2 ≤ q.value.toNat → answered s 6 (if e.valid = true then 1 else 0))) ∧
    (q.table = 12 → q.word = 0 → s.mgmt.service = true → ∀ e, s.watch.entries[i]? = some e →
      (q.value.toNat ≤ 1 → e.source ≠ .own →
        answered (s.setWatch { s.watch with entries := s.watch.entries.set i { e with armed := decide (q.value = 1) } }) 0
          q.value) ∧
      (2 ≤ q.value.toNat → answered s 6 (if e.armed = true then 1 else 0))) ∧
    (q.table = 10 → s.mgmt.service = true →
      (∀ f : TariffEntry, s.tariffs[i]? = some f → q.word ≤ 2 →
        (65535 < q.value.toNat → answered s 6 (BitVec.ofNat 32
          (if q.word = 0 then f.rate else if q.word = 1 then f.liftFee else f.unweighedFee))) ∧
        (q.value.toNat ≤ 65535 →
          answered { s with
              tariffs := s.tariffs.set i
                (if q.word = 0 then { f with rate := q.value.toNat }
                  else if q.word = 1 then { f with liftFee := q.value.toNat }
                  else { f with unweighedFee := q.value.toNat }) } 0 q.value)) ∧
      (s.tariffs.length ≤ i ∨ 3 ≤ q.word → answered s 3 0xFFFFFFFF))

/-- RELEASE (R147, R148): the longest run of records from the oldest end that are CLOSED and covered by `n` leaves the Log, the
records behind keep their order, the read pointer stays on its record or goes to the new oldest, and the answer carries the
number of the last record freed or 0. A number `m` of 1 to 4294967295 is covered by `n` when it is one of the 2147483648
numbers that end at `n` in the counter's order; 0 covers nothing. -/
def Obligations.ReleaseFreesTheCoveredRecords : Prop :=
  ∀ (s : State) (q : Request) (freed kept : List LogRecord) (cov : Nat → Prop),
    s.calm → s.mgmt.inProgress = none →
    (∀ m, cov m ↔ q.value ≠ 0 ∧
      ∃ k : Nat, k ≤ 2147483647 ∧ ((q.value.toNat : Int) - 1 - k) % 4294967295 + 1 = m) →
    (∀ r ∈ s.log.records, 1 ≤ r.seq ∧ r.seq ≤ 4294967295) →
    s.log.records = freed ++ kept → (∀ r ∈ freed, r.closed = true ∧ cov r.seq) →
    (∀ r l, kept = r :: l → ¬ (r.closed = true ∧ cov r.seq)) →
    ∃ t, exec (.release q) s = .next t ∧
      ({ s with
          log := { s.log with records := kept, pointer := s.log.pointer - freed.length } } : State).AfterReply
        (s.replyTo q 6 0 q.index (BitVec.ofNat 32 ((freed.getLast?.map LogRecord.seq).getD 0))) t

/-- DAY, LOCK and RESET (R91, R104, R164). DAY sets every lift count to 0 and every last-lift marker ABSENT, the entries, their
order and their other words standing, and is answered OK; LOCK, with the lock UNLOCKED, makes it LOCKED, parameters and counter
standing; LOCK with the lock LOCKED changes nothing and is answered LEVEL, with a free value (assumption 5). RESET at SERVICE
level is answered OK with a reply whose leaving brings the warm reset, and is kept as the request in progress; nothing else
changes. A due warm reset is the next command of an idle block (assumption 1). -/
def Obligations.DayLockAndReset : Prop :=
  ∀ (s : State) (q : Request),
    (s.mgmt.inProgress = none →
      (s.settled → s.bins.update = none → ∃ t, exec (.day q) s = .next t ∧
        ({ s with
            bins := { s.bins with
              entries := s.bins.entries.map (fun e : BinEntry =>
                { data := e.data, liftCount := 0, lastLift := .absent, lastLiftTime := 0 }) } }.offerQueue .portB
          (s.replyTo q 7 0 q.index 0)).AfterPages t) ∧
      (s.calm → s.cal.unlocked = true → ∃ t, exec (.lock q) s = .next t ∧
        ({ s with cal := { s.cal with unlocked := false } } : State).AfterReply (s.replyTo q 10 0 q.index 0) t) ∧
      (s.settled → s.cal.unlocked = false → ∃ t v, exec (.lock q) s = .next t ∧
        ({ s with freeCount := s.freeCount + 1 }.offerQueue .portB (s.replyTo q 10 4 q.index v)).AfterPages t) ∧
      (s.calm → s.mgmt.service = true →
        ∃ t, exec (.reset q) s = .next t ∧
          ({ s with mgmt := { s.mgmt with inProgress := some (.reset, q) } }.offerQueue .portB
            { s.replyTo q 11 0 q.index 0 with ofReset := true }).AfterPages t)) ∧
    (s.pending = [] → s.mgmt.resetDue = true → step s = .next { s with pending := [.warmReset] })

/-- CLEAR (R14, R21, R32, R35, R40, R42, R90, R136, R152, R163). At SERVICE level the Route, Signal, Term, Group, Step, Program,
Select, Bin, Tariff or Watch Table has every entry cleared, under the conditions of its chapter, everything else standing, and is
answered OK. The terms on a cleared signal, and the groups on a cleared term, are evaluated: shown where no reader is bound; that
all entries change as one event is the model's choice (assumption 41). The Step and Program Tables with an arm in cycle and the
Watch Table while HELD are answered LIVE, the Bin Table with an update in flight BUSY, a table that takes no CLEAR RANGE, and any
table without SERVICE level LEVEL, each with a free value (assumption 5), and nothing is cleared. -/
def Obligations.ClearEmptiesTheTable : Prop :=
  ∀ (s u : State) (q : Request), s.settled → s.mgmt.inProgress = none →
    (s.mgmt.service = true →
      (q.table = 1 ∧ u = { s with
          routes := s.routes.map (fun _ =>
            { valid := false, source := .portC, matchId := 0, mask := 0, action := .forward, consumer := .signals, gate := 0,
              cls := 0, hits := 0, blocked := 0 }) } ∨
        q.table = 2 ∧ s.unread ∧ u = { s with signals := s.signals.map (fun _ => .cleared) }.evaluateOn
          (List.range s.signals.length) ∨
        q.table = 3 ∧ s.unread ∧ u = { s with terms := s.terms.map (fun _ => .cleared) }.evaluateGroupsOn (fun _ => true) ∨
        q.table = 4 ∧ s.unread ∧ u = { s with groups := s.groups.map (fun _ => .cleared) } ∨
        q.table = 5 ∧ (∀ a, (s.arm a).inCycle = false) ∧ u = { s with steps := s.steps.map (fun _ => .cleared) } ∨
        q.table = 6 ∧ (∀ a, (s.arm a).inCycle = false) ∧ u = { s with programs := s.programs.map (fun _ => .cleared) } ∨
        q.table = 7 ∧ u = { s with select := s.select.map (fun _ => none) } ∨
        q.table = 8 ∧ s.bins.update = none ∧ u = { s with bins := { s.bins with entries := [] } } ∨
        q.table = 10 ∧ u = { s with
          tariffs := s.tariffs.map (fun _ => { rate := 0, liftFee := 0, unweighedFee := 0 }) } ∨
        q.table = 12 ∧ s.watch.isHeld = false ∧ u = { s with
          watch := { s.watch with entries := s.watch.entries.map (fun _ => .cleared) } }) →
      ∃ t, exec (.clear q) s = .next t ∧ (u.offerQueue .portB (s.replyTo q 12 0 q.index 0)).AfterPages t) ∧
    ∀ code : Nat,
      (s.mgmt.service = true ∧ (q.table = 5 ∨ q.table = 6) ∧ (∃ a, (s.arm a).inCycle = true) ∧ code = 5 ∨
        s.mgmt.service = true ∧ q.table = 12 ∧ s.watch.isHeld = true ∧ code = 5 ∨
        s.mgmt.service = true ∧ q.table = 8 ∧ s.bins.update ≠ none ∧ code = 2 ∨
        (q.table = 0 ∨ q.table = 9 ∨ q.table = 11 ∨ q.table = 13 ∨ q.table = 14) ∧ code = 6 ∨
        s.mgmt.service = false ∧ (1 ≤ q.table ∧ q.table ≤ 8 ∨ q.table = 10 ∨ q.table = 12) ∧ code = 4) →
      ∃ t v, exec (.clear q) s = .next t ∧
        ({ s with freeCount := s.freeCount + 1 }.offerQueue .portB (s.replyTo q 12 code q.index v)).AfterPages t

/-- PORT at SERVICE level for port C or B (R5, R11, R165): value 0 clears the forward enable and, if it was set, takes every
FORWARDED frame out of the queue and counts it; value 1 sets it; value 2 restarts the port as `PortStatesChange` says, in
any port state; each is answered OK. -/
def Obligations.PortRequestActsOnThePort : Prop :=
  ∀ (s : State) (q : Request) (p : PortId) (x : Port), s.calm → s.mgmt.inProgress = none → s.mgmt.service = true →
    q.index = (match p with | .portC => 0 | .portB => 1) → x = s.port p →
    (q.value = 0 → ∃ t, exec (.portClear q) s = .next t ∧
      (s.setPort p (if x.forwardEnable = true then
          { x with
            forwardEnable := false, queue := x.queue.filter (fun e => decide (e.origin ≠ .forwarded)),
            counters := { x.counters with
              fwdRemoved := min (x.counters.fwdRemoved +
                (x.queue.filter (fun e => decide (e.origin = .forwarded))).length) 65535 } }
          else x)).AfterReply (s.replyTo q 13 0 q.index 0) t) ∧
    (q.value = 1 → ∃ t, exec (.portSet q) s = .next t ∧
      (s.setPort p { x with forwardEnable := true }).AfterReply (s.replyTo q 13 0 q.index 0) t) ∧
    (q.value = 2 → ∃ t due, exec (.portRestart q) s = .next t ∧
      ({ s.setPort p (Port.choose { x with
          state := .active, fifo := [], queue := [], transmitter := none, recovery := .stopped,
          counters := { x.counters with
            rxFlushed := min (x.counters.rxFlushed + x.fifo.length) 65535,
            txFlushed := min (x.counters.txFlushed +
              (x.queue.length + if x.transmitter.isSome then 1 else 0)) 65535 } }) with
        mgmt := { s.mgmt with resetDue := due } } : State).AfterReply (s.replyTo q 13 0 q.index 0) t ∧
      (due = true ↔ s.mgmt.resetDue = true ∨
        ∃ e : QFrame, e.ofReset = true ∧ (e ∈ x.queue ∨ x.transmitter = some (.fromQueue e))))

/-! ## Frame Watch -/

/-- A frame at Frame Watch (R154, R155, Table 10-6), received at a port or the controller's own and going to one. Each armed entry
whose stream and masked identifier fit counts a hit. Without a MIRROR among them nothing else changes, but that a hold match while
HELD is ignored and counted; while FREE the lowest hold match decides. A MIRROR match alone offers its report to port B at class
3: a head frame with report count, length, origin and port bits, identifier with the entry's number, and bytes 0 and 1; and a body
frame of bytes 2 to 7 when the frame has more than two; the report count moves on, 255 to 0. That bytes 6 and 7 of the head are 0
where the frame has fewer than two data bytes is the model's choice (assumption 48). -/
def Obligations.WatchTestsEveryFrame : Prop :=
  ∀ (s : State) (received : Option PortId) (p : PortId) (f : Frame) (hit : WatchEntry → Prop) (entries : List WatchEntry),
    (∀ e, hit e ↔ e.armed = true ∧ f.id &&& e.mask = e.id &&& e.mask ∧
      (received = none ∧ e.source = .own ∨ received = some .portC ∧ (e.source = .portC ∨ e.source = .any) ∨
        received = some .portB ∧ (e.source = .portB ∨ e.source = .any))) →
    entries.length = s.watch.entries.length →
    (∀ (i : Nat) (e : WatchEntry), s.watch.entries[i]? = some e →
      (hit e → entries[i]? = some { e with hits := min (e.hits + 1) 65535 }) ∧ (¬ hit e → entries[i]? = some e)) →
    ((∀ e ∈ s.watch.entries, ¬ hit e) → s.watchTest received p f = (s, none)) ∧
    (∀ (i : Nat) (e : WatchEntry), (∀ d ∈ s.watch.entries, hit d → d.kind ≠ .mirror) → s.watch.entries[i]? = some e → hit e →
      (∀ j < i, ∀ d, s.watch.entries[j]? = some d → ¬ hit d) →
      (s.watch.isHeld = false →
        s.watchTest received p f =
          (s.setWatch { s.watch with entries }, some (i, decide (e.kind = .holdBefore)))) ∧
      (s.watch.isHeld = true →
        s.watchTest received p f =
          (s.setWatch { s.watch with entries, holdIgnored := min (s.watch.holdIgnored + 1) 65535 }, none))) ∧
    (∀ (i : Nat) (e : WatchEntry), s.watch.entries[i]? = some e → hit e → e.kind = .mirror →
      (∀ (j : Nat) (d : WatchEntry), j ≠ i → s.watch.entries[j]? = some d → ¬ hit d) →
      ∀ (head body : QFrame) (u : State),
        head =
          { frame :=
              { id := s.cfg.wmirId,
                data := [BitVec.ofNat 8 s.watch.reportCount,
                  BitVec.ofNat 8 (f.data.length % 16 + (if received = none then 16 else 0) + (if p = .portB then 32 else 0)),
                  BitVec.ofNat 8 ((f.id.toNat + i * 2 ^ 29) / 2 ^ 24), BitVec.ofNat 8 (f.id.toNat / 2 ^ 16),
                  BitVec.ofNat 8 (f.id.toNat / 2 ^ 8), BitVec.ofNat 8 f.id.toNat, f.byte 0, f.byte 1] },
            cls := 3, origin := .mirror, ofReset := false } →
        body =
          { frame :=
              { id := s.cfg.wmirId,
                data := [BitVec.ofNat 8 s.watch.reportCount, f.byte 2, f.byte 3, f.byte 4, f.byte 5, f.byte 6, f.byte 7] },
            cls := 3, origin := .mirror, ofReset := false } →
        u = (s.setWatch { s.watch with entries, reportCount := (s.watch.reportCount + 1) % 256 }).offerQueue .portB head →
        (f.data.length ≤ 2 → s.watchTest received p f = (u, none)) ∧
        (2 < f.data.length → s.watchTest received p f = (u.offerQueue .portB body, none)))

/-- Entering HELD (R63, R108, R130, R155, R156), by a frame of port C that the only armed entry matches: the entry counts its hit,
is disarmed and becomes the hold entry; HOLD_BEFORE keeps the frame in the register, HOLD_AFTER lets it be handled first (shown at
a frame that is missed and dropped). An arm in RUNNING, WAIT_SUPPLY, SUSPENDED or MANUAL and a chamber in WAIT_SUPPLY, a phase,
QUIET or SUSPENDED goes HELD with the state it leaves, its timers stopped with their remainders, its claim standing and its group
stopped; an OPEN window stalls, its quiet request dropped. Which of the four blocks takes the hold first, and so which zero frame
is placed first, is a free choice (assumption 6), and pages may be sent between them. Shown where no chamber acts on a dropped
quiet request: whether a chamber takes that before its hold or after is a free choice too. While HELD an operator command never
reaches its consumer: it is counted in HELD_DROPPED and changes nothing else; that a command given directly is counted like its
frame is the model's choice (assumption 8). That a page follows the zero frame of its act is the model's choice (assumption 46). -/
def Obligations.HoldStopsTheBlocks : Prop :=
  ∀ s : State,
    (∀ (a : ArmId) (args : List Byte), s.settled → s.watch.isHeld = true → args.length ≤ 7 →
      ∀ c ∈ [Instr.start a args, .pauseArm a, .continueArm a, .abortArm a, .manualEnter a, .manualExit a, .faultClear a,
             .packNow args, .discharged args, .chamberFaultClear args],
        exec c s = .next (s.setWatch { s.watch with heldDropped := min (s.watch.heldDropped + 1) 65535 })) ∧
    ∀ (f : Frame) (r : List Frame) (i : Nat) (e : WatchEntry) (miss : Nat) (register : Option HeldFrame) (arm : Arm → Arm)
      (chamber : Chamber → Chamber) (unit : WeighUnit → WeighUnit) (holdArm : ArmId → State → State)
      (holdChamber : ChamberId → State → State),
      s.agenda = [] → s.mgmt.noted = s.allPages → s.groupsFollowOwners → s.watch.isHeld = false →
      s.ports.fst.fifo = f :: r → s.watch.entries[i]? = some e → e.armed = true → (e.source = .portC ∨ e.source = .any) →
      f.id &&& e.mask = e.id &&& e.mask →
      (∀ (j : Nat) (d : WatchEntry), j ≠ i → s.watch.entries[j]? = some d → d.armed = false) →
      (e.kind = .holdBefore ∧ miss = s.ports.fst.counters.miss ∧ register = some (.received .portC f) ∨
        e.kind = .holdAfter ∧ winner s.routes .portC f = none ∧ s.cfg.miss.fst = .drop ∧
          miss = min (s.ports.fst.counters.miss + 1) 65535 ∧ register = s.watch.register) →
      (∀ a, (s.weighUnit a).isOpen = true → (s.weighUnit a).quiet = true) →
      ((∀ a, (s.weighUnit a).quiet = false) ∨
        ∀ c, (s.chamber c).state = .faulted ∨ (s.chamber c).state = .idle ∧ (s.chamber c).pending = false) →
      (∀ x, arm x =
        if x.state = .running ∨ x.state = .waitSupply ∨ x.state = .suspended ∨ x.state = .manual then
          { x.stoppedIn .held with prior := some x.state }
        else x) →
      (∀ x, chamber x =
        if x.state = .idle ∨ x.state = .held ∨ x.state = .faulted then x
        else { x with
          state := .held, prior := some x.state, phaseTimer := { x.phaseTimer with running := false },
          quietTimer := { x.quietTimer with running := false } }) →
      (∀ x, unit x =
        if x.isOpen = true then { x with window := [], isOpen := false, gapTimer := .stopped, quiet := false } else x) →
      (∀ a v, holdArm a v = (v.setArm a (arm (v.arm a))).stopped a.consumer) →
      (∀ c v, holdChamber c v = (v.setChamber c (chamber (v.chamber c))).stopped c.consumer) →
      ∃ t k acts, exec (.frameTaken .portC) s = .next t ∧
        acts.Perm [holdArm .armA, holdArm .armB, holdChamber .chamber0, holdChamber .chamber1] ∧
        State.AfterEach acts
          { s with
            ports := { s.ports with fst := { s.ports.fst with
              fifo := r, counters := { s.ports.fst.counters with miss } } },
            watch := { s.watch with
              entries := s.watch.entries.set i { e with hits := min (e.hits + 1) 65535, armed := false },
              isHeld := true, holdEntry := some i, register },
            weigh := { fst := unit s.weigh.fst, snd := unit s.weigh.snd },
            freeCount := k } t

/-- The end of a hold (R64, R130, R158). WATCH_CONTINUE at SERVICE level, the register empty, for one HELD arm: from RUNNING with
the guard given it runs on (shown at a POSITION step whose term is not TRUE), from RUNNING or WAIT_SUPPLY without the guard it is
SUSPENDED with its claim given back, from MANUAL without the permit or with the chamber FULL it goes IDLE with its claim given
back; for one HELD chamber: from a phase with PACK_PERMIT and no quiet request the phase runs on (shown with BLADE and PRESS
unavailable), without it the stroke is SUSPENDED. Shown for one HELD block: which of several takes the end first is a free choice
(assumption 6). The loss of SERVICE level disarms every entry, ends a hold with its frame discarded and counted, and tells the
four blocks, of which a HELD arm goes to PAUSED with the single-step flag clear, or from MANUAL to IDLE, and a HELD chamber to
SUSPENDED awaiting the operator, each with its claim given back. Shown with nobody else waiting for flow. That the hold entry
becomes none at the loss of SERVICE level is read from R157 (assumption 43, DEDUCED), that the last manual position is kept at the
end of MANUAL from R68 (assumption 34, DEDUCED); that the prior state is none once the hold is over, and that a page follows a frame
of the same act, is the model's choice (assumptions 50 and 46). -/
def Obligations.HoldEndFreesTheBlocks : Prop :=
  ∀ s : State,
    (∀ (q : Request) (a : ArmId) (k : Arm) (c : Instr),
      s.settled → s.watch.isHeld = true → s.watch.register = none → s.mgmt.inProgress = none → s.mgmt.service = true →
      (c = .watchContinueProcess q ∧ q.value = 1 ∨ c = .watchContinueDiscard q ∧ q.value = 0) →
      (∀ x, (s.chamber x).state ≠ .held ∧ (s.chamber x).pending = false) → (∀ b, b ≠ a → (s.arm b).state ≠ .held) →
      (s.arm a).state = .held → k = { s.arm a with prior := none, grantedHeld := false } →
      ∀ u : State, u = s.setWatch { s.watch with isHeld := false, holdEntry := none } →
      ((s.arm a).prior = some .running → s.given a.runGuard = true →
        ∀ p : StepEntry, s.currentStep a = some p → p.endKind = .position → s.termTrue p.endParam = false →
        ∃ t, exec c s = .next t ∧
          ((u.setArm a { k with
              state := .running, stepTimer := { k.stepTimer with running := true }, keptEnd := false }).driven a.consumer
                p.functions (List.replicate 6 p.level) p.ramp).AfterReply (s.replyTo q 9 0 q.index 1) t) ∧
      ((s.arm a).prior = some .running ∨ (s.arm a).prior = some .waitSupply → s.given a.runGuard = false →
        s.noneWaitsBut a.consumer → (s.valve a.consumer).driving = false →
        ∃ t, exec c s = .next t ∧
          ((u.setArm a (k.stoppedIn .suspended)).granted a.consumer 0).AfterReply (s.replyTo q 9 0 q.index 1) t) ∧
      ((s.arm a).prior = some .manual → s.given a.manualPermit = false ∨ (s.chamber a.chamber).load = .full →
        s.noneWaitsBut a.consumer → (s.valve a.consumer).driving = false →
        ∃ t, exec c s = .next t ∧
          ((u.setArm a { k with state := .idle, manualGranted := false }).granted a.consumer 0).AfterReply
            (s.replyTo q 9 0 q.index 1) t)) ∧
    (∀ (q : Request) (c : ChamberId) (k : Chamber) (i : Instr) (fns : FnSet) (level : Nat) (st : ChamberState),
      s.settled → s.watch.isHeld = true → s.watch.register = none → s.mgmt.inProgress = none → s.mgmt.service = true →
      (i = .watchContinueProcess q ∧ q.value = 1 ∨ i = .watchContinueDiscard q ∧ q.value = 0) →
      (∀ a, (s.arm a).state ≠ .held) → (∀ d, d ≠ c → (s.chamber d).state ≠ .held ∧ (s.chamber d).pending = false) →
      (s.chamber c).state = .held → k = { s.chamber c with prior := none, grantedHeld := false } →
      (s.chamber c).prior = some st →
      (st = .sweep ∧ (s.chamber c).phase = .sweep ∧ fns = (s.chamberSettings c).sweepFns ∧
          level = (s.chamberSettings c).sweepLevel ∨
        st = .pack ∧ (s.chamber c).phase = .pack ∧ fns = (s.chamberSettings c).packFns ∧
          level = (s.chamberSettings c).packLevel ∨
        st = .ret ∧ (s.chamber c).phase = .ret ∧ fns = (s.chamberSettings c).returnFns ∧
          level = (s.chamberSettings c).returnLevel) →
      ∀ u : State, u = s.setWatch { s.watch with isHeld := false, holdEntry := none } →
      (s.given c.packPermit = true → (∀ a, (s.weighUnit a).quiet = false) → (s.chamber c).entered = true →
        s.roleValue c.bladeRole = none → s.roleValue c.pressRole = none →
        ∃ t, exec i s = .next t ∧
          ((u.setChamber c { k with
              state := st, phaseTimer := { k.phaseTimer with running := true }, quietTimer := .stopped }).driven c.consumer
                fns (List.replicate 6 level) (s.chamberSettings c).ramp).AfterReply (s.replyTo q 9 0 q.index 1) t) ∧
      (s.given c.packPermit = false → (s.valve c.consumer).driving = false →
        ∃ t, exec i s = .next t ∧
          (u.setChamber c { k with
            state := .suspended, phaseTimer := { k.phaseTimer with running := false },
            quietTimer := .stopped }).AfterReply (s.replyTo q 9 0 q.index 1) t)) ∧
    (s.mgmt.service = true → s.serviceHolds = false → ∀ w : Watch,
      w = { s.watch with
        entries := s.watch.entries.map (fun e : WatchEntry => { e with armed := false }), isHeld := false, holdEntry := none,
        register := none } →
      (s.watch.isHeld = true → ∃ (es : List Ev) (k : Nat),
        es.Perm [.armServiceEnd .armA, .armServiceEnd .armB, .chamberServiceEnd .chamber0, .chamberServiceEnd .chamber1] ∧
        s.judgeService = { s with
          mgmt := { s.mgmt with service := false },
          watch := { w with
            heldDiscarded :=
              if s.watch.register = none then s.watch.heldDiscarded else min (s.watch.heldDiscarded + 1) 65535 },
          agenda := s.agenda ++ es, freeCount := k }) ∧
      (s.watch.isHeld = false →
        s.judgeService = { s with
          mgmt := { s.mgmt with service := false },
          watch := { w with
            isHeld := s.watch.isHeld, holdEntry := s.watch.holdEntry, register := s.watch.register } })) ∧
    (∀ a : ArmId, s.calm → (s.arm a).state = .held → s.noneWaitsBut a.consumer → (s.valve a.consumer).driving = false →
      ((s.arm a).prior = some .running ∨ (s.arm a).prior = some .waitSupply ∨ (s.arm a).prior = some .suspended →
        s.armServiceEnd a =
          (s.setArm a { (s.arm a).stoppedIn .paused with
            prior := none, grantedHeld := false, singleStep := false }).granted a.consumer 0) ∧
      ((s.arm a).prior = some .manual →
        s.armServiceEnd a =
          (s.setArm a { s.arm a with state := .idle, prior := none, grantedHeld := false, manualGranted := false }).granted
            a.consumer 0)) ∧
    ∀ c : ChamberId, s.calm → (s.chamber c).state = .held → s.noneWaitsBut c.consumer → (s.valve c.consumer).driving = false →
      s.chamberServiceEnd c =
        (s.setChamber c { s.chamber c with
          state := .suspended, prior := none, grantedHeld := false, grantFlag := false, operatorFlag := true,
          quietTimer := .stopped }).granted c.consumer 0

/-- WATCH_CONTINUE (R157) at SERVICE level: while FREE it changes nothing and is answered with value 0; while HELD it ends the
hold and is answered with value 1. DISCARD empties the register and counts its frame; PROCESS places an own frame in its queue or
slot, but for a valve command frame of a STOPPED group. PROCESS hands a frame received at a port to the Router, which looks it up
as at its arrival, and no entry of Frame Watch is tested again: shown at a miss that is dropped, at a FORWARD entry of either
forward enable, at a DROP entry, and at operator frames of an arm, which are delivered now (one without an operation code counted
in CMD_BAD, a FAULT_CLEAR outside FAULTED in CMD_IGNORED). Shown with no arm and no chamber HELD and no stroke pending. That a
page follows a frame of the same act is the model's choice (assumption 46). -/
def Obligations.WatchContinueEndsTheHold : Prop :=
  (∀ (s : State) (q : Request), s.settled → s.mgmt.inProgress = none → s.mgmt.service = true →
    (s.watch.isHeld = false → ∀ c, (c = .watchContinueProcess q ∧ q.value = 1 ∨ c = .watchContinueDiscard q ∧ q.value = 0) →
      ∃ t, exec c s = .next t ∧
        (s.offerQueue .portB (s.replyTo q 9 0 q.index 0)).AfterPages t) ∧
    (s.watch.isHeld = true → (∀ a, (s.arm a).state ≠ .held) → (∀ c, (s.chamber c).state ≠ .held) →
      (∀ c, (s.chamber c).pending = false) →
      (∀ h, s.watch.register = some h → q.value = 0 →
        ∃ t, exec (.watchContinueDiscard q) s = .next t ∧
          ((s.setWatch { s.watch with
              isHeld := false, holdEntry := none, register := none,
              heldDiscarded := min (s.watch.heldDiscarded + 1) 65535 }).offerQueue .portB
            (s.replyTo q 9 0 q.index 1)).AfterPages t) ∧
      (∀ d f, s.watch.register = some (.own d f) → q.value = 1 →
        ((∀ c : Consumer, d = .slot .portB c.number → (s.valve c).driving = true) →
          ∃ t, exec (.watchContinueProcess q) s = .next t ∧
            ((s.setWatch { s.watch with isHeld := false, holdEntry := none, register := none }).placeOwn d f).AfterReply
              (s.replyTo q 9 0 q.index 1) t) ∧
        (∀ c : Consumer, d = .slot .portB c.number → (s.valve c).driving = false →
          ∃ t, exec (.watchContinueProcess q) s = .next t ∧
            ((s.setWatch { s.watch with
                isHeld := false, holdEntry := none, register := none,
                heldDiscarded := min (s.watch.heldDiscarded + 1) 65535 }).offerQueue .portB
              (s.replyTo q 9 0 q.index 1)).AfterPages t)))) ∧
  ∀ (s : State) (q : Request) (p d : PortId) (f : Frame) (u : State) (fits : RouteEntry → Prop),
    s.agenda = [] → s.mgmt.noted = s.allPages → (∀ e ∈ s.watch.entries, e.armed = true → e.source ≠ .own) →
    s.mgmt.inProgress = none → s.mgmt.service = true → s.watch.isHeld = true → (∀ a, (s.arm a).state ≠ .held) →
    (∀ c, (s.chamber c).state ≠ .held) → (∀ c, (s.chamber c).pending = false) →
    s.watch.register = some (.received p f) → q.value = 1 → d ≠ p →
    u = s.setWatch { s.watch with isHeld := false, holdEntry := none, register := none } →
    (∀ e, fits e ↔ e.valid = true ∧ (e.source = .any ∨ e.source = (match p with | .portC => .portC | .portB => .portB)) ∧
      f.id &&& e.mask = e.matchId &&& e.mask) →
    ((∀ e ∈ s.routes, ¬ fits e) → (match p with | .portC => s.cfg.miss.fst | .portB => s.cfg.miss.snd) = .drop →
      ∃ t, exec (.watchContinueProcess q) s = .next t ∧
        (u.setPort p { s.port p with
          counters := { (s.port p).counters with miss := min ((s.port p).counters.miss + 1) 65535 } }).AfterReply
            (s.replyTo q 9 0 q.index 1) t) ∧
    ∀ (i : Nat) (e : RouteEntry) (v : State), s.routes[i]? = some e → fits e →
      (∀ j < i, ∀ g, s.routes[j]? = some g → ¬ fits g) → e.gate = 0 →
      v = { u with routes := s.routes.set i { e with hits := min (e.hits + 1) 65535 } } →
      ∀ w : State,
        (e.action = .drop ∧ w = v ∨
          e.action = .forward ∧ (s.port d).forwardEnable = false ∧
            w = v.setPort d { s.port d with
              counters := { (s.port d).counters with fwdDisabled := min ((s.port d).counters.fwdDisabled + 1) 65535 } } ∨
          e.action = .forward ∧ (s.port d).forwardEnable = true ∧
            w = v.offerQueue d { frame := f, cls := e.cls, origin := .forwarded, ofReset := false } ∨
          e.action = .consume ∧ ∃ a, e.consumer = (match a with | .armA => .armA | .armB => .armB) ∧
            (f.byte 0 = 0 ∧ w = v.setArm a { s.arm a with cmdBad := min ((s.arm a).cmdBad + 1) 65535 } ∨
              f.byte 0 = 7 ∧ (s.arm a).state ≠ .faulted ∧
                w = v.setArm a { s.arm a with cmdIgnored := min ((s.arm a).cmdIgnored + 1) 65535 })) →
        ∃ t, exec (.watchContinueProcess q) s = .next t ∧ w.AfterReply (s.replyTo q 9 0 q.index 1) t
end

