-- ==== Sys2Proof/Laws/Bins.lean ====
section
/-! SUPPORT. What the operations of the Bin Table and the Lift Log can do: order of tags, entries kept, records kept. -/

namespace Sys2Proof.Machine

/-- The tags of a table strictly rise (R86). -/
def tagsRise (l : List BinEntry) : Prop := (l.map (fun e => e.data.tag)).Pairwise (· < ·)

theorem tagsRise_cons {e : BinEntry} {l : List BinEntry} :
    tagsRise (e :: l) ↔ (∀ x ∈ l, e.data.tag < x.data.tag) ∧ tagsRise l := by
  simp [tagsRise]

/-- An entry after an INSERT is the staged one, the one it replaces with its count and last lift, or one that was there. -/
theorem putBin_mem {d : BinData} {l : List BinEntry} {x : BinEntry} (h : x ∈ putBin d l) :
    x = .ofData d ∨ (∃ e ∈ l, e.data.tag = d.tag ∧ x = { e with data := d }) ∨ x ∈ l := by
  induction l with
  | nil => exact .inl (by simpa [putBin] using h)
  | cons e r ih =>
    unfold putBin at h
    split at h
    · rcases List.mem_cons.1 h with rfl | h
      · exact .inl rfl
      · exact .inr (.inr h)
    · split at h
      · rename_i he
        rcases List.mem_cons.1 h with rfl | h
        · exact .inr (.inl ⟨e, by simp, he.symm, rfl⟩)
        · exact .inr (.inr (List.mem_cons_of_mem _ h))
      · rcases List.mem_cons.1 h with rfl | h
        · exact .inr (.inr (by simp))
        · rcases ih h with h | ⟨y, hy, ht, hx⟩ | h
          · exact .inl h
          · exact .inr (.inl ⟨y, List.mem_cons_of_mem _ hy, ht, hx⟩)
          · exact .inr (.inr (List.mem_cons_of_mem _ h))

/-- The tag of an entry after an INSERT is the staged tag or one of the table's. -/
theorem putBin_tag {d : BinData} {l : List BinEntry} {x : BinEntry} (h : x ∈ putBin d l) :
    x.data.tag = d.tag ∨ ∃ e ∈ l, x.data.tag = e.data.tag := by
  rcases putBin_mem h with rfl | ⟨e, -, -, rfl⟩ | h
  · exact .inl rfl
  · exact .inl rfl
  · exact .inr ⟨x, h, rfl⟩

/-- An entry of another tag stands through an INSERT. -/
theorem mem_putBin_of_mem {d : BinData} {l : List BinEntry} {x : BinEntry} (h : x ∈ l) (hx : x.data.tag ≠ d.tag) :
    x ∈ putBin d l := by
  induction l with
  | nil => cases h
  | cons e r ih =>
    unfold putBin
    split
    · exact List.mem_cons_of_mem _ h
    · split
      · rename_i he
        rcases List.mem_cons.1 h with rfl | h
        · exact absurd he.symm hx
        · exact List.mem_cons_of_mem _ h
      · rcases List.mem_cons.1 h with rfl | h
        · simp
        · exact List.mem_cons_of_mem _ (ih h)

/-- An INSERT keeps the order of tags. -/
theorem putBin_tagsRise {d : BinData} {l : List BinEntry} (h : tagsRise l) : tagsRise (putBin d l) := by
  induction l with
  | nil => simp [putBin, tagsRise, BinEntry.ofData]
  | cons e r ih =>
    obtain ⟨he, hr⟩ := tagsRise_cons.1 h
    unfold putBin
    split
    · rename_i hd
      refine tagsRise_cons.2 ⟨fun x hx => ?_, h⟩
      rcases List.mem_cons.1 hx with rfl | hx
      · exact hd
      · exact lt_trans hd (he x hx)
    · split
      · rename_i hd
        exact tagsRise_cons.2 ⟨fun x hx => by simpa [hd] using he x hx, hr⟩
      · rename_i h1 h2
        refine tagsRise_cons.2 ⟨fun x hx => ?_, ih hr⟩
        rcases putBin_tag hx with hx | ⟨y, hy, hx⟩
        · omega
        · exact hx ▸ he y hy

/-- A REMOVE keeps the order of tags, and exactly the entries of other tags. -/
theorem dropBin_tagsRise {tag : Nat} {l : List BinEntry} (h : tagsRise l) : tagsRise (dropBin tag l) :=
  List.Pairwise.sublist (List.Sublist.map _ List.filter_sublist) h

theorem mem_dropBin {tag : Nat} {l : List BinEntry} {x : BinEntry} : x ∈ dropBin tag l ↔ x ∈ l ∧ x.data.tag ≠ tag := by
  simp [dropBin]

/-- DAY and a close change no tag. -/
theorem dayBins_tags (l : List BinEntry) : (dayBins l).map (fun e => e.data.tag) = l.map (fun e => e.data.tag) := by
  simp [dayBins]

theorem liftedBin_tags (tag time : Nat) (b : Bool) (l : List BinEntry) :
    (liftedBin tag time b l).map (fun e => e.data.tag) = l.map (fun e => e.data.tag) := by
  simp only [liftedBin, List.map_map]
  refine List.map_congr_left fun e _ => ?_
  simp only [Function.comp_apply]
  split <;> rfl

/-! ## Records -/

/-- Entering something in the OPEN record of a number leaves every CLOSED record. -/
theorem LiftLog.mem_enter_of_closed {l : LiftLog} {r : LogRecord} (n : Nat) (f : LogRecord → LogRecord) (h : r ∈ l.records)
    (hc : r.closed = true) : r ∈ (l.enter n f).records :=
  List.mem_map.2 ⟨r, h, by simp [hc]⟩

/-- A new record leaves every stored record. -/
theorem LiftLog.mem_place {l : LiftLog} {r : LogRecord} (x : LogRecord) (h : r ∈ l.records) : r ∈ (l.place x).records :=
  List.mem_append_left _ h

/-- RELEASE splits the Log: what is freed is CLOSED and covered, and what is kept begins with a record that is not both. -/
theorem releaseSplit_spec (n : Nat) (l : List LogRecord) :
    l = (releaseSplit n l).1 ++ (releaseSplit n l).2 ∧
    (∀ r ∈ (releaseSplit n l).1, r.closed = true ∧ covered n r.seq = true) ∧
    ∀ r rest, (releaseSplit n l).2 = r :: rest → ¬ (r.closed = true ∧ covered n r.seq = true) := by
  induction l with
  | nil => simp [releaseSplit]
  | cons a l ih =>
    obtain ⟨h1, h2, h3⟩ := ih
    unfold releaseSplit
    split
    · rename_i h
      refine ⟨by simp [← h1], fun r hr => ?_, h3⟩
      rcases List.mem_cons.1 hr with rfl | hr
      · simpa using h
      · exact h2 r hr
    · rename_i h
      refine ⟨rfl, by simp, fun r rest e => ?_⟩
      cases e
      simpa using h

end Sys2Proof.Machine
end

