-- ==== Sys2Proof/Laws/State.lean ====
section
/-! SUPPORT. One lemma per field per update of the state, all by definition, so that no later proof unfolds a record update. -/

namespace Sys2Proof.Machine

/-! ## Pairs and quadruples -/

@[simp] theorem Duo.at_put_same {α : Type} (d : Duo α) (b : Bool) (x : α) : (d.put b x).at b = x := by cases b <;> rfl
@[simp] theorem Duo.at_put_false_true {α : Type} (d : Duo α) (x : α) : (d.put false x).at true = d.at true := rfl
@[simp] theorem Duo.at_put_true_false {α : Type} (d : Duo α) (x : α) : (d.put true x).at false = d.at false := rfl
@[simp] theorem Duo.put_put {α : Type} (d : Duo α) (b : Bool) (x y : α) : (d.put b x).put b y = d.put b y := by
  cases b <;> rfl
@[simp] theorem Duo.put_at {α : Type} (d : Duo α) (b : Bool) : d.put b (d.at b) = d := by cases b <;> rfl

theorem Duo.at_put_ne {α : Type} (d : Duo α) {b c : Bool} (h : c ≠ b) (x : α) : (d.put b x).at c = d.at c := by
  cases b <;> cases c <;> first | rfl | exact absurd rfl h

@[simp] theorem Quad.at_put_same {α : Type} (d : Quad α) (c : Consumer) (x : α) : (d.put c x).at c = x := by cases c <;> rfl
@[simp] theorem Quad.put_put {α : Type} (d : Quad α) (c : Consumer) (x y : α) : (d.put c x).put c y = d.put c y := by
  cases c <;> rfl

theorem Quad.at_put_ne {α : Type} (d : Quad α) {b c : Consumer} (h : c ≠ b) (x : α) : (d.put b x).at c = d.at c := by
  cases b <;> cases c <;> first | rfl | exact absurd rfl h

theorem ArmId.second_ne {a b : ArmId} (h : a ≠ b) : a.second ≠ b.second := by
  cases a <;> cases b <;> simp_all [ArmId.second]
theorem ChamberId.second_ne {a b : ChamberId} (h : a ≠ b) : a.second ≠ b.second := by
  cases a <;> cases b <;> simp_all [ChamberId.second]
theorem PortId.second_ne {a b : PortId} (h : a ≠ b) : a.second ≠ b.second := by
  cases a <;> cases b <;> simp_all [PortId.second]

/-! ## Fields -/

section
variable (s : State)

@[simp] theorem State.setPort_pending (p : PortId) (x : Port) : (s.setPort p x).pending = s.pending := rfl
@[simp] theorem State.setPort_now (p : PortId) (x : Port) : (s.setPort p x).now = s.now := rfl
@[simp] theorem State.setPort_cfg (p : PortId) (x : Port) : (s.setPort p x).cfg = s.cfg := rfl
@[simp] theorem State.setPort_ports (p : PortId) (x : Port) : (s.setPort p x).ports = s.ports.put p.second x := rfl
@[simp] theorem State.setPort_routes (p : PortId) (x : Port) : (s.setPort p x).routes = s.routes := rfl
@[simp] theorem State.setPort_signals (p : PortId) (x : Port) : (s.setPort p x).signals = s.signals := rfl
@[simp] theorem State.setPort_terms (p : PortId) (x : Port) : (s.setPort p x).terms = s.terms := rfl
@[simp] theorem State.setPort_groups (p : PortId) (x : Port) : (s.setPort p x).groups = s.groups := rfl
@[simp] theorem State.setPort_clock (p : PortId) (x : Port) : (s.setPort p x).clock = s.clock := rfl
@[simp] theorem State.setPort_steps (p : PortId) (x : Port) : (s.setPort p x).steps = s.steps := rfl
@[simp] theorem State.setPort_programs (p : PortId) (x : Port) : (s.setPort p x).programs = s.programs := rfl
@[simp] theorem State.setPort_select (p : PortId) (x : Port) : (s.setPort p x).select = s.select := rfl
@[simp] theorem State.setPort_arms (p : PortId) (x : Port) : (s.setPort p x).arms = s.arms := rfl
@[simp] theorem State.setPort_arbiter (p : PortId) (x : Port) : (s.setPort p x).arbiter = s.arbiter := rfl
@[simp] theorem State.setPort_valves (p : PortId) (x : Port) : (s.setPort p x).valves = s.valves := rfl
@[simp] theorem State.setPort_valveTimer (p : PortId) (x : Port) : (s.setPort p x).valveTimer = s.valveTimer := rfl
@[simp] theorem State.setPort_bins (p : PortId) (x : Port) : (s.setPort p x).bins = s.bins := rfl
@[simp] theorem State.setPort_cal (p : PortId) (x : Port) : (s.setPort p x).cal = s.cal := rfl
@[simp] theorem State.setPort_weigh (p : PortId) (x : Port) : (s.setPort p x).weigh = s.weigh := rfl
@[simp] theorem State.setPort_chambers (p : PortId) (x : Port) : (s.setPort p x).chambers = s.chambers := rfl
@[simp] theorem State.setPort_chbCmdBad (p : PortId) (x : Port) : (s.setPort p x).chbCmdBad = s.chbCmdBad := rfl
@[simp] theorem State.setPort_tariffs (p : PortId) (x : Port) : (s.setPort p x).tariffs = s.tariffs := rfl
@[simp] theorem State.setPort_log (p : PortId) (x : Port) : (s.setPort p x).log = s.log := rfl
@[simp] theorem State.setPort_watch (p : PortId) (x : Port) : (s.setPort p x).watch = s.watch := rfl
@[simp] theorem State.setPort_mgmt (p : PortId) (x : Port) : (s.setPort p x).mgmt = s.mgmt := rfl
@[simp] theorem State.setPort_agenda (p : PortId) (x : Port) : (s.setPort p x).agenda = s.agenda := rfl
@[simp] theorem State.setPort_freeCount (p : PortId) (x : Port) : (s.setPort p x).freeCount = s.freeCount := rfl

@[simp] theorem State.setArm_pending (a : ArmId) (x : Arm) : (s.setArm a x).pending = s.pending := rfl
@[simp] theorem State.setArm_now (a : ArmId) (x : Arm) : (s.setArm a x).now = s.now := rfl
@[simp] theorem State.setArm_cfg (a : ArmId) (x : Arm) : (s.setArm a x).cfg = s.cfg := rfl
@[simp] theorem State.setArm_ports (a : ArmId) (x : Arm) : (s.setArm a x).ports = s.ports := rfl
@[simp] theorem State.setArm_routes (a : ArmId) (x : Arm) : (s.setArm a x).routes = s.routes := rfl
@[simp] theorem State.setArm_signals (a : ArmId) (x : Arm) : (s.setArm a x).signals = s.signals := rfl
@[simp] theorem State.setArm_terms (a : ArmId) (x : Arm) : (s.setArm a x).terms = s.terms := rfl
@[simp] theorem State.setArm_groups (a : ArmId) (x : Arm) : (s.setArm a x).groups = s.groups := rfl
@[simp] theorem State.setArm_clock (a : ArmId) (x : Arm) : (s.setArm a x).clock = s.clock := rfl
@[simp] theorem State.setArm_steps (a : ArmId) (x : Arm) : (s.setArm a x).steps = s.steps := rfl
@[simp] theorem State.setArm_programs (a : ArmId) (x : Arm) : (s.setArm a x).programs = s.programs := rfl
@[simp] theorem State.setArm_select (a : ArmId) (x : Arm) : (s.setArm a x).select = s.select := rfl
@[simp] theorem State.setArm_arms (a : ArmId) (x : Arm) : (s.setArm a x).arms = s.arms.put a.second x := rfl
@[simp] theorem State.setArm_arbiter (a : ArmId) (x : Arm) : (s.setArm a x).arbiter = s.arbiter := rfl
@[simp] theorem State.setArm_valves (a : ArmId) (x : Arm) : (s.setArm a x).valves = s.valves := rfl
@[simp] theorem State.setArm_valveTimer (a : ArmId) (x : Arm) : (s.setArm a x).valveTimer = s.valveTimer := rfl
@[simp] theorem State.setArm_bins (a : ArmId) (x : Arm) : (s.setArm a x).bins = s.bins := rfl
@[simp] theorem State.setArm_cal (a : ArmId) (x : Arm) : (s.setArm a x).cal = s.cal := rfl
@[simp] theorem State.setArm_weigh (a : ArmId) (x : Arm) : (s.setArm a x).weigh = s.weigh := rfl
@[simp] theorem State.setArm_chambers (a : ArmId) (x : Arm) : (s.setArm a x).chambers = s.chambers := rfl
@[simp] theorem State.setArm_chbCmdBad (a : ArmId) (x : Arm) : (s.setArm a x).chbCmdBad = s.chbCmdBad := rfl
@[simp] theorem State.setArm_tariffs (a : ArmId) (x : Arm) : (s.setArm a x).tariffs = s.tariffs := rfl
@[simp] theorem State.setArm_log (a : ArmId) (x : Arm) : (s.setArm a x).log = s.log := rfl
@[simp] theorem State.setArm_watch (a : ArmId) (x : Arm) : (s.setArm a x).watch = s.watch := rfl
@[simp] theorem State.setArm_mgmt (a : ArmId) (x : Arm) : (s.setArm a x).mgmt = s.mgmt := rfl
@[simp] theorem State.setArm_agenda (a : ArmId) (x : Arm) : (s.setArm a x).agenda = s.agenda := rfl
@[simp] theorem State.setArm_freeCount (a : ArmId) (x : Arm) : (s.setArm a x).freeCount = s.freeCount := rfl

@[simp] theorem State.setChamber_pending (c : ChamberId) (x : Chamber) : (s.setChamber c x).pending = s.pending := rfl
@[simp] theorem State.setChamber_now (c : ChamberId) (x : Chamber) : (s.setChamber c x).now = s.now := rfl
@[simp] theorem State.setChamber_cfg (c : ChamberId) (x : Chamber) : (s.setChamber c x).cfg = s.cfg := rfl
@[simp] theorem State.setChamber_ports (c : ChamberId) (x : Chamber) : (s.setChamber c x).ports = s.ports := rfl
@[simp] theorem State.setChamber_routes (c : ChamberId) (x : Chamber) : (s.setChamber c x).routes = s.routes := rfl
@[simp] theorem State.setChamber_signals (c : ChamberId) (x : Chamber) : (s.setChamber c x).signals = s.signals := rfl
@[simp] theorem State.setChamber_terms (c : ChamberId) (x : Chamber) : (s.setChamber c x).terms = s.terms := rfl
@[simp] theorem State.setChamber_groups (c : ChamberId) (x : Chamber) : (s.setChamber c x).groups = s.groups := rfl
@[simp] theorem State.setChamber_clock (c : ChamberId) (x : Chamber) : (s.setChamber c x).clock = s.clock := rfl
@[simp] theorem State.setChamber_steps (c : ChamberId) (x : Chamber) : (s.setChamber c x).steps = s.steps := rfl
@[simp] theorem State.setChamber_programs (c : ChamberId) (x : Chamber) : (s.setChamber c x).programs = s.programs := rfl
@[simp] theorem State.setChamber_select (c : ChamberId) (x : Chamber) : (s.setChamber c x).select = s.select := rfl
@[simp] theorem State.setChamber_arms (c : ChamberId) (x : Chamber) : (s.setChamber c x).arms = s.arms := rfl
@[simp] theorem State.setChamber_arbiter (c : ChamberId) (x : Chamber) : (s.setChamber c x).arbiter = s.arbiter := rfl
@[simp] theorem State.setChamber_valves (c : ChamberId) (x : Chamber) : (s.setChamber c x).valves = s.valves := rfl
@[simp] theorem State.setChamber_valveTimer (c : ChamberId) (x : Chamber) : (s.setChamber c x).valveTimer = s.valveTimer := rfl
@[simp] theorem State.setChamber_bins (c : ChamberId) (x : Chamber) : (s.setChamber c x).bins = s.bins := rfl
@[simp] theorem State.setChamber_cal (c : ChamberId) (x : Chamber) : (s.setChamber c x).cal = s.cal := rfl
@[simp] theorem State.setChamber_weigh (c : ChamberId) (x : Chamber) : (s.setChamber c x).weigh = s.weigh := rfl
@[simp] theorem State.setChamber_chambers (c : ChamberId) (x : Chamber) : (s.setChamber c x).chambers = s.chambers.put c.second x := rfl
@[simp] theorem State.setChamber_chbCmdBad (c : ChamberId) (x : Chamber) : (s.setChamber c x).chbCmdBad = s.chbCmdBad := rfl
@[simp] theorem State.setChamber_tariffs (c : ChamberId) (x : Chamber) : (s.setChamber c x).tariffs = s.tariffs := rfl
@[simp] theorem State.setChamber_log (c : ChamberId) (x : Chamber) : (s.setChamber c x).log = s.log := rfl
@[simp] theorem State.setChamber_watch (c : ChamberId) (x : Chamber) : (s.setChamber c x).watch = s.watch := rfl
@[simp] theorem State.setChamber_mgmt (c : ChamberId) (x : Chamber) : (s.setChamber c x).mgmt = s.mgmt := rfl
@[simp] theorem State.setChamber_agenda (c : ChamberId) (x : Chamber) : (s.setChamber c x).agenda = s.agenda := rfl
@[simp] theorem State.setChamber_freeCount (c : ChamberId) (x : Chamber) : (s.setChamber c x).freeCount = s.freeCount := rfl

@[simp] theorem State.setWeighUnit_pending (a : ArmId) (x : WeighUnit) : (s.setWeighUnit a x).pending = s.pending := rfl
@[simp] theorem State.setWeighUnit_now (a : ArmId) (x : WeighUnit) : (s.setWeighUnit a x).now = s.now := rfl
@[simp] theorem State.setWeighUnit_cfg (a : ArmId) (x : WeighUnit) : (s.setWeighUnit a x).cfg = s.cfg := rfl
@[simp] theorem State.setWeighUnit_ports (a : ArmId) (x : WeighUnit) : (s.setWeighUnit a x).ports = s.ports := rfl
@[simp] theorem State.setWeighUnit_routes (a : ArmId) (x : WeighUnit) : (s.setWeighUnit a x).routes = s.routes := rfl
@[simp] theorem State.setWeighUnit_signals (a : ArmId) (x : WeighUnit) : (s.setWeighUnit a x).signals = s.signals := rfl
@[simp] theorem State.setWeighUnit_terms (a : ArmId) (x : WeighUnit) : (s.setWeighUnit a x).terms = s.terms := rfl
@[simp] theorem State.setWeighUnit_groups (a : ArmId) (x : WeighUnit) : (s.setWeighUnit a x).groups = s.groups := rfl
@[simp] theorem State.setWeighUnit_clock (a : ArmId) (x : WeighUnit) : (s.setWeighUnit a x).clock = s.clock := rfl
@[simp] theorem State.setWeighUnit_steps (a : ArmId) (x : WeighUnit) : (s.setWeighUnit a x).steps = s.steps := rfl
@[simp] theorem State.setWeighUnit_programs (a : ArmId) (x : WeighUnit) : (s.setWeighUnit a x).programs = s.programs := rfl
@[simp] theorem State.setWeighUnit_select (a : ArmId) (x : WeighUnit) : (s.setWeighUnit a x).select = s.select := rfl
@[simp] theorem State.setWeighUnit_arms (a : ArmId) (x : WeighUnit) : (s.setWeighUnit a x).arms = s.arms := rfl
@[simp] theorem State.setWeighUnit_arbiter (a : ArmId) (x : WeighUnit) : (s.setWeighUnit a x).arbiter = s.arbiter := rfl
@[simp] theorem State.setWeighUnit_valves (a : ArmId) (x : WeighUnit) : (s.setWeighUnit a x).valves = s.valves := rfl
@[simp] theorem State.setWeighUnit_valveTimer (a : ArmId) (x : WeighUnit) : (s.setWeighUnit a x).valveTimer = s.valveTimer := rfl
@[simp] theorem State.setWeighUnit_bins (a : ArmId) (x : WeighUnit) : (s.setWeighUnit a x).bins = s.bins := rfl
@[simp] theorem State.setWeighUnit_cal (a : ArmId) (x : WeighUnit) : (s.setWeighUnit a x).cal = s.cal := rfl
@[simp] theorem State.setWeighUnit_weigh (a : ArmId) (x : WeighUnit) : (s.setWeighUnit a x).weigh = s.weigh.put a.second x := rfl
@[simp] theorem State.setWeighUnit_chambers (a : ArmId) (x : WeighUnit) : (s.setWeighUnit a x).chambers = s.chambers := rfl
@[simp] theorem State.setWeighUnit_chbCmdBad (a : ArmId) (x : WeighUnit) : (s.setWeighUnit a x).chbCmdBad = s.chbCmdBad := rfl
@[simp] theorem State.setWeighUnit_tariffs (a : ArmId) (x : WeighUnit) : (s.setWeighUnit a x).tariffs = s.tariffs := rfl
@[simp] theorem State.setWeighUnit_log (a : ArmId) (x : WeighUnit) : (s.setWeighUnit a x).log = s.log := rfl
@[simp] theorem State.setWeighUnit_watch (a : ArmId) (x : WeighUnit) : (s.setWeighUnit a x).watch = s.watch := rfl
@[simp] theorem State.setWeighUnit_mgmt (a : ArmId) (x : WeighUnit) : (s.setWeighUnit a x).mgmt = s.mgmt := rfl
@[simp] theorem State.setWeighUnit_agenda (a : ArmId) (x : WeighUnit) : (s.setWeighUnit a x).agenda = s.agenda := rfl
@[simp] theorem State.setWeighUnit_freeCount (a : ArmId) (x : WeighUnit) : (s.setWeighUnit a x).freeCount = s.freeCount := rfl

@[simp] theorem State.setValve_pending (c : Consumer) (x : ValveGroup) : (s.setValve c x).pending = s.pending := rfl
@[simp] theorem State.setValve_now (c : Consumer) (x : ValveGroup) : (s.setValve c x).now = s.now := rfl
@[simp] theorem State.setValve_cfg (c : Consumer) (x : ValveGroup) : (s.setValve c x).cfg = s.cfg := rfl
@[simp] theorem State.setValve_ports (c : Consumer) (x : ValveGroup) : (s.setValve c x).ports = s.ports := rfl
@[simp] theorem State.setValve_routes (c : Consumer) (x : ValveGroup) : (s.setValve c x).routes = s.routes := rfl
@[simp] theorem State.setValve_signals (c : Consumer) (x : ValveGroup) : (s.setValve c x).signals = s.signals := rfl
@[simp] theorem State.setValve_terms (c : Consumer) (x : ValveGroup) : (s.setValve c x).terms = s.terms := rfl
@[simp] theorem State.setValve_groups (c : Consumer) (x : ValveGroup) : (s.setValve c x).groups = s.groups := rfl
@[simp] theorem State.setValve_clock (c : Consumer) (x : ValveGroup) : (s.setValve c x).clock = s.clock := rfl
@[simp] theorem State.setValve_steps (c : Consumer) (x : ValveGroup) : (s.setValve c x).steps = s.steps := rfl
@[simp] theorem State.setValve_programs (c : Consumer) (x : ValveGroup) : (s.setValve c x).programs = s.programs := rfl
@[simp] theorem State.setValve_select (c : Consumer) (x : ValveGroup) : (s.setValve c x).select = s.select := rfl
@[simp] theorem State.setValve_arms (c : Consumer) (x : ValveGroup) : (s.setValve c x).arms = s.arms := rfl
@[simp] theorem State.setValve_arbiter (c : Consumer) (x : ValveGroup) : (s.setValve c x).arbiter = s.arbiter := rfl
@[simp] theorem State.setValve_valves (c : Consumer) (x : ValveGroup) : (s.setValve c x).valves = s.valves.put c x := rfl
@[simp] theorem State.setValve_valveTimer (c : Consumer) (x : ValveGroup) : (s.setValve c x).valveTimer = s.valveTimer := rfl
@[simp] theorem State.setValve_bins (c : Consumer) (x : ValveGroup) : (s.setValve c x).bins = s.bins := rfl
@[simp] theorem State.setValve_cal (c : Consumer) (x : ValveGroup) : (s.setValve c x).cal = s.cal := rfl
@[simp] theorem State.setValve_weigh (c : Consumer) (x : ValveGroup) : (s.setValve c x).weigh = s.weigh := rfl
@[simp] theorem State.setValve_chambers (c : Consumer) (x : ValveGroup) : (s.setValve c x).chambers = s.chambers := rfl
@[simp] theorem State.setValve_chbCmdBad (c : Consumer) (x : ValveGroup) : (s.setValve c x).chbCmdBad = s.chbCmdBad := rfl
@[simp] theorem State.setValve_tariffs (c : Consumer) (x : ValveGroup) : (s.setValve c x).tariffs = s.tariffs := rfl
@[simp] theorem State.setValve_log (c : Consumer) (x : ValveGroup) : (s.setValve c x).log = s.log := rfl
@[simp] theorem State.setValve_watch (c : Consumer) (x : ValveGroup) : (s.setValve c x).watch = s.watch := rfl
@[simp] theorem State.setValve_mgmt (c : Consumer) (x : ValveGroup) : (s.setValve c x).mgmt = s.mgmt := rfl
@[simp] theorem State.setValve_agenda (c : Consumer) (x : ValveGroup) : (s.setValve c x).agenda = s.agenda := rfl
@[simp] theorem State.setValve_freeCount (c : Consumer) (x : ValveGroup) : (s.setValve c x).freeCount = s.freeCount := rfl

@[simp] theorem State.setBins_pending (x : BinUnit) : (s.setBins x).pending = s.pending := rfl
@[simp] theorem State.setBins_now (x : BinUnit) : (s.setBins x).now = s.now := rfl
@[simp] theorem State.setBins_cfg (x : BinUnit) : (s.setBins x).cfg = s.cfg := rfl
@[simp] theorem State.setBins_ports (x : BinUnit) : (s.setBins x).ports = s.ports := rfl
@[simp] theorem State.setBins_routes (x : BinUnit) : (s.setBins x).routes = s.routes := rfl
@[simp] theorem State.setBins_signals (x : BinUnit) : (s.setBins x).signals = s.signals := rfl
@[simp] theorem State.setBins_terms (x : BinUnit) : (s.setBins x).terms = s.terms := rfl
@[simp] theorem State.setBins_groups (x : BinUnit) : (s.setBins x).groups = s.groups := rfl
@[simp] theorem State.setBins_clock (x : BinUnit) : (s.setBins x).clock = s.clock := rfl
@[simp] theorem State.setBins_steps (x : BinUnit) : (s.setBins x).steps = s.steps := rfl
@[simp] theorem State.setBins_programs (x : BinUnit) : (s.setBins x).programs = s.programs := rfl
@[simp] theorem State.setBins_select (x : BinUnit) : (s.setBins x).select = s.select := rfl
@[simp] theorem State.setBins_arms (x : BinUnit) : (s.setBins x).arms = s.arms := rfl
@[simp] theorem State.setBins_arbiter (x : BinUnit) : (s.setBins x).arbiter = s.arbiter := rfl
@[simp] theorem State.setBins_valves (x : BinUnit) : (s.setBins x).valves = s.valves := rfl
@[simp] theorem State.setBins_valveTimer (x : BinUnit) : (s.setBins x).valveTimer = s.valveTimer := rfl
@[simp] theorem State.setBins_bins (x : BinUnit) : (s.setBins x).bins = x := rfl
@[simp] theorem State.setBins_cal (x : BinUnit) : (s.setBins x).cal = s.cal := rfl
@[simp] theorem State.setBins_weigh (x : BinUnit) : (s.setBins x).weigh = s.weigh := rfl
@[simp] theorem State.setBins_chambers (x : BinUnit) : (s.setBins x).chambers = s.chambers := rfl
@[simp] theorem State.setBins_chbCmdBad (x : BinUnit) : (s.setBins x).chbCmdBad = s.chbCmdBad := rfl
@[simp] theorem State.setBins_tariffs (x : BinUnit) : (s.setBins x).tariffs = s.tariffs := rfl
@[simp] theorem State.setBins_log (x : BinUnit) : (s.setBins x).log = s.log := rfl
@[simp] theorem State.setBins_watch (x : BinUnit) : (s.setBins x).watch = s.watch := rfl
@[simp] theorem State.setBins_mgmt (x : BinUnit) : (s.setBins x).mgmt = s.mgmt := rfl
@[simp] theorem State.setBins_agenda (x : BinUnit) : (s.setBins x).agenda = s.agenda := rfl
@[simp] theorem State.setBins_freeCount (x : BinUnit) : (s.setBins x).freeCount = s.freeCount := rfl

@[simp] theorem State.setLog_pending (x : LiftLog) : (s.setLog x).pending = s.pending := rfl
@[simp] theorem State.setLog_now (x : LiftLog) : (s.setLog x).now = s.now := rfl
@[simp] theorem State.setLog_cfg (x : LiftLog) : (s.setLog x).cfg = s.cfg := rfl
@[simp] theorem State.setLog_ports (x : LiftLog) : (s.setLog x).ports = s.ports := rfl
@[simp] theorem State.setLog_routes (x : LiftLog) : (s.setLog x).routes = s.routes := rfl
@[simp] theorem State.setLog_signals (x : LiftLog) : (s.setLog x).signals = s.signals := rfl
@[simp] theorem State.setLog_terms (x : LiftLog) : (s.setLog x).terms = s.terms := rfl
@[simp] theorem State.setLog_groups (x : LiftLog) : (s.setLog x).groups = s.groups := rfl
@[simp] theorem State.setLog_clock (x : LiftLog) : (s.setLog x).clock = s.clock := rfl
@[simp] theorem State.setLog_steps (x : LiftLog) : (s.setLog x).steps = s.steps := rfl
@[simp] theorem State.setLog_programs (x : LiftLog) : (s.setLog x).programs = s.programs := rfl
@[simp] theorem State.setLog_select (x : LiftLog) : (s.setLog x).select = s.select := rfl
@[simp] theorem State.setLog_arms (x : LiftLog) : (s.setLog x).arms = s.arms := rfl
@[simp] theorem State.setLog_arbiter (x : LiftLog) : (s.setLog x).arbiter = s.arbiter := rfl
@[simp] theorem State.setLog_valves (x : LiftLog) : (s.setLog x).valves = s.valves := rfl
@[simp] theorem State.setLog_valveTimer (x : LiftLog) : (s.setLog x).valveTimer = s.valveTimer := rfl
@[simp] theorem State.setLog_bins (x : LiftLog) : (s.setLog x).bins = s.bins := rfl
@[simp] theorem State.setLog_cal (x : LiftLog) : (s.setLog x).cal = s.cal := rfl
@[simp] theorem State.setLog_weigh (x : LiftLog) : (s.setLog x).weigh = s.weigh := rfl
@[simp] theorem State.setLog_chambers (x : LiftLog) : (s.setLog x).chambers = s.chambers := rfl
@[simp] theorem State.setLog_chbCmdBad (x : LiftLog) : (s.setLog x).chbCmdBad = s.chbCmdBad := rfl
@[simp] theorem State.setLog_tariffs (x : LiftLog) : (s.setLog x).tariffs = s.tariffs := rfl
@[simp] theorem State.setLog_log (x : LiftLog) : (s.setLog x).log = x := rfl
@[simp] theorem State.setLog_watch (x : LiftLog) : (s.setLog x).watch = s.watch := rfl
@[simp] theorem State.setLog_mgmt (x : LiftLog) : (s.setLog x).mgmt = s.mgmt := rfl
@[simp] theorem State.setLog_agenda (x : LiftLog) : (s.setLog x).agenda = s.agenda := rfl
@[simp] theorem State.setLog_freeCount (x : LiftLog) : (s.setLog x).freeCount = s.freeCount := rfl

@[simp] theorem State.setWatch_pending (x : Watch) : (s.setWatch x).pending = s.pending := rfl
@[simp] theorem State.setWatch_now (x : Watch) : (s.setWatch x).now = s.now := rfl
@[simp] theorem State.setWatch_cfg (x : Watch) : (s.setWatch x).cfg = s.cfg := rfl
@[simp] theorem State.setWatch_ports (x : Watch) : (s.setWatch x).ports = s.ports := rfl
@[simp] theorem State.setWatch_routes (x : Watch) : (s.setWatch x).routes = s.routes := rfl
@[simp] theorem State.setWatch_signals (x : Watch) : (s.setWatch x).signals = s.signals := rfl
@[simp] theorem State.setWatch_terms (x : Watch) : (s.setWatch x).terms = s.terms := rfl
@[simp] theorem State.setWatch_groups (x : Watch) : (s.setWatch x).groups = s.groups := rfl
@[simp] theorem State.setWatch_clock (x : Watch) : (s.setWatch x).clock = s.clock := rfl
@[simp] theorem State.setWatch_steps (x : Watch) : (s.setWatch x).steps = s.steps := rfl
@[simp] theorem State.setWatch_programs (x : Watch) : (s.setWatch x).programs = s.programs := rfl
@[simp] theorem State.setWatch_select (x : Watch) : (s.setWatch x).select = s.select := rfl
@[simp] theorem State.setWatch_arms (x : Watch) : (s.setWatch x).arms = s.arms := rfl
@[simp] theorem State.setWatch_arbiter (x : Watch) : (s.setWatch x).arbiter = s.arbiter := rfl
@[simp] theorem State.setWatch_valves (x : Watch) : (s.setWatch x).valves = s.valves := rfl
@[simp] theorem State.setWatch_valveTimer (x : Watch) : (s.setWatch x).valveTimer = s.valveTimer := rfl
@[simp] theorem State.setWatch_bins (x : Watch) : (s.setWatch x).bins = s.bins := rfl
@[simp] theorem State.setWatch_cal (x : Watch) : (s.setWatch x).cal = s.cal := rfl
@[simp] theorem State.setWatch_weigh (x : Watch) : (s.setWatch x).weigh = s.weigh := rfl
@[simp] theorem State.setWatch_chambers (x : Watch) : (s.setWatch x).chambers = s.chambers := rfl
@[simp] theorem State.setWatch_chbCmdBad (x : Watch) : (s.setWatch x).chbCmdBad = s.chbCmdBad := rfl
@[simp] theorem State.setWatch_tariffs (x : Watch) : (s.setWatch x).tariffs = s.tariffs := rfl
@[simp] theorem State.setWatch_log (x : Watch) : (s.setWatch x).log = s.log := rfl
@[simp] theorem State.setWatch_watch (x : Watch) : (s.setWatch x).watch = x := rfl
@[simp] theorem State.setWatch_mgmt (x : Watch) : (s.setWatch x).mgmt = s.mgmt := rfl
@[simp] theorem State.setWatch_agenda (x : Watch) : (s.setWatch x).agenda = s.agenda := rfl
@[simp] theorem State.setWatch_freeCount (x : Watch) : (s.setWatch x).freeCount = s.freeCount := rfl

@[simp] theorem State.setMgmt_pending (x : Management) : (s.setMgmt x).pending = s.pending := rfl
@[simp] theorem State.setMgmt_now (x : Management) : (s.setMgmt x).now = s.now := rfl
@[simp] theorem State.setMgmt_cfg (x : Management) : (s.setMgmt x).cfg = s.cfg := rfl
@[simp] theorem State.setMgmt_ports (x : Management) : (s.setMgmt x).ports = s.ports := rfl
@[simp] theorem State.setMgmt_routes (x : Management) : (s.setMgmt x).routes = s.routes := rfl
@[simp] theorem State.setMgmt_signals (x : Management) : (s.setMgmt x).signals = s.signals := rfl
@[simp] theorem State.setMgmt_terms (x : Management) : (s.setMgmt x).terms = s.terms := rfl
@[simp] theorem State.setMgmt_groups (x : Management) : (s.setMgmt x).groups = s.groups := rfl
@[simp] theorem State.setMgmt_clock (x : Management) : (s.setMgmt x).clock = s.clock := rfl
@[simp] theorem State.setMgmt_steps (x : Management) : (s.setMgmt x).steps = s.steps := rfl
@[simp] theorem State.setMgmt_programs (x : Management) : (s.setMgmt x).programs = s.programs := rfl
@[simp] theorem State.setMgmt_select (x : Management) : (s.setMgmt x).select = s.select := rfl
@[simp] theorem State.setMgmt_arms (x : Management) : (s.setMgmt x).arms = s.arms := rfl
@[simp] theorem State.setMgmt_arbiter (x : Management) : (s.setMgmt x).arbiter = s.arbiter := rfl
@[simp] theorem State.setMgmt_valves (x : Management) : (s.setMgmt x).valves = s.valves := rfl
@[simp] theorem State.setMgmt_valveTimer (x : Management) : (s.setMgmt x).valveTimer = s.valveTimer := rfl
@[simp] theorem State.setMgmt_bins (x : Management) : (s.setMgmt x).bins = s.bins := rfl
@[simp] theorem State.setMgmt_cal (x : Management) : (s.setMgmt x).cal = s.cal := rfl
@[simp] theorem State.setMgmt_weigh (x : Management) : (s.setMgmt x).weigh = s.weigh := rfl
@[simp] theorem State.setMgmt_chambers (x : Management) : (s.setMgmt x).chambers = s.chambers := rfl
@[simp] theorem State.setMgmt_chbCmdBad (x : Management) : (s.setMgmt x).chbCmdBad = s.chbCmdBad := rfl
@[simp] theorem State.setMgmt_tariffs (x : Management) : (s.setMgmt x).tariffs = s.tariffs := rfl
@[simp] theorem State.setMgmt_log (x : Management) : (s.setMgmt x).log = s.log := rfl
@[simp] theorem State.setMgmt_watch (x : Management) : (s.setMgmt x).watch = s.watch := rfl
@[simp] theorem State.setMgmt_mgmt (x : Management) : (s.setMgmt x).mgmt = x := rfl
@[simp] theorem State.setMgmt_agenda (x : Management) : (s.setMgmt x).agenda = s.agenda := rfl
@[simp] theorem State.setMgmt_freeCount (x : Management) : (s.setMgmt x).freeCount = s.freeCount := rfl

@[simp] theorem State.setArbiter_pending (x : Arbiter) : (s.setArbiter x).pending = s.pending := rfl
@[simp] theorem State.setArbiter_now (x : Arbiter) : (s.setArbiter x).now = s.now := rfl
@[simp] theorem State.setArbiter_cfg (x : Arbiter) : (s.setArbiter x).cfg = s.cfg := rfl
@[simp] theorem State.setArbiter_ports (x : Arbiter) : (s.setArbiter x).ports = s.ports := rfl
@[simp] theorem State.setArbiter_routes (x : Arbiter) : (s.setArbiter x).routes = s.routes := rfl
@[simp] theorem State.setArbiter_signals (x : Arbiter) : (s.setArbiter x).signals = s.signals := rfl
@[simp] theorem State.setArbiter_terms (x : Arbiter) : (s.setArbiter x).terms = s.terms := rfl
@[simp] theorem State.setArbiter_groups (x : Arbiter) : (s.setArbiter x).groups = s.groups := rfl
@[simp] theorem State.setArbiter_clock (x : Arbiter) : (s.setArbiter x).clock = s.clock := rfl
@[simp] theorem State.setArbiter_steps (x : Arbiter) : (s.setArbiter x).steps = s.steps := rfl
@[simp] theorem State.setArbiter_programs (x : Arbiter) : (s.setArbiter x).programs = s.programs := rfl
@[simp] theorem State.setArbiter_select (x : Arbiter) : (s.setArbiter x).select = s.select := rfl
@[simp] theorem State.setArbiter_arms (x : Arbiter) : (s.setArbiter x).arms = s.arms := rfl
@[simp] theorem State.setArbiter_arbiter (x : Arbiter) : (s.setArbiter x).arbiter = x := rfl
@[simp] theorem State.setArbiter_valves (x : Arbiter) : (s.setArbiter x).valves = s.valves := rfl
@[simp] theorem State.setArbiter_valveTimer (x : Arbiter) : (s.setArbiter x).valveTimer = s.valveTimer := rfl
@[simp] theorem State.setArbiter_bins (x : Arbiter) : (s.setArbiter x).bins = s.bins := rfl
@[simp] theorem State.setArbiter_cal (x : Arbiter) : (s.setArbiter x).cal = s.cal := rfl
@[simp] theorem State.setArbiter_weigh (x : Arbiter) : (s.setArbiter x).weigh = s.weigh := rfl
@[simp] theorem State.setArbiter_chambers (x : Arbiter) : (s.setArbiter x).chambers = s.chambers := rfl
@[simp] theorem State.setArbiter_chbCmdBad (x : Arbiter) : (s.setArbiter x).chbCmdBad = s.chbCmdBad := rfl
@[simp] theorem State.setArbiter_tariffs (x : Arbiter) : (s.setArbiter x).tariffs = s.tariffs := rfl
@[simp] theorem State.setArbiter_log (x : Arbiter) : (s.setArbiter x).log = s.log := rfl
@[simp] theorem State.setArbiter_watch (x : Arbiter) : (s.setArbiter x).watch = s.watch := rfl
@[simp] theorem State.setArbiter_mgmt (x : Arbiter) : (s.setArbiter x).mgmt = s.mgmt := rfl
@[simp] theorem State.setArbiter_agenda (x : Arbiter) : (s.setArbiter x).agenda = s.agenda := rfl
@[simp] theorem State.setArbiter_freeCount (x : Arbiter) : (s.setArbiter x).freeCount = s.freeCount := rfl

@[simp] theorem State.post_pending (e : Ev) : (s.post e).pending = s.pending := rfl
@[simp] theorem State.post_now (e : Ev) : (s.post e).now = s.now := rfl
@[simp] theorem State.post_cfg (e : Ev) : (s.post e).cfg = s.cfg := rfl
@[simp] theorem State.post_ports (e : Ev) : (s.post e).ports = s.ports := rfl
@[simp] theorem State.post_routes (e : Ev) : (s.post e).routes = s.routes := rfl
@[simp] theorem State.post_signals (e : Ev) : (s.post e).signals = s.signals := rfl
@[simp] theorem State.post_terms (e : Ev) : (s.post e).terms = s.terms := rfl
@[simp] theorem State.post_groups (e : Ev) : (s.post e).groups = s.groups := rfl
@[simp] theorem State.post_clock (e : Ev) : (s.post e).clock = s.clock := rfl
@[simp] theorem State.post_steps (e : Ev) : (s.post e).steps = s.steps := rfl
@[simp] theorem State.post_programs (e : Ev) : (s.post e).programs = s.programs := rfl
@[simp] theorem State.post_select (e : Ev) : (s.post e).select = s.select := rfl
@[simp] theorem State.post_arms (e : Ev) : (s.post e).arms = s.arms := rfl
@[simp] theorem State.post_arbiter (e : Ev) : (s.post e).arbiter = s.arbiter := rfl
@[simp] theorem State.post_valves (e : Ev) : (s.post e).valves = s.valves := rfl
@[simp] theorem State.post_valveTimer (e : Ev) : (s.post e).valveTimer = s.valveTimer := rfl
@[simp] theorem State.post_bins (e : Ev) : (s.post e).bins = s.bins := rfl
@[simp] theorem State.post_cal (e : Ev) : (s.post e).cal = s.cal := rfl
@[simp] theorem State.post_weigh (e : Ev) : (s.post e).weigh = s.weigh := rfl
@[simp] theorem State.post_chambers (e : Ev) : (s.post e).chambers = s.chambers := rfl
@[simp] theorem State.post_chbCmdBad (e : Ev) : (s.post e).chbCmdBad = s.chbCmdBad := rfl
@[simp] theorem State.post_tariffs (e : Ev) : (s.post e).tariffs = s.tariffs := rfl
@[simp] theorem State.post_log (e : Ev) : (s.post e).log = s.log := rfl
@[simp] theorem State.post_watch (e : Ev) : (s.post e).watch = s.watch := rfl
@[simp] theorem State.post_mgmt (e : Ev) : (s.post e).mgmt = s.mgmt := rfl
@[simp] theorem State.post_agenda (e : Ev) : (s.post e).agenda = s.agenda ++ [e] := rfl
@[simp] theorem State.post_freeCount (e : Ev) : (s.post e).freeCount = s.freeCount := rfl

@[simp] theorem State.postAll_pending (es : List Ev) : (s.postAll es).pending = s.pending := rfl
@[simp] theorem State.postAll_now (es : List Ev) : (s.postAll es).now = s.now := rfl
@[simp] theorem State.postAll_cfg (es : List Ev) : (s.postAll es).cfg = s.cfg := rfl
@[simp] theorem State.postAll_ports (es : List Ev) : (s.postAll es).ports = s.ports := rfl
@[simp] theorem State.postAll_routes (es : List Ev) : (s.postAll es).routes = s.routes := rfl
@[simp] theorem State.postAll_signals (es : List Ev) : (s.postAll es).signals = s.signals := rfl
@[simp] theorem State.postAll_terms (es : List Ev) : (s.postAll es).terms = s.terms := rfl
@[simp] theorem State.postAll_groups (es : List Ev) : (s.postAll es).groups = s.groups := rfl
@[simp] theorem State.postAll_clock (es : List Ev) : (s.postAll es).clock = s.clock := rfl
@[simp] theorem State.postAll_steps (es : List Ev) : (s.postAll es).steps = s.steps := rfl
@[simp] theorem State.postAll_programs (es : List Ev) : (s.postAll es).programs = s.programs := rfl
@[simp] theorem State.postAll_select (es : List Ev) : (s.postAll es).select = s.select := rfl
@[simp] theorem State.postAll_arms (es : List Ev) : (s.postAll es).arms = s.arms := rfl
@[simp] theorem State.postAll_arbiter (es : List Ev) : (s.postAll es).arbiter = s.arbiter := rfl
@[simp] theorem State.postAll_valves (es : List Ev) : (s.postAll es).valves = s.valves := rfl
@[simp] theorem State.postAll_valveTimer (es : List Ev) : (s.postAll es).valveTimer = s.valveTimer := rfl
@[simp] theorem State.postAll_bins (es : List Ev) : (s.postAll es).bins = s.bins := rfl
@[simp] theorem State.postAll_cal (es : List Ev) : (s.postAll es).cal = s.cal := rfl
@[simp] theorem State.postAll_weigh (es : List Ev) : (s.postAll es).weigh = s.weigh := rfl
@[simp] theorem State.postAll_chambers (es : List Ev) : (s.postAll es).chambers = s.chambers := rfl
@[simp] theorem State.postAll_chbCmdBad (es : List Ev) : (s.postAll es).chbCmdBad = s.chbCmdBad := rfl
@[simp] theorem State.postAll_tariffs (es : List Ev) : (s.postAll es).tariffs = s.tariffs := rfl
@[simp] theorem State.postAll_log (es : List Ev) : (s.postAll es).log = s.log := rfl
@[simp] theorem State.postAll_watch (es : List Ev) : (s.postAll es).watch = s.watch := rfl
@[simp] theorem State.postAll_mgmt (es : List Ev) : (s.postAll es).mgmt = s.mgmt := rfl
@[simp] theorem State.postAll_agenda (es : List Ev) : (s.postAll es).agenda = s.agenda ++ es := rfl
@[simp] theorem State.postAll_freeCount (es : List Ev) : (s.postAll es).freeCount = s.freeCount := rfl

@[simp] theorem State.postNext_pending (e : Ev) : (s.postNext e).pending = s.pending := rfl
@[simp] theorem State.postNext_now (e : Ev) : (s.postNext e).now = s.now := rfl
@[simp] theorem State.postNext_cfg (e : Ev) : (s.postNext e).cfg = s.cfg := rfl
@[simp] theorem State.postNext_ports (e : Ev) : (s.postNext e).ports = s.ports := rfl
@[simp] theorem State.postNext_routes (e : Ev) : (s.postNext e).routes = s.routes := rfl
@[simp] theorem State.postNext_signals (e : Ev) : (s.postNext e).signals = s.signals := rfl
@[simp] theorem State.postNext_terms (e : Ev) : (s.postNext e).terms = s.terms := rfl
@[simp] theorem State.postNext_groups (e : Ev) : (s.postNext e).groups = s.groups := rfl
@[simp] theorem State.postNext_clock (e : Ev) : (s.postNext e).clock = s.clock := rfl
@[simp] theorem State.postNext_steps (e : Ev) : (s.postNext e).steps = s.steps := rfl
@[simp] theorem State.postNext_programs (e : Ev) : (s.postNext e).programs = s.programs := rfl
@[simp] theorem State.postNext_select (e : Ev) : (s.postNext e).select = s.select := rfl
@[simp] theorem State.postNext_arms (e : Ev) : (s.postNext e).arms = s.arms := rfl
@[simp] theorem State.postNext_arbiter (e : Ev) : (s.postNext e).arbiter = s.arbiter := rfl
@[simp] theorem State.postNext_valves (e : Ev) : (s.postNext e).valves = s.valves := rfl
@[simp] theorem State.postNext_valveTimer (e : Ev) : (s.postNext e).valveTimer = s.valveTimer := rfl
@[simp] theorem State.postNext_bins (e : Ev) : (s.postNext e).bins = s.bins := rfl
@[simp] theorem State.postNext_cal (e : Ev) : (s.postNext e).cal = s.cal := rfl
@[simp] theorem State.postNext_weigh (e : Ev) : (s.postNext e).weigh = s.weigh := rfl
@[simp] theorem State.postNext_chambers (e : Ev) : (s.postNext e).chambers = s.chambers := rfl
@[simp] theorem State.postNext_chbCmdBad (e : Ev) : (s.postNext e).chbCmdBad = s.chbCmdBad := rfl
@[simp] theorem State.postNext_tariffs (e : Ev) : (s.postNext e).tariffs = s.tariffs := rfl
@[simp] theorem State.postNext_log (e : Ev) : (s.postNext e).log = s.log := rfl
@[simp] theorem State.postNext_watch (e : Ev) : (s.postNext e).watch = s.watch := rfl
@[simp] theorem State.postNext_mgmt (e : Ev) : (s.postNext e).mgmt = s.mgmt := rfl
@[simp] theorem State.postNext_agenda (e : Ev) : (s.postNext e).agenda = nextIn e s.agenda := rfl
@[simp] theorem State.postNext_freeCount (e : Ev) : (s.postNext e).freeCount = s.freeCount := rfl

@[simp] theorem State.postFirst_pending (es : List Ev) : (s.postFirst es).pending = s.pending := rfl
@[simp] theorem State.postFirst_now (es : List Ev) : (s.postFirst es).now = s.now := rfl
@[simp] theorem State.postFirst_cfg (es : List Ev) : (s.postFirst es).cfg = s.cfg := rfl
@[simp] theorem State.postFirst_ports (es : List Ev) : (s.postFirst es).ports = s.ports := rfl
@[simp] theorem State.postFirst_routes (es : List Ev) : (s.postFirst es).routes = s.routes := rfl
@[simp] theorem State.postFirst_signals (es : List Ev) : (s.postFirst es).signals = s.signals := rfl
@[simp] theorem State.postFirst_terms (es : List Ev) : (s.postFirst es).terms = s.terms := rfl
@[simp] theorem State.postFirst_groups (es : List Ev) : (s.postFirst es).groups = s.groups := rfl
@[simp] theorem State.postFirst_clock (es : List Ev) : (s.postFirst es).clock = s.clock := rfl
@[simp] theorem State.postFirst_steps (es : List Ev) : (s.postFirst es).steps = s.steps := rfl
@[simp] theorem State.postFirst_programs (es : List Ev) : (s.postFirst es).programs = s.programs := rfl
@[simp] theorem State.postFirst_select (es : List Ev) : (s.postFirst es).select = s.select := rfl
@[simp] theorem State.postFirst_arms (es : List Ev) : (s.postFirst es).arms = s.arms := rfl
@[simp] theorem State.postFirst_arbiter (es : List Ev) : (s.postFirst es).arbiter = s.arbiter := rfl
@[simp] theorem State.postFirst_valves (es : List Ev) : (s.postFirst es).valves = s.valves := rfl
@[simp] theorem State.postFirst_valveTimer (es : List Ev) : (s.postFirst es).valveTimer = s.valveTimer := rfl
@[simp] theorem State.postFirst_bins (es : List Ev) : (s.postFirst es).bins = s.bins := rfl
@[simp] theorem State.postFirst_cal (es : List Ev) : (s.postFirst es).cal = s.cal := rfl
@[simp] theorem State.postFirst_weigh (es : List Ev) : (s.postFirst es).weigh = s.weigh := rfl
@[simp] theorem State.postFirst_chambers (es : List Ev) : (s.postFirst es).chambers = s.chambers := rfl
@[simp] theorem State.postFirst_chbCmdBad (es : List Ev) : (s.postFirst es).chbCmdBad = s.chbCmdBad := rfl
@[simp] theorem State.postFirst_tariffs (es : List Ev) : (s.postFirst es).tariffs = s.tariffs := rfl
@[simp] theorem State.postFirst_log (es : List Ev) : (s.postFirst es).log = s.log := rfl
@[simp] theorem State.postFirst_watch (es : List Ev) : (s.postFirst es).watch = s.watch := rfl
@[simp] theorem State.postFirst_mgmt (es : List Ev) : (s.postFirst es).mgmt = s.mgmt := rfl
@[simp] theorem State.postFirst_agenda (es : List Ev) : (s.postFirst es).agenda = es ++ s.agenda := rfl
@[simp] theorem State.postFirst_freeCount (es : List Ev) : (s.postFirst es).freeCount = s.freeCount := rfl

@[simp] theorem State.touchPage_pending (n : Nat) : (s.touchPage n).pending = s.pending := rfl
@[simp] theorem State.touchPage_now (n : Nat) : (s.touchPage n).now = s.now := rfl
@[simp] theorem State.touchPage_cfg (n : Nat) : (s.touchPage n).cfg = s.cfg := rfl
@[simp] theorem State.touchPage_ports (n : Nat) : (s.touchPage n).ports = s.ports := rfl
@[simp] theorem State.touchPage_routes (n : Nat) : (s.touchPage n).routes = s.routes := rfl
@[simp] theorem State.touchPage_signals (n : Nat) : (s.touchPage n).signals = s.signals := rfl
@[simp] theorem State.touchPage_terms (n : Nat) : (s.touchPage n).terms = s.terms := rfl
@[simp] theorem State.touchPage_groups (n : Nat) : (s.touchPage n).groups = s.groups := rfl
@[simp] theorem State.touchPage_clock (n : Nat) : (s.touchPage n).clock = s.clock := rfl
@[simp] theorem State.touchPage_steps (n : Nat) : (s.touchPage n).steps = s.steps := rfl
@[simp] theorem State.touchPage_programs (n : Nat) : (s.touchPage n).programs = s.programs := rfl
@[simp] theorem State.touchPage_select (n : Nat) : (s.touchPage n).select = s.select := rfl
@[simp] theorem State.touchPage_arms (n : Nat) : (s.touchPage n).arms = s.arms := rfl
@[simp] theorem State.touchPage_arbiter (n : Nat) : (s.touchPage n).arbiter = s.arbiter := rfl
@[simp] theorem State.touchPage_valves (n : Nat) : (s.touchPage n).valves = s.valves := rfl
@[simp] theorem State.touchPage_valveTimer (n : Nat) : (s.touchPage n).valveTimer = s.valveTimer := rfl
@[simp] theorem State.touchPage_bins (n : Nat) : (s.touchPage n).bins = s.bins := rfl
@[simp] theorem State.touchPage_cal (n : Nat) : (s.touchPage n).cal = s.cal := rfl
@[simp] theorem State.touchPage_weigh (n : Nat) : (s.touchPage n).weigh = s.weigh := rfl
@[simp] theorem State.touchPage_chambers (n : Nat) : (s.touchPage n).chambers = s.chambers := rfl
@[simp] theorem State.touchPage_chbCmdBad (n : Nat) : (s.touchPage n).chbCmdBad = s.chbCmdBad := rfl
@[simp] theorem State.touchPage_tariffs (n : Nat) : (s.touchPage n).tariffs = s.tariffs := rfl
@[simp] theorem State.touchPage_log (n : Nat) : (s.touchPage n).log = s.log := rfl
@[simp] theorem State.touchPage_watch (n : Nat) : (s.touchPage n).watch = s.watch := rfl
@[simp] theorem State.touchPage_mgmt (n : Nat) : (s.touchPage n).mgmt = { s.mgmt with noted := s.mgmt.noted.set n [] } := rfl
@[simp] theorem State.touchPage_agenda (n : Nat) : (s.touchPage n).agenda = s.agenda := rfl
@[simp] theorem State.touchPage_freeCount (n : Nat) : (s.touchPage n).freeCount = s.freeCount := rfl

/-! ## Accessors -/

@[simp] theorem State.setPort_arm (p : PortId) (x : Port) (i : ArmId) : (s.setPort p x).arm i = s.arm i := rfl
@[simp] theorem State.setPort_chamber (p : PortId) (x : Port) (i : ChamberId) : (s.setPort p x).chamber i = s.chamber i := rfl
@[simp] theorem State.setPort_weighUnit (p : PortId) (x : Port) (i : ArmId) : (s.setPort p x).weighUnit i = s.weighUnit i := rfl
@[simp] theorem State.setPort_port (p : PortId) (x : Port) : (s.setPort p x).port p = x := by simp [State.port]
@[simp] theorem State.setPort_valve (p : PortId) (x : Port) (i : Consumer) : (s.setPort p x).valve i = s.valve i := rfl

@[simp] theorem State.setArm_arm (a : ArmId) (x : Arm) : (s.setArm a x).arm a = x := by simp [State.arm]
@[simp] theorem State.setArm_chamber (a : ArmId) (x : Arm) (i : ChamberId) : (s.setArm a x).chamber i = s.chamber i := rfl
@[simp] theorem State.setArm_weighUnit (a : ArmId) (x : Arm) (i : ArmId) : (s.setArm a x).weighUnit i = s.weighUnit i := rfl
@[simp] theorem State.setArm_port (a : ArmId) (x : Arm) (i : PortId) : (s.setArm a x).port i = s.port i := rfl
@[simp] theorem State.setArm_valve (a : ArmId) (x : Arm) (i : Consumer) : (s.setArm a x).valve i = s.valve i := rfl

@[simp] theorem State.setChamber_arm (c : ChamberId) (x : Chamber) (i : ArmId) : (s.setChamber c x).arm i = s.arm i := rfl
@[simp] theorem State.setChamber_chamber (c : ChamberId) (x : Chamber) : (s.setChamber c x).chamber c = x := by simp [State.chamber]
@[simp] theorem State.setChamber_weighUnit (c : ChamberId) (x : Chamber) (i : ArmId) : (s.setChamber c x).weighUnit i = s.weighUnit i := rfl
@[simp] theorem State.setChamber_port (c : ChamberId) (x : Chamber) (i : PortId) : (s.setChamber c x).port i = s.port i := rfl
@[simp] theorem State.setChamber_valve (c : ChamberId) (x : Chamber) (i : Consumer) : (s.setChamber c x).valve i = s.valve i := rfl

@[simp] theorem State.setWeighUnit_arm (a : ArmId) (x : WeighUnit) (i : ArmId) : (s.setWeighUnit a x).arm i = s.arm i := rfl
@[simp] theorem State.setWeighUnit_chamber (a : ArmId) (x : WeighUnit) (i : ChamberId) : (s.setWeighUnit a x).chamber i = s.chamber i := rfl
@[simp] theorem State.setWeighUnit_weighUnit (a : ArmId) (x : WeighUnit) : (s.setWeighUnit a x).weighUnit a = x := by simp [State.weighUnit]
@[simp] theorem State.setWeighUnit_port (a : ArmId) (x : WeighUnit) (i : PortId) : (s.setWeighUnit a x).port i = s.port i := rfl
@[simp] theorem State.setWeighUnit_valve (a : ArmId) (x : WeighUnit) (i : Consumer) : (s.setWeighUnit a x).valve i = s.valve i := rfl

@[simp] theorem State.setValve_arm (c : Consumer) (x : ValveGroup) (i : ArmId) : (s.setValve c x).arm i = s.arm i := rfl
@[simp] theorem State.setValve_chamber (c : Consumer) (x : ValveGroup) (i : ChamberId) : (s.setValve c x).chamber i = s.chamber i := rfl
@[simp] theorem State.setValve_weighUnit (c : Consumer) (x : ValveGroup) (i : ArmId) : (s.setValve c x).weighUnit i = s.weighUnit i := rfl
@[simp] theorem State.setValve_port (c : Consumer) (x : ValveGroup) (i : PortId) : (s.setValve c x).port i = s.port i := rfl
@[simp] theorem State.setValve_valve (c : Consumer) (x : ValveGroup) : (s.setValve c x).valve c = x := by simp [State.valve]

@[simp] theorem State.setBins_arm (x : BinUnit) (i : ArmId) : (s.setBins x).arm i = s.arm i := rfl
@[simp] theorem State.setBins_chamber (x : BinUnit) (i : ChamberId) : (s.setBins x).chamber i = s.chamber i := rfl
@[simp] theorem State.setBins_weighUnit (x : BinUnit) (i : ArmId) : (s.setBins x).weighUnit i = s.weighUnit i := rfl
@[simp] theorem State.setBins_port (x : BinUnit) (i : PortId) : (s.setBins x).port i = s.port i := rfl
@[simp] theorem State.setBins_valve (x : BinUnit) (i : Consumer) : (s.setBins x).valve i = s.valve i := rfl

@[simp] theorem State.setLog_arm (x : LiftLog) (i : ArmId) : (s.setLog x).arm i = s.arm i := rfl
@[simp] theorem State.setLog_chamber (x : LiftLog) (i : ChamberId) : (s.setLog x).chamber i = s.chamber i := rfl
@[simp] theorem State.setLog_weighUnit (x : LiftLog) (i : ArmId) : (s.setLog x).weighUnit i = s.weighUnit i := rfl
@[simp] theorem State.setLog_port (x : LiftLog) (i : PortId) : (s.setLog x).port i = s.port i := rfl
@[simp] theorem State.setLog_valve (x : LiftLog) (i : Consumer) : (s.setLog x).valve i = s.valve i := rfl

@[simp] theorem State.setWatch_arm (x : Watch) (i : ArmId) : (s.setWatch x).arm i = s.arm i := rfl
@[simp] theorem State.setWatch_chamber (x : Watch) (i : ChamberId) : (s.setWatch x).chamber i = s.chamber i := rfl
@[simp] theorem State.setWatch_weighUnit (x : Watch) (i : ArmId) : (s.setWatch x).weighUnit i = s.weighUnit i := rfl
@[simp] theorem State.setWatch_port (x : Watch) (i : PortId) : (s.setWatch x).port i = s.port i := rfl
@[simp] theorem State.setWatch_valve (x : Watch) (i : Consumer) : (s.setWatch x).valve i = s.valve i := rfl

@[simp] theorem State.setMgmt_arm (x : Management) (i : ArmId) : (s.setMgmt x).arm i = s.arm i := rfl
@[simp] theorem State.setMgmt_chamber (x : Management) (i : ChamberId) : (s.setMgmt x).chamber i = s.chamber i := rfl
@[simp] theorem State.setMgmt_weighUnit (x : Management) (i : ArmId) : (s.setMgmt x).weighUnit i = s.weighUnit i := rfl
@[simp] theorem State.setMgmt_port (x : Management) (i : PortId) : (s.setMgmt x).port i = s.port i := rfl
@[simp] theorem State.setMgmt_valve (x : Management) (i : Consumer) : (s.setMgmt x).valve i = s.valve i := rfl

@[simp] theorem State.setArbiter_arm (x : Arbiter) (i : ArmId) : (s.setArbiter x).arm i = s.arm i := rfl
@[simp] theorem State.setArbiter_chamber (x : Arbiter) (i : ChamberId) : (s.setArbiter x).chamber i = s.chamber i := rfl
@[simp] theorem State.setArbiter_weighUnit (x : Arbiter) (i : ArmId) : (s.setArbiter x).weighUnit i = s.weighUnit i := rfl
@[simp] theorem State.setArbiter_port (x : Arbiter) (i : PortId) : (s.setArbiter x).port i = s.port i := rfl
@[simp] theorem State.setArbiter_valve (x : Arbiter) (i : Consumer) : (s.setArbiter x).valve i = s.valve i := rfl

@[simp] theorem State.post_arm (e : Ev) (i : ArmId) : (s.post e).arm i = s.arm i := rfl
@[simp] theorem State.post_chamber (e : Ev) (i : ChamberId) : (s.post e).chamber i = s.chamber i := rfl
@[simp] theorem State.post_weighUnit (e : Ev) (i : ArmId) : (s.post e).weighUnit i = s.weighUnit i := rfl
@[simp] theorem State.post_port (e : Ev) (i : PortId) : (s.post e).port i = s.port i := rfl
@[simp] theorem State.post_valve (e : Ev) (i : Consumer) : (s.post e).valve i = s.valve i := rfl

@[simp] theorem State.postAll_arm (es : List Ev) (i : ArmId) : (s.postAll es).arm i = s.arm i := rfl
@[simp] theorem State.postAll_chamber (es : List Ev) (i : ChamberId) : (s.postAll es).chamber i = s.chamber i := rfl
@[simp] theorem State.postAll_weighUnit (es : List Ev) (i : ArmId) : (s.postAll es).weighUnit i = s.weighUnit i := rfl
@[simp] theorem State.postAll_port (es : List Ev) (i : PortId) : (s.postAll es).port i = s.port i := rfl
@[simp] theorem State.postAll_valve (es : List Ev) (i : Consumer) : (s.postAll es).valve i = s.valve i := rfl

@[simp] theorem State.postNext_arm (e : Ev) (i : ArmId) : (s.postNext e).arm i = s.arm i := rfl
@[simp] theorem State.postNext_chamber (e : Ev) (i : ChamberId) : (s.postNext e).chamber i = s.chamber i := rfl
@[simp] theorem State.postNext_weighUnit (e : Ev) (i : ArmId) : (s.postNext e).weighUnit i = s.weighUnit i := rfl
@[simp] theorem State.postNext_port (e : Ev) (i : PortId) : (s.postNext e).port i = s.port i := rfl
@[simp] theorem State.postNext_valve (e : Ev) (i : Consumer) : (s.postNext e).valve i = s.valve i := rfl

@[simp] theorem State.postFirst_arm (es : List Ev) (i : ArmId) : (s.postFirst es).arm i = s.arm i := rfl
@[simp] theorem State.postFirst_chamber (es : List Ev) (i : ChamberId) : (s.postFirst es).chamber i = s.chamber i := rfl
@[simp] theorem State.postFirst_weighUnit (es : List Ev) (i : ArmId) : (s.postFirst es).weighUnit i = s.weighUnit i := rfl
@[simp] theorem State.postFirst_port (es : List Ev) (i : PortId) : (s.postFirst es).port i = s.port i := rfl
@[simp] theorem State.postFirst_valve (es : List Ev) (i : Consumer) : (s.postFirst es).valve i = s.valve i := rfl

@[simp] theorem State.touchPage_arm (n : Nat) (i : ArmId) : (s.touchPage n).arm i = s.arm i := rfl
@[simp] theorem State.touchPage_chamber (n : Nat) (i : ChamberId) : (s.touchPage n).chamber i = s.chamber i := rfl
@[simp] theorem State.touchPage_weighUnit (n : Nat) (i : ArmId) : (s.touchPage n).weighUnit i = s.weighUnit i := rfl
@[simp] theorem State.touchPage_port (n : Nat) (i : PortId) : (s.touchPage n).port i = s.port i := rfl
@[simp] theorem State.touchPage_valve (n : Nat) (i : Consumer) : (s.touchPage n).valve i = s.valve i := rfl

theorem State.setArm_arm_ne {a b : ArmId} (h : b ≠ a) (x : Arm) : (s.setArm a x).arm b = s.arm b :=
  Duo.at_put_ne _ (ArmId.second_ne h) x
theorem State.setChamber_chamber_ne {a b : ChamberId} (h : b ≠ a) (x : Chamber) : (s.setChamber a x).chamber b = s.chamber b :=
  Duo.at_put_ne _ (ChamberId.second_ne h) x
theorem State.setPort_port_ne {a b : PortId} (h : b ≠ a) (x : Port) : (s.setPort a x).port b = s.port b :=
  Duo.at_put_ne _ (PortId.second_ne h) x
theorem State.setWeighUnit_weighUnit_ne {a b : ArmId} (h : b ≠ a) (x : WeighUnit) :
    (s.setWeighUnit a x).weighUnit b = s.weighUnit b :=
  Duo.at_put_ne _ (ArmId.second_ne h) x
theorem State.setValve_valve_ne {a b : Consumer} (h : b ≠ a) (x : ValveGroup) : (s.setValve a x).valve b = s.valve b :=
  Quad.at_put_ne _ h x

/-! ## Writing back what stands there -/

@[simp] theorem State.setWatch_self : s.setWatch s.watch = s := rfl
@[simp] theorem State.setMgmt_self : s.setMgmt s.mgmt = s := rfl
@[simp] theorem State.setPort_self (p : PortId) : s.setPort p (s.port p) = s := by simp [State.setPort, State.port]
@[simp] theorem State.setArm_self (a : ArmId) : s.setArm a (s.arm a) = s := by simp [State.setArm, State.arm]
@[simp] theorem State.setChamber_self (c : ChamberId) : s.setChamber c (s.chamber c) = s := by
  simp [State.setChamber, State.chamber]
@[simp] theorem State.setWeighUnit_self (a : ArmId) : s.setWeighUnit a (s.weighUnit a) = s := by
  simp [State.setWeighUnit, State.weighUnit]
@[simp] theorem State.setValve_self (c : Consumer) : s.setValve c (s.valve c) = s := by
  cases c <;> rfl
@[simp] theorem State.setBins_self : s.setBins s.bins = s := rfl
@[simp] theorem State.setLog_self : s.setLog s.log = s := rfl
@[simp] theorem State.setArbiter_self : s.setArbiter s.arbiter = s := rfl

/-! ## The later of two updates of one part stands -/

@[simp] theorem State.setPort_setPort (p : PortId) (x y : Port) : (s.setPort p x).setPort p y = s.setPort p y := by
  simp [State.setPort]
@[simp] theorem State.setArm_setArm (a : ArmId) (x y : Arm) : (s.setArm a x).setArm a y = s.setArm a y := by
  simp [State.setArm]
@[simp] theorem State.setChamber_setChamber (c : ChamberId) (x y : Chamber) :
    (s.setChamber c x).setChamber c y = s.setChamber c y := by simp [State.setChamber]
@[simp] theorem State.setWeighUnit_setWeighUnit (a : ArmId) (x y : WeighUnit) :
    (s.setWeighUnit a x).setWeighUnit a y = s.setWeighUnit a y := by simp [State.setWeighUnit]
@[simp] theorem State.setValve_setValve (c : Consumer) (x y : ValveGroup) :
    (s.setValve c x).setValve c y = s.setValve c y := by simp [State.setValve]
@[simp] theorem State.setBins_setBins (x y : BinUnit) : (s.setBins x).setBins y = s.setBins y := rfl
@[simp] theorem State.setLog_setLog (x y : LiftLog) : (s.setLog x).setLog y = s.setLog y := rfl
@[simp] theorem State.setWatch_setWatch (x y : Watch) : (s.setWatch x).setWatch y = s.setWatch y := rfl
@[simp] theorem State.setMgmt_setMgmt (x y : Management) : (s.setMgmt x).setMgmt y = s.setMgmt y := rfl
@[simp] theorem State.setArbiter_setArbiter (x y : Arbiter) : (s.setArbiter x).setArbiter y = s.setArbiter y := rfl
@[simp] theorem State.postAll_nil : s.postAll [] = s := by simp [State.postAll]

end

end Sys2Proof.Machine
end

