-- ==== Sys2Proof/Laws/Fixed.lean ====
section
/-! SUPPORT. What no hand-over and no status page changes: `State.fixed` collects it, and each shared operation has one lemma that
it keeps it. -/

namespace Sys2Proof.Machine

/-- The queue of commands, the time, the configured tables, the steps and programs, the calibration, the tariffs, and the
words 0 to 5 of every bin entry. -/
def State.fixed (s : State) :
    List Instr × Nat × ConfigTable × List StepEntry × List ProgramEntry × List (Option Nat) × Calibration ×
      List TariffEntry × List BinData :=
  (s.pending, s.now, s.cfg, s.steps, s.programs, s.select, s.cal, s.tariffs, s.bins.entries.map BinEntry.data)

/-! ## Updates -/

section
variable (s : State)

@[simp] theorem State.setPort_fixed (p : PortId) (x : Port) : (s.setPort p x).fixed = s.fixed := rfl
@[simp] theorem State.setArm_fixed (a : ArmId) (x : Arm) : (s.setArm a x).fixed = s.fixed := rfl
@[simp] theorem State.setChamber_fixed (c : ChamberId) (x : Chamber) : (s.setChamber c x).fixed = s.fixed := rfl
@[simp] theorem State.setWeighUnit_fixed (a : ArmId) (x : WeighUnit) : (s.setWeighUnit a x).fixed = s.fixed := rfl
@[simp] theorem State.setValve_fixed (c : Consumer) (x : ValveGroup) : (s.setValve c x).fixed = s.fixed := rfl
@[simp] theorem State.setLog_fixed (x : LiftLog) : (s.setLog x).fixed = s.fixed := rfl
@[simp] theorem State.setWatch_fixed (x : Watch) : (s.setWatch x).fixed = s.fixed := rfl
@[simp] theorem State.setMgmt_fixed (x : Management) : (s.setMgmt x).fixed = s.fixed := rfl
@[simp] theorem State.setArbiter_fixed (x : Arbiter) : (s.setArbiter x).fixed = s.fixed := rfl
@[simp] theorem State.post_fixed (e : Ev) : (s.post e).fixed = s.fixed := rfl
@[simp] theorem State.postAll_fixed (es : List Ev) : (s.postAll es).fixed = s.fixed := rfl
@[simp] theorem State.postNext_fixed (e : Ev) : (s.postNext e).fixed = s.fixed := rfl
@[simp] theorem State.postFirst_fixed (es : List Ev) : (s.postFirst es).fixed = s.fixed := rfl
@[simp] theorem State.touchPage_fixed (page : Nat) : (s.touchPage page).fixed = s.fixed := rfl
@[simp] theorem State.resetReplyLeft_fixed : s.resetReplyLeft.fixed = s.fixed := rfl
@[simp] theorem State.freePick_fixed (n : Nat) : (s.freePick n).1.fixed = s.fixed := rfl
@[simp] theorem State.eitherFirst_fixed : s.eitherFirst.1.fixed = s.fixed := rfl

@[simp] theorem State.permuted_fixed {α : Type} (n : Nat) (l : List α) : (State.permuted n l s).1.fixed = s.fixed := by
  induction n generalizing l s with
  | zero => rfl
  | succ n ih =>
    unfold State.permuted
    split
    · rfl
    · rfl
    · simp [ih]

@[simp] theorem State.inAnyOrder_fixed {α : Type} (l : List α) : (s.inAnyOrder l).1.fixed = s.fixed :=
  State.permuted_fixed s _ l

@[simp] theorem State.putAnywhere_fixed {α : Type} (x : α) (l : List α) : (s.putAnywhere x l).1.fixed = s.fixed := by
  cases l <;> rfl

@[simp] theorem State.postAnyOrder_fixed (es : List Ev) : (s.postAnyOrder es).fixed = s.fixed := by
  simp [State.postAnyOrder]
@[simp] theorem State.agenda_fixed (l : List Ev) : ({ s with agenda := l } : State).fixed = s.fixed := rfl
@[simp] theorem State.routes_fixed (l : List RouteEntry) : ({ s with routes := l } : State).fixed = s.fixed := rfl
@[simp] theorem State.signals_fixed (l : List SignalEntry) : ({ s with signals := l } : State).fixed = s.fixed := rfl
@[simp] theorem State.terms_fixed (l : List TermEntry) : ({ s with terms := l } : State).fixed = s.fixed := rfl
@[simp] theorem State.groups_fixed (l : List GroupEntry) : ({ s with groups := l } : State).fixed = s.fixed := rfl
@[simp] theorem State.clock_fixed (x : Clock) : ({ s with clock := x } : State).fixed = s.fixed := rfl
@[simp] theorem State.chbCmdBad_fixed (n : Nat) : ({ s with chbCmdBad := n } : State).fixed = s.fixed := rfl

theorem State.setBins_fixed {s : State} {x : BinUnit}
    (h : x.entries.map BinEntry.data = s.bins.entries.map BinEntry.data) : (s.setBins x).fixed = s.fixed := by
  simp only [State.fixed, State.setBins, h]

end

/-! ## Ports and Frame Watch -/

section
variable (s : State)

@[simp] theorem State.noteLeft_fixed (l : List QFrame) : (s.noteLeft l).fixed = s.fixed := by
  unfold State.noteLeft; split <;> simp

@[simp] theorem State.offerQueue_fixed (p : PortId) (q : QFrame) : (s.offerQueue p q).fixed = s.fixed := by
  simp [State.offerQueue]

@[simp] theorem State.offerSlot_fixed (p : PortId) (n : Nat) (f : Frame) : (s.offerSlot p n f).fixed = s.fixed := by
  simp [State.offerSlot]

@[simp] theorem State.restartPort_fixed (p : PortId) : (s.restartPort p).fixed = s.fixed := by simp [State.restartPort]

@[simp] theorem State.forwardFrame_fixed (p : PortId) (cls : Nat) (f : Frame) :
    (s.forwardFrame p cls f).fixed = s.fixed := by
  unfold State.forwardFrame; dsimp only; split <;> simp

@[simp] theorem State.mirrorReport_fixed (i : Nat) (own : Bool) (p : PortId) (f : Frame) :
    (s.mirrorReport i own p f).fixed = s.fixed := by
  unfold State.mirrorReport; dsimp only; split <;> simp

theorem State.mirrors_fixed (own : Bool) (p : PortId) (f : Frame) (l : List Nat) :
    (l.foldl (fun s i => s.mirrorReport i own p f) s).fixed = s.fixed := by
  induction l generalizing s with
  | nil => rfl
  | cons i r ih => simp [ih]

@[simp] theorem State.watchTest_fixed (r : Option PortId) (p : PortId) (f : Frame) :
    (s.watchTest r p f).1.fixed = s.fixed := by
  unfold State.watchTest; dsimp only
  split
  · simp [State.mirrors_fixed]
  · split <;> simp [State.mirrors_fixed]

@[simp] theorem State.enterHeld_fixed (i : Nat) : (s.enterHeld i).fixed = s.fixed := by simp [State.enterHeld]

@[simp] theorem State.placeOwn_fixed (d : OwnDest) (f : Frame) : (s.placeOwn d f).fixed = s.fixed := by
  cases d <;> simp [State.placeOwn]

@[simp] theorem State.offerOwn_fixed (d : OwnDest) (f : Frame) : (s.offerOwn d f).fixed = s.fixed := by
  have e := s.watchTest_fixed none d.port f
  unfold State.offerOwn
  split <;> rename_i h <;> rw [h] at e <;> simp only at e
  · simp [e]
  · simp [e]
  · split <;> simp [e]

/-! ## Valves and supply -/

@[simp] theorem State.placeValveFrame_fixed (c : Consumer) : (s.placeValveFrame c).fixed = s.fixed := by
  simp [State.placeValveFrame]

@[simp] theorem State.stopGroup_fixed (c : Consumer) : (s.stopGroup c).fixed = s.fixed := by
  unfold State.stopGroup; dsimp only; split <;> simp

@[simp] theorem State.driveGroup_fixed (c : Consumer) : (s.driveGroup c).fixed = s.fixed := rfl

@[simp] theorem State.setTargets_fixed (c : Consumer) (set : FnSet) (l : List Nat) (ramp : Nat) :
    (s.setTargets c set l ramp).fixed = s.fixed := by
  unfold State.setTargets; dsimp only; repeat' split
  all_goals simp

@[simp] theorem State.tickGroup_fixed (c : Consumer) : (s.tickGroup c).fixed = s.fixed := by
  unfold State.tickGroup; dsimp only; split <;> simp

@[simp] theorem State.stillFrame_fixed (c : Consumer) : (s.stillFrame c).fixed = s.fixed := by
  unfold State.stillFrame; repeat' split
  all_goals simp

@[simp] theorem State.offerHighIdle_fixed (on : Bool) : (s.offerHighIdle on).fixed = s.fixed := by
  simp [State.offerHighIdle]

@[simp] theorem State.judgeHighIdle_fixed : s.judgeHighIdle.fixed = s.fixed := by
  unfold State.judgeHighIdle; dsimp only; split <;> simp

@[simp] theorem State.claim_fixed (c : Consumer) (d : Nat) : (s.claim c d).1.fixed = s.fixed := by
  simp [State.claim]

@[simp] theorem State.claimNone_fixed (c : Consumer) : (s.claimNone c).fixed = s.fixed := by simp [State.claimNone]

@[simp] theorem State.putCapacity_fixed (n : Nat) : (s.putCapacity n).fixed = s.fixed := by
  unfold State.putCapacity; dsimp only; split <;> simp

/-! ## Signals -/

@[simp] theorem State.evaluateTermsOn_fixed (l : List Nat) : (s.evaluateTermsOn l).fixed = s.fixed := rfl
@[simp] theorem State.evaluateGroupsOn_fixed (p : Nat → Bool) : (s.evaluateGroupsOn p).fixed = s.fixed := rfl
@[simp] theorem State.evaluateOn_fixed (l : List Nat) : (s.evaluateOn l).fixed = s.fixed := rfl
@[simp] theorem State.takeSignals_fixed (i : Nat) (f : Frame) : (s.takeSignals i f).fixed = s.fixed := rfl

/-! ## Log and bins -/

@[simp] theorem State.openLift_fixed (a : ArmId) (n : Nat) : (s.openLift a n).fixed = s.fixed := rfl
@[simp] theorem State.enterRecord_fixed (n : Nat) (f : LogRecord → LogRecord) : (s.enterRecord n f).fixed = s.fixed := rfl
@[simp] theorem State.placeClosed_fixed (r : LogRecord) : (s.placeClosed r).fixed = s.fixed := rfl

@[simp] theorem State.writeManualTip_fixed (a : ArmId) (t : Option Nat) (b : Option BinData) :
    (s.writeManualTip a t b).fixed = s.fixed := by
  unfold State.writeManualTip; split <;> simp

@[simp] theorem State.setRequest_fixed (a : ArmId) (q : DecisionRequest) : (s.setRequest a q).fixed = s.fixed := rfl
@[simp] theorem State.dropLastTag_fixed (a : ArmId) : (s.dropLastTag a).fixed = s.fixed := rfl
@[simp] theorem State.binWaiting_fixed (l : List WaitingLookup) :
    (s.setBins { s.bins with waiting := l }).fixed = s.fixed := rfl

@[simp] theorem State.decideByTag_fixed (a : ArmId) (t : Nat) : (s.decideByTag a t).fixed = s.fixed := by
  simp [State.decideByTag]

@[simp] theorem State.decideNoTag_fixed (a : ArmId) : (s.decideNoTag a).fixed = s.fixed := by
  simp only [State.decideNoTag, State.postNext_fixed, State.setRequest_fixed, State.binWaiting_fixed, State.enterRecord_fixed]

@[simp] theorem State.lookUp_fixed (a : ArmId) (t : Nat) : (s.lookUp a t).fixed = s.fixed := by
  unfold State.lookUp; dsimp only; split
  · simp only [State.binWaiting_fixed, State.setRequest_fixed]
  · simp

@[simp] theorem State.askDecision_fixed (a : ArmId) (n k : Nat) : (s.askDecision a n k).fixed = s.fixed := by
  unfold State.askDecision; dsimp only; split <;> simp

@[simp] theorem State.withdrawRequest_fixed (a : ArmId) : (s.withdrawRequest a).fixed = s.fixed := rfl

@[simp] theorem State.tagTimeLimit_fixed (a : ArmId) : (s.tagTimeLimit a).fixed = s.fixed := by
  unfold State.tagTimeLimit; split <;> simp

@[simp] theorem State.tagFrame_fixed (a : ArmId) (f : Frame) : (s.tagFrame a f).fixed = s.fixed := by
  unfold State.tagFrame; dsimp only
  split
  · exact State.setBins_fixed rfl
  · split
    · exact State.setBins_fixed rfl
    · split
      · rw [State.lookUp_fixed, State.setArm_fixed]
        exact State.setBins_fixed rfl
      · rw [State.setArm_fixed]
        exact State.setBins_fixed rfl

@[simp] theorem State.serveManualTip_fixed (a : ArmId) (t : Nat) : (s.serveManualTip a t).fixed = s.fixed := by
  simp [State.serveManualTip]

@[simp] theorem State.manualTip_fixed (a : ArmId) : (s.manualTip a).fixed = s.fixed := by
  unfold State.manualTip; split
  · simp
  · dsimp only; split
    · rw [State.binWaiting_fixed, State.dropLastTag_fixed]
    · simp

theorem liftedBin_data (t n : Nat) (b : Bool) (l : List BinEntry) :
    (liftedBin t n b l).map BinEntry.data = l.map BinEntry.data := by
  simp only [liftedBin, List.map_map]
  exact List.map_congr_left (fun e _ => by simp only [Function.comp]; split <;> rfl)

@[simp] theorem State.serveClose_fixed (t n : Nat) (b : Bool) : (s.serveClose t n b).fixed = s.fixed := by
  unfold State.serveClose; split
  · exact State.setBins_fixed (liftedBin_data t n b _)
  · exact State.setBins_fixed rfl

@[simp] theorem State.closeBin_fixed (t n : Nat) (b : Bool) : (s.closeBin t n b).fixed = s.fixed := by
  unfold State.closeBin; split
  · rfl
  · simp

@[simp] theorem State.startUpdate_fixed (c : BinChange) : (s.startUpdate c).fixed = s.fixed := rfl

@[simp] theorem State.serveLookup_fixed (w : WaitingLookup) : (s.serveLookup w).fixed = s.fixed := by
  cases w with
  | decision a => simp only [State.serveLookup]; split <;> simp
  | manualTip a t => simp [State.serveLookup]
  | closeUpdate t n b => simp [State.serveLookup]

@[simp] theorem State.serveLookups_fixed : s.serveLookups.fixed = s.fixed := by
  unfold State.serveLookups
  rw [State.postAnyOrder_fixed]
  rfl

/-! ## Weighing -/

@[simp] theorem State.putWeigh_fixed (a : ArmId) (u : WeighUnit) : (s.putWeigh a u).fixed = s.fixed := by
  unfold State.putWeigh; dsimp only; split <;> simp

@[simp] theorem State.openWindow_fixed (a : ArmId) (k : WeighState) (n : Nat) : (s.openWindow a k n).fixed = s.fixed := by
  simp [State.openWindow]

@[simp] theorem State.collectGross_fixed (a : ArmId) (n : Nat) : (s.collectGross a n).fixed = s.fixed := by
  unfold State.collectGross; split <;> simp

@[simp] theorem State.collectTare_fixed (a : ArmId) (n : Nat) : (s.collectTare a n).fixed = s.fixed := by
  unfold State.collectTare; split <;> simp

@[simp] theorem State.stallWindow_fixed (a : ArmId) : (s.stallWindow a).fixed = s.fixed := by
  unfold State.stallWindow; dsimp only; split <;> simp

@[simp] theorem State.weighToIdle_fixed (a : ArmId) : (s.weighToIdle a).fixed = s.fixed := by simp [State.weighToIdle]

@[simp] theorem State.endWindow_fixed (a : ArmId) (v u w : Bool) : (s.endWindow a v u w).fixed = s.fixed := by
  unfold State.endWindow; dsimp only; split <;> simp

@[simp] theorem State.sampleFrame_fixed (a : ArmId) (f : Frame) : (s.sampleFrame a f).fixed = s.fixed := by
  unfold State.sampleFrame; dsimp only; repeat' split
  all_goals simp

@[simp] theorem State.gapExpired_fixed (a : ArmId) : (s.gapExpired a).fixed = s.fixed := by
  unfold State.gapExpired; dsimp only; split <;> simp

@[simp] theorem State.weighTimeLimit_fixed (a : ArmId) : (s.weighTimeLimit a).fixed = s.fixed := by
  simp [State.weighTimeLimit]

@[simp] theorem State.disturb_fixed (a : ArmId) : (s.disturb a).fixed = s.fixed := by
  unfold State.disturb; dsimp only; split <;> simp

/-! ## Chambers -/

@[simp] theorem State.setChamberState_fixed (c : ChamberId) (k : ChamberState) :
    (s.setChamberState c k).fixed = s.fixed := by
  unfold State.setChamberState; dsimp only; split <;> simp

@[simp] theorem State.judgeLoad_fixed (c : ChamberId) : (s.judgeLoad c).fixed = s.fixed := by
  unfold State.judgeLoad; dsimp only; repeat' split
  all_goals simp

@[simp] theorem State.addMass_fixed (c : ChamberId) (n : Nat) : (s.addMass c n).fixed = s.fixed := by
  simp [State.addMass]

@[simp] theorem State.enterPhase_fixed (c : ChamberId) : (s.enterPhase c).fixed = s.fixed := by simp [State.enterPhase]

@[simp] theorem State.nextPhase_fixed (c : ChamberId) (p : StrokePhase) : (s.nextPhase c p).fixed = s.fixed := by
  simp [State.nextPhase]

@[simp] theorem State.claimStroke_fixed (c : ChamberId) : (s.claimStroke c).fixed = s.fixed := by
  have e := s.claim_fixed c.consumer (s.chamberSettings c).strokeDemand
  unfold State.claimStroke
  split <;> rename_i h <;> rw [h] at e <;> simp only at e <;> simp [e]

@[simp] theorem State.strokeTest_fixed (c : ChamberId) : (s.strokeTest c).fixed = s.fixed := by
  unfold State.strokeTest; dsimp only; split <;> simp

@[simp] theorem State.endStroke_fixed (c : ChamberId) : (s.endStroke c).fixed = s.fixed := by simp [State.endStroke]

@[simp] theorem State.endPack_fixed (c : ChamberId) (b : Bool) : (s.endPack c b).fixed = s.fixed := by
  unfold State.endPack; dsimp only; split <;> simp

theorem State.testPhase_fixed {s t : State} {c : ChamberId} (h : s.testPhase c = some t) : t.fixed = s.fixed := by
  unfold State.testPhase at h; dsimp only at h
  repeat' split at h
  all_goals first
    | contradiction
    | (injection h with h; subst h; simp)

@[simp] theorem State.phaseRole_fixed (c : ChamberId) : (s.phaseRole c).fixed = s.fixed := by
  unfold State.phaseRole
  cases h : s.testPhase c with
  | none => rfl
  | some t => simpa using State.testPhase_fixed h

@[simp] theorem State.enterQuiet_fixed (c : ChamberId) : (s.enterQuiet c).fixed = s.fixed := by simp [State.enterQuiet]

@[simp] theorem State.quietTest_fixed (c : ChamberId) : (s.quietTest c).fixed = s.fixed := by
  unfold State.quietTest; dsimp only; split <;> simp

@[simp] theorem State.phaseEntered_fixed (c : ChamberId) : (s.phaseEntered c).fixed = s.fixed := by
  unfold State.phaseEntered
  split
  · exact State.testPhase_fixed ‹_›
  · simp

@[simp] theorem State.quietEvent_fixed (c : ChamberId) : (s.quietEvent c).fixed = s.fixed := by
  unfold State.quietEvent; repeat' split
  all_goals simp

@[simp] theorem State.quietExpired_fixed (c : ChamberId) : (s.quietExpired c).fixed = s.fixed := by
  unfold State.quietExpired; dsimp only; split <;> simp

@[simp] theorem State.autoPackTest_fixed (c : ChamberId) : (s.autoPackTest c).fixed = s.fixed := by
  unfold State.autoPackTest; dsimp only; split <;> simp

@[simp] theorem State.takeTip_fixed (c : ChamberId) : (s.takeTip c).fixed = s.fixed := by simp [State.takeTip]

@[simp] theorem State.ignoreChamberCommand_fixed (c : ChamberId) : (s.ignoreChamberCommand c).fixed = s.fixed := by
  simp [State.ignoreChamberCommand]

@[simp] theorem State.phaseExpired_fixed (c : ChamberId) : (s.phaseExpired c).fixed = s.fixed := by
  unfold State.phaseExpired; dsimp only; split <;> simp

@[simp] theorem State.chamberFaultClear_fixed (c : ChamberId) : (s.chamberFaultClear c).fixed = s.fixed := by
  unfold State.chamberFaultClear; dsimp only; split <;> simp

@[simp] theorem State.resumeStroke_fixed (c : ChamberId) : (s.resumeStroke c).fixed = s.fixed := by
  unfold State.resumeStroke; dsimp only; split <;> simp

@[simp] theorem State.packNow_fixed (c : ChamberId) : (s.packNow c).fixed = s.fixed := by
  unfold State.packNow; dsimp only; repeat' split
  all_goals simp

@[simp] theorem State.suspendStroke_fixed (c : ChamberId) : (s.suspendStroke c).fixed = s.fixed := by
  simp [State.suspendStroke]

@[simp] theorem State.suspendWaiting_fixed (c : ChamberId) : (s.suspendWaiting c).fixed = s.fixed := by
  simp [State.suspendWaiting]

@[simp] theorem State.packPermitChange_fixed (c : ChamberId) : (s.packPermitChange c).fixed = s.fixed := by
  unfold State.packPermitChange; dsimp only; repeat' split
  all_goals simp

@[simp] theorem State.chamberGranted_fixed (c : ChamberId) : (s.chamberGranted c).fixed = s.fixed := by
  unfold State.chamberGranted; dsimp only; repeat' split
  all_goals simp

@[simp] theorem State.holdChamber_fixed (c : ChamberId) : (s.holdChamber c).fixed = s.fixed := by
  unfold State.holdChamber; dsimp only; split <;> simp

@[simp] theorem State.chamberHoldEnd_fixed (c : ChamberId) : (s.chamberHoldEnd c).fixed = s.fixed := by
  unfold State.chamberHoldEnd; dsimp only; repeat' split
  all_goals simp

@[simp] theorem State.chamberServiceEnd_fixed (c : ChamberId) : (s.chamberServiceEnd c).fixed = s.fixed := by
  unfold State.chamberServiceEnd; dsimp only; split <;> simp

@[simp] theorem State.refuseDischarge_fixed (c : ChamberId) (r : DischargeRefusal) :
    (s.refuseDischarge c r).fixed = s.fixed := by simp [State.refuseDischarge]

@[simp] theorem State.resetChamber_fixed (c : ChamberId) : (s.resetChamber c).fixed = s.fixed := by
  simp [State.resetChamber]

@[simp] theorem State.discharge_fixed (c : ChamberId) : (s.discharge c).fixed = s.fixed := by
  unfold State.discharge; repeat' split
  all_goals simp

/-! ## The lift cycle -/

@[simp] theorem State.setArmState_fixed (a : ArmId) (k : ArmState) : (s.setArmState a k).fixed = s.fixed := by
  unfold State.setArmState; dsimp only; repeat' split
  all_goals simp

@[simp] theorem State.armStop_fixed (a : ArmId) (k : ArmState) : (s.armStop a k).fixed = s.fixed := by
  simp [State.armStop]

@[simp] theorem State.ignoreArmCommand_fixed (a : ArmId) : (s.ignoreArmCommand a).fixed = s.fixed := by
  simp [State.ignoreArmCommand]

@[simp] theorem State.badArmCommand_fixed (a : ArmId) : (s.badArmCommand a).fixed = s.fixed := by
  simp [State.badArmCommand]

@[simp] theorem State.closeRecord_fixed (a : ArmId) (n : Nat) (o : CycleOutcome) :
    (s.closeRecord a n o).fixed = s.fixed := by
  unfold State.closeRecord; dsimp only; repeat' split
  all_goals simp

@[simp] theorem State.cycleEnd_fixed (a : ArmId) (o : CycleOutcome) : (s.cycleEnd a o).fixed = s.fixed := by
  unfold State.cycleEnd; dsimp only; split <;> simp

@[simp] theorem State.armFault_fixed (a : ArmId) (k : ArmFault) : (s.armFault a k).fixed = s.fixed := by
  unfold State.armFault; split <;> simp

@[simp] theorem State.tellBlock_fixed (a : ArmId) (k : EndKind) : (s.tellBlock a k).fixed = s.fixed := by
  unfold State.tellBlock; repeat' split
  all_goals simp

@[simp] theorem State.enterRunning_fixed (a : ArmId) : (s.enterRunning a).fixed = s.fixed := by
  unfold State.enterRunning; dsimp only; repeat' split
  all_goals simp

@[simp] theorem State.claimStep_fixed (a : ArmId) : (s.claimStep a).fixed = s.fixed := by
  unfold State.claimStep
  cases s.currentStep a with
  | none => rfl
  | some t =>
    have e := s.claim_fixed a.consumer t.claimed
    dsimp only
    split <;> rename_i h <;> rw [h] at e <;> simp only at e <;> simp [e]

@[simp] theorem State.loadStep_fixed (a : ArmId) (p : Nat) : (s.loadStep a p).fixed = s.fixed := by
  unfold State.loadStep; dsimp only; split <;> simp

@[simp] theorem State.resumeStep_fixed (a : ArmId) : (s.resumeStep a).fixed = s.fixed := by
  unfold State.resumeStep; split <;> simp

@[simp] theorem State.enterStep_fixed (a : ArmId) (p : Nat) : (s.enterStep a p).fixed = s.fixed := by
  unfold State.enterStep; dsimp only; split <;> simp

@[simp] theorem State.goTo_fixed (a : ArmId) (n p : Nat) : (s.goTo a n p).fixed = s.fixed := by
  unfold State.goTo; dsimp only; repeat' split
  all_goals simp

@[simp] theorem State.programDone_fixed (a : ArmId) : (s.programDone a).fixed = s.fixed := by simp [State.programDone]

@[simp] theorem State.markTip_fixed (a : ArmId) : (s.markTip a).fixed = s.fixed := by
  unfold State.markTip; dsimp only; split <;> simp

@[simp] theorem State.passOn_fixed (a : ArmId) (g : ProgramEntry) (p : Nat) (t : StepEntry) :
    (s.passOn a g p t).fixed = s.fixed := by
  unfold State.passOn; dsimp only; repeat' split
  all_goals simp

@[simp] theorem State.finishStep_fixed (a : ArmId) : (s.finishStep a).fixed = s.fixed := by
  unfold State.finishStep; dsimp only; repeat' split
  all_goals simp

@[simp] theorem State.stepEnded_fixed (a : ArmId) : (s.stepEnded a).fixed = s.fixed := by
  unfold State.stepEnded; split <;> simp

@[simp] theorem State.endEvent_fixed (a : ArmId) : (s.endEvent a).fixed = s.fixed := by
  unfold State.endEvent; repeat' split
  all_goals simp

@[simp] theorem State.takeDecision_fixed (a : ArmId) (b : Bool) : (s.takeDecision a b).fixed = s.fixed := by
  unfold State.takeDecision; split <;> simp

@[simp] theorem State.positionTest_fixed (a : ArmId) : (s.positionTest a).fixed = s.fixed := by
  unfold State.positionTest; split <;> simp

@[simp] theorem State.stepTimeout_fixed (a : ArmId) : (s.stepTimeout a).fixed = s.fixed := by
  unfold State.stepTimeout; dsimp only; repeat' split
  all_goals simp

@[simp] theorem State.durationRun_fixed (a : ArmId) : (s.durationRun a).fixed = s.fixed := by
  unfold State.durationRun; dsimp only; split <;> simp

@[simp] theorem State.refuseStart_fixed (a : ArmId) (r : ArmRefusal) : (s.refuseStart a r).fixed = s.fixed := by
  simp [State.refuseStart]

@[simp] theorem State.openCycle_fixed (a : ArmId) (n p : Nat) (b : Bool) : (s.openCycle a n p b).fixed = s.fixed := by
  simp [State.openCycle]

@[simp] theorem State.admissionFault_fixed (a : ArmId) : (s.admissionFault a).1.fixed = s.fixed := by
  unfold State.admissionFault; dsimp only; repeat' split
  all_goals simp

@[simp] theorem State.admitCycle_fixed (a : ArmId) (n p : Nat) (b : Bool) : (s.admitCycle a n p b).fixed = s.fixed := by
  rw [← State.openCycle_fixed s a n p b, ← State.admissionFault_fixed (s.openCycle a n p b) a]
  unfold State.admitCycle; split <;> simp [*]

@[simp] theorem State.tryStart_fixed (a : ArmId) (n : Nat) (b : Bool) : (s.tryStart a n b).fixed = s.fixed := by
  unfold State.tryStart; split <;> simp

/-! ## The arms outside a step -/

@[simp] theorem State.manualTargets_fixed (a : ArmId) : (s.manualTargets a).fixed = s.fixed := by
  simp [State.manualTargets]

@[simp] theorem State.manualGrant_fixed (a : ArmId) : (s.manualGrant a).fixed = s.fixed := by simp [State.manualGrant]

@[simp] theorem State.leaveManual_fixed (a : ArmId) (k : ArmState) : (s.leaveManual a k).fixed = s.fixed := by
  simp [State.leaveManual]

@[simp] theorem State.beginManual_fixed (a : ArmId) : (s.beginManual a).fixed = s.fixed := by
  unfold State.beginManual; dsimp only
  split <;> rename_i h <;> have e := congrArg (fun x => x.1.fixed) h <;> simp at e <;> simp [← e]

@[simp] theorem State.enterManual_fixed (a : ArmId) : (s.enterManual a).fixed = s.fixed := by
  unfold State.enterManual; repeat' split
  all_goals simp

@[simp] theorem State.exitManual_fixed (a : ArmId) : (s.exitManual a).fixed = s.fixed := by
  unfold State.exitManual; split <;> simp

@[simp] theorem State.joyEvent_fixed (a : ArmId) : (s.joyEvent a).fixed = s.fixed := by
  unfold State.joyEvent; split <;> simp

@[simp] theorem State.positionEvent_fixed (a : ArmId) : (s.positionEvent a).fixed = s.fixed := by
  unfold State.positionEvent; dsimp only; repeat' split
  all_goals simp

@[simp] theorem State.startCommand_fixed (a : ArmId) (l : List Byte) : (s.startCommand a l).fixed = s.fixed := by
  unfold State.startCommand; repeat' split
  all_goals simp

@[simp] theorem State.pauseCommand_fixed (a : ArmId) : (s.pauseCommand a).fixed = s.fixed := by
  unfold State.pauseCommand; split <;> simp

@[simp] theorem State.continueCommand_fixed (a : ArmId) : (s.continueCommand a).fixed = s.fixed := by
  unfold State.continueCommand; split <;> simp

@[simp] theorem State.abortCommand_fixed (a : ArmId) : (s.abortCommand a).fixed = s.fixed := by
  unfold State.abortCommand; split <;> simp

@[simp] theorem State.armFaultClear_fixed (a : ArmId) : (s.armFaultClear a).fixed = s.fixed := by
  unfold State.armFaultClear; split <;> simp

@[simp] theorem State.armFrame_fixed (a : ArmId) (f : Frame) : (s.armFrame a f).fixed = s.fixed := by
  unfold State.armFrame; repeat' split
  all_goals simp

@[simp] theorem State.guardChange_fixed (a : ArmId) : (s.guardChange a).fixed = s.fixed := by
  unfold State.guardChange; repeat' split
  all_goals simp

@[simp] theorem State.manualPermitChange_fixed (a : ArmId) : (s.manualPermitChange a).fixed = s.fixed := by
  unfold State.manualPermitChange; split <;> simp

@[simp] theorem State.armGranted_fixed (a : ArmId) : (s.armGranted a).fixed = s.fixed := by
  unfold State.armGranted; dsimp only; repeat' split
  all_goals simp

@[simp] theorem State.fullEvent_fixed (a : ArmId) : (s.fullEvent a).fixed = s.fixed := by
  unfold State.fullEvent; split <;> simp

@[simp] theorem State.bodyPortOff_fixed (a : ArmId) : (s.bodyPortOff a).fixed = s.fixed := by
  unfold State.bodyPortOff; dsimp only; repeat' split
  all_goals simp

@[simp] theorem State.holdArm_fixed (a : ArmId) : (s.holdArm a).fixed = s.fixed := by
  unfold State.holdArm; dsimp only; split <;> simp

@[simp] theorem State.armHoldEnd_fixed (a : ArmId) : (s.armHoldEnd a).fixed = s.fixed := by
  unfold State.armHoldEnd; dsimp only; repeat' split
  all_goals simp

@[simp] theorem State.armServiceEnd_fixed (a : ArmId) : (s.armServiceEnd a).fixed = s.fixed := by
  unfold State.armServiceEnd; dsimp only; repeat' split
  all_goals simp

/-! ## Readers -/

@[simp] theorem State.serviceLeft_fixed : s.serviceLeft.fixed = s.fixed := by
  unfold State.serviceLeft; dsimp only; split <;> simp

@[simp] theorem State.judgeService_fixed : s.judgeService.fixed = s.fixed := by
  unfold State.judgeService; dsimp only; repeat' split
  all_goals simp

@[simp] theorem State.groupReader_fixed (r : RoleGroup) : (s.groupReader r).fixed = s.fixed := by
  cases r <;> simp [State.groupReader]

@[simp] theorem State.routeTime_fixed : s.routeTime.fixed = s.fixed := by
  unfold State.routeTime; split <;> simp

@[simp] theorem State.roleReader_fixed (r : Role) : (s.roleReader r).fixed = s.fixed := by
  cases r <;> simp [State.roleReader]

@[simp] theorem State.settleFrom_fixed (old : State) (l : List Nat) : (State.settleFrom old l s).fixed = s.fixed := by
  unfold State.settleFrom; dsimp only
  rw [State.postAll_fixed]
  split <;> split <;> simp

@[simp] theorem State.signalFrame_fixed (i : Nat) (f : Frame) : (s.signalFrame i f).fixed = s.fixed := by
  simp [State.signalFrame]

@[simp] theorem State.changeSignal_fixed (i : Nat) (g : SignalEntry → SignalEntry) :
    (s.changeSignal i g).fixed = s.fixed := by simp [State.changeSignal]

@[simp] theorem State.freshnessExpired_fixed (i : Nat) : (s.freshnessExpired i).fixed = s.fixed := by
  unfold State.freshnessExpired; repeat' split
  all_goals simp

@[simp] theorem State.holdExpired_fixed (i : Nat) : (s.holdExpired i).fixed = s.fixed := by
  unfold State.holdExpired; repeat' split
  all_goals simp

@[simp] theorem State.delayExpired_fixed (g : Nat) : (s.delayExpired g).fixed = s.fixed := by
  unfold State.delayExpired; repeat' split
  all_goals simp

/-! ## Router and agenda -/

@[simp] theorem State.badChamberCommand_fixed : s.badChamberCommand.fixed = s.fixed := rfl

theorem State.toChamber_fixed (args : List Byte) (f : State → ChamberId → State)
    (h : ∀ c, (f s c).fixed = s.fixed) : (s.toChamber args f).fixed = s.fixed := by
  unfold State.toChamber; split
  · simp
  · exact h _

@[simp] theorem State.chamberFrame_fixed (f : Frame) : (s.chamberFrame f).fixed = s.fixed := by
  unfold State.chamberFrame; repeat' split
  all_goals first
    | simp
    | exact State.toChamber_fixed s _ _ (fun c => by simp)

@[simp] theorem State.deliver_fixed (i : Nat) (c : RouteConsumer) (f : Frame) : (s.deliver i c f).fixed = s.fixed := by
  cases c <;> simp [State.deliver]

@[simp] theorem State.dropHeld_fixed : s.dropHeld.fixed = s.fixed := rfl
@[simp] theorem State.countRoute_fixed (i : Nat) (g : RouteEntry → RouteEntry) : (s.countRoute i g).fixed = s.fixed := rfl

@[simp] theorem State.forwardAndDeliver_fixed (i : Nat) (e : RouteEntry) (p : PortId) (f : Frame) :
    (s.forwardAndDeliver i e p f).fixed = s.fixed := by
  rw [← State.eitherFirst_fixed s]
  unfold State.forwardAndDeliver; dsimp only; repeat' split
  all_goals simp [*]

@[simp] theorem State.routeAction_fixed (held : Bool) (i : Nat) (e : RouteEntry) (p : PortId) (f : Frame) :
    (s.routeAction held i e p f).fixed = s.fixed := by
  unfold State.routeAction; repeat' split
  all_goals simp

@[simp] theorem State.missFrame_fixed (p : PortId) (f : Frame) : (s.missFrame p f).fixed = s.fixed := by
  unfold State.missFrame; dsimp only; split <;> simp

@[simp] theorem State.routeFrame_fixed (held : Bool) (p : PortId) (f : Frame) : (s.routeFrame held p f).fixed = s.fixed := by
  unfold State.routeFrame; repeat' split
  all_goals simp

@[simp] theorem State.holdWeighing_fixed : s.holdWeighing.fixed = s.fixed := by simp [State.holdWeighing]

@[simp] theorem State.takeHold_fixed : s.takeHold.fixed = s.fixed := by
  unfold State.takeHold; dsimp only; split <;> simp

@[simp] theorem State.holdAgain_fixed : s.holdAgain.fixed = s.fixed := by
  unfold State.holdAgain; split <;> simp

@[simp] theorem State.discardHeld_fixed : s.discardHeld.fixed = s.fixed := rfl

@[simp] theorem State.settleHeld_fixed (b : Bool) (h : HeldFrame) : (s.settleHeld b h).fixed = s.fixed := by
  unfold State.settleHeld; repeat' split
  all_goals simp

@[simp] theorem State.unlessHeldAnew_fixed {t : State} (h : t.fixed = s.fixed) : (s.unlessHeldAnew t).fixed = s.fixed := by
  unfold State.unlessHeldAnew; split
  · rfl
  · exact h

@[simp] theorem handle_fixed (e : Ev) : (handle e s).fixed = s.fixed := by
  cases e <;> simp [handle]

/-! ## Pages -/

@[simp] theorem State.setPage_fixed (n : Nat) (t : PageTimers) : (s.setPage n t).fixed = s.fixed := rfl
@[simp] theorem State.noteAs_fixed (n : Nat) : (s.noteAs n).fixed = s.fixed := rfl
@[simp] theorem State.sendPage_fixed (n : Nat) : (s.sendPage n).fixed = s.fixed := by simp [State.sendPage]

@[simp] theorem State.pageChanged_fixed (n : Nat) : (s.pageChanged n).fixed = s.fixed := by
  unfold State.pageChanged; dsimp only; split <;> simp

@[simp] theorem noteChanges_fixed (n : Nat) : (noteChanges n s).fixed = s.fixed := by
  induction n generalizing s with
  | zero => rfl
  | succ n ih =>
    unfold noteChanges
    split
    · rfl
    · simp [ih]

@[simp] theorem State.notePages_fixed : s.notePages.fixed = s.fixed := noteChanges_fixed s 32

@[simp] theorem State.takeHead_fixed (e : Ev) (r : List Ev) : (s.takeHead e r).fixed = s.fixed := by
  simp only [State.takeHead, State.notePages_fixed, State.postAll_fixed, handle_fixed]; rfl

@[simp] theorem drain_fixed (n : Nat) : (drain n s).fixed = s.fixed := by
  induction n generalizing s with
  | zero => rfl
  | succ n ih =>
    unfold drain
    split
    · rfl
    · simp [ih]

/-- The hand-overs and the pages that follow a command change nothing fixed. -/
@[simp] theorem State.finish_fixed : s.finish.fixed = s.fixed := by
  unfold State.finish
  rw [drain_fixed, State.notePages_fixed]

end

end Sys2Proof.Machine
end

