-- ==== Sys2Proof/Laws/Frames.lean ====
section
/-! SUPPORT. Frame Watch and the status pages in a calm state: an own frame goes straight to its queue or slot, and a command's effect
is followed by status pages alone, or, with every page as it was noted, by nothing. -/

namespace Sys2Proof.Machine

section
variable {s t u v : State}

/-! ## Calm states -/

@[simp] theorem State.calm_setPort (p : PortId) (x : Port) : (s.setPort p x).calm ↔ s.calm := .rfl
@[simp] theorem State.calm_setArm (a : ArmId) (x : Arm) : (s.setArm a x).calm ↔ s.calm := .rfl
@[simp] theorem State.calm_setChamber (c : ChamberId) (x : Chamber) : (s.setChamber c x).calm ↔ s.calm := .rfl
@[simp] theorem State.calm_setWeighUnit (a : ArmId) (x : WeighUnit) : (s.setWeighUnit a x).calm ↔ s.calm := .rfl
@[simp] theorem State.calm_setValve (c : Consumer) (x : ValveGroup) : (s.setValve c x).calm ↔ s.calm := .rfl
@[simp] theorem State.calm_setBins (x : BinUnit) : (s.setBins x).calm ↔ s.calm := .rfl
@[simp] theorem State.calm_setLog (x : LiftLog) : (s.setLog x).calm ↔ s.calm := .rfl
@[simp] theorem State.calm_setMgmt (x : Management) : (s.setMgmt x).calm ↔ s.calm := .rfl
@[simp] theorem State.calm_setArbiter (x : Arbiter) : (s.setArbiter x).calm ↔ s.calm := .rfl

@[simp] theorem State.calm_noteLeft (l : List QFrame) : (s.noteLeft l).calm ↔ s.calm := by
  unfold State.noteLeft; split <;> exact .rfl

@[simp] theorem State.calm_offerQueue (p : PortId) (q : QFrame) : (s.offerQueue p q).calm ↔ s.calm := by
  simp [State.offerQueue]

@[simp] theorem State.calm_offerSlot (p : PortId) (n : Nat) (f : Frame) : (s.offerSlot p n f).calm ↔ s.calm := .rfl

/-! ## Frame Watch in a calm state -/

theorem Watch.hits_of_disarmed {w : Watch} (h : ∀ e ∈ w.entries, e.armed = false) (r : Option PortId) (f : Frame) :
    w.hits r f = [] := by
  unfold Watch.hits
  rw [List.filter_eq_nil_iff]
  intro i _
  cases hi : w.entries[i]? with
  | none => simp
  | some e => simp [WatchEntry.hit, h e (List.mem_of_getElem? hi)]

/-- With no entry armed a frame passes Frame Watch untouched (R154). -/
theorem State.watchTest_of_disarmed (h : ∀ e ∈ s.watch.entries, e.armed = false) (r : Option PortId) (p : PortId)
    (f : Frame) : s.watchTest r p f = (s, none) := by
  unfold State.watchTest
  rw [Watch.hits_of_disarmed h]
  have hw : s.setWatch (s.watch.countHits []) = s := rfl
  simp [hw, Watch.holdMatch]

/-- With no entry armed an own frame is placed at once. -/
theorem State.offerOwn_of_disarmed (h : ∀ e ∈ s.watch.entries, e.armed = false) (d : OwnDest) (f : Frame) :
    s.offerOwn d f = s.placeOwn d f := by
  unfold State.offerOwn
  rw [State.watchTest_of_disarmed h]

/-- An own frame matches no entry, armed or not, that watches received frames alone (R154). -/
theorem Watch.hits_own_of_unwatched {w : Watch} (h : ∀ e ∈ w.entries, e.armed = true → e.source ≠ .own) (f : Frame) :
    w.hits none f = [] := by
  unfold Watch.hits
  rw [List.filter_eq_nil_iff]
  intro i _
  cases hi : w.entries[i]? with
  | none => simp
  | some e =>
    have k := h e (List.mem_of_getElem? hi)
    cases ha : e.armed <;> cases hs : e.source <;> simp_all [WatchEntry.hit, WatchSource.fits]

/-! ## Page timers, marks and notes -/

/-- The page timers and marks and the model's note of the pages are replaced. -/
def State.paged (s : State) (p : List PageTimers) (n : List (List Byte)) : State :=
  s.setMgmt { s.mgmt with pages := p, noted := n }

@[simp] theorem State.paged_paged (p p' : List PageTimers) (n n' : List (List Byte)) :
    (s.paged p n).paged p' n' = s.paged p' n' := rfl
@[simp] theorem State.calm_paged (p : List PageTimers) (n : List (List Byte)) : (s.paged p n).calm ↔ s.calm := .rfl

theorem State.offerQueue_paged (r : PortId) (q : QFrame) (p : List PageTimers) (n : List (List Byte)) :
    (s.paged p n).offerQueue r q = (s.offerQueue r q).paged p n := by
  unfold State.offerQueue State.noteLeft
  rw [show (s.paged p n).port r = s.port r from rfl]
  split <;> rfl

/-- A status page is read from what the page timers and notes do not touch. -/
theorem State.withPage_paged (k : Nat) (p : List PageTimers) (n : List (List Byte)) :
    (s.paged p n).withPage k = (s.withPage k).paged p n := by
  rw [State.withPage, State.withPage, ← State.offerQueue_paged]
  congr 1

/-- Offering a list of pages. -/
abbrev State.withPages (s : State) (l : List Nat) : State := l.foldl State.withPage s

theorem State.withPages_paged (l : List Nat) (p : List PageTimers) (n : List (List Byte)) :
    (s.paged p n).withPages l = (s.withPages l).paged p n := by
  induction l generalizing s with
  | nil => rfl
  | cons q l ih => simp only [State.withPages, List.foldl_cons, State.withPage_paged] at ih ⊢; exact ih

@[simp] theorem State.calm_withPage (k : Nat) : (s.withPage k).calm ↔ s.calm := State.calm_offerQueue _ _

@[simp] theorem State.calm_withPages (l : List Nat) : (s.withPages l).calm ↔ s.calm := by
  induction l generalizing s with
  | nil => rfl
  | cons q l ih => simp only [State.withPages, List.foldl_cons] at ih ⊢; rw [ih, State.calm_withPage]

/-! ## States after status pages -/

/-- The relation, with the page timers and notes written out. -/
theorem State.afterPages_iff :
    s.AfterPages t ↔ ∃ l p n, (∀ k ∈ l, k < 4) ∧ t = (s.withPages l).paged p n :=
  ⟨fun ⟨l, u, hl, hu, ht⟩ => ⟨l, _, _, hl, by rw [← show u = s.withPages l from hu]; exact ht⟩,
   fun ⟨l, p, n, hl, ht⟩ => ⟨l, _, hl, rfl, by subst ht; rfl⟩⟩

theorem State.AfterPages.refl (s : State) : s.AfterPages s := ⟨[], s, nofun, rfl, rfl⟩

theorem State.AfterPages.trans (h : s.AfterPages t) (k : t.AfterPages u) : s.AfterPages u := by
  obtain ⟨l, p, n, hl, rfl⟩ := State.afterPages_iff.1 h
  obtain ⟨m, p', n', hm, rfl⟩ := State.afterPages_iff.1 k
  refine State.afterPages_iff.2 ⟨l ++ m, p', n', fun q hq => (List.mem_append.1 hq).elim (hl q) (hm q), ?_⟩
  rw [State.withPages_paged, State.paged_paged, State.withPages, State.withPages, State.withPages, List.foldl_append]

theorem State.AfterPages.calm (h : s.AfterPages t) (hs : s.calm) : t.calm := by
  obtain ⟨l, p, n, -, rfl⟩ := State.afterPages_iff.1 h
  simpa using hs

theorem State.paged_afterPages (s : State) (p : List PageTimers) (n : List (List Byte)) : s.AfterPages (s.paged p n) :=
  State.afterPages_iff.2 ⟨[], p, n, nofun, rfl⟩

theorem State.withPage_afterPages {p : Nat} (hp : p < 4) : s.AfterPages (s.withPage p) :=
  State.afterPages_iff.2 ⟨[p], _, _, by simpa using hp, rfl⟩

/-! ## Blocks acting one after another -/

/-- Pages before the first block change nothing of what follows. -/
theorem State.AfterPages.afterEach (h : s.AfterPages t) : ∀ {l : List (State → State)}, State.AfterEach l t u → State.AfterEach l s u
  | [], k => h.trans k
  | _ :: _, ⟨v, a, k⟩ => ⟨v, h.trans a, k⟩

/-- One block acts after pages, then the others. -/
theorem State.afterEach_cons {act : State → State} {l : List (State → State)} (h : s.AfterPages t)
    (k : State.AfterEach l (act t) u) : State.AfterEach (act :: l) s u := ⟨t, h, k⟩

/-! ## Status pages -/

theorem State.sendPage_afterPages (h : s.calm) {p : Nat} (hp : p < 4) : s.AfterPages (s.sendPage p) := by
  unfold State.sendPage
  dsimp only
  rw [State.offerOwn_of_disarmed (by exact h.2)]
  exact (State.withPage_afterPages hp).trans (by
    rw [State.withPage, State.placeOwn]
    exact .trans (State.paged_afterPages _ _ _) (by
      rw [← State.offerQueue_paged]
      exact .refl _))

theorem State.pageChanged_afterPages (h : s.calm) {p : Nat} (hp : p < 4) : s.AfterPages (s.pageChanged p) := by
  unfold State.pageChanged
  dsimp only
  split
  · exact State.paged_afterPages s _ _
  · exact State.sendPage_afterPages h hp

theorem State.changedPage_lt {p : Nat} (h : s.changedPage = some p) : p < 4 :=
  List.mem_range.1 (List.mem_of_find?_eq_some h)

theorem noteChanges_afterPages (h : s.calm) (n : Nat) : s.AfterPages (noteChanges n s) := by
  induction n generalizing s with
  | zero => exact .refl s
  | succ n ih =>
    unfold noteChanges
    split
    · exact .refl s
    · rename_i p hp
      have a := State.pageChanged_afterPages h (State.changedPage_lt hp)
      exact a.trans (ih (a.calm h))

theorem State.notePages_afterPages (h : s.calm) : s.AfterPages s.notePages := noteChanges_afterPages h _

/-- Without a hand-over waiting a page has changed exactly when its bytes differ from those last noted. -/
theorem State.pageMoved_of_agenda_nil (h : s.agenda = []) (p : Nat) :
    s.pageMoved p = decide (s.mgmt.noted[p]? ≠ some (s.pageBytes p)) := by
  simp [State.pageMoved, h]

theorem State.changedPage_of_noted (h : s.mgmt.noted = s.allPages) : s.changedPage = none := by
  unfold State.changedPage
  rw [List.find?_eq_none]
  intro p hp
  have h4 : p < 4 := List.mem_range.1 hp
  simp [State.pageMoved, h, State.allPages, h4]

/-- With every page as it was noted nothing is sent or marked. -/
theorem State.notePages_of_noted (h : s.mgmt.noted = s.allPages) : s.notePages = s := by
  show noteChanges 32 s = s
  unfold noteChanges
  rw [State.changedPage_of_noted h]

/-! ## The end of a command -/

theorem drain_of_empty (h : s.agenda = []) (n : Nat) : drain n s = s := by
  cases n with
  | zero => rfl
  | succ n => unfold drain; rw [h]

/-- A command's effect that hands nothing on is followed by its page changes. -/
theorem State.finish_of_calm (h : s.calm) : s.finish = s.notePages :=
  drain_of_empty ((State.notePages_afterPages h).calm h).1 _

theorem State.finish_afterPages (h : s.calm) : s.AfterPages s.finish := by
  rw [State.finish_of_calm h]; exact State.notePages_afterPages h

/-- In a settled state nothing follows. -/
theorem State.finish_of_settled (h : s.settled) : s.finish = s := by
  rw [State.finish_of_calm h.1, State.notePages_of_noted h.2]

/-- Every well-formed command answers its effect, with all it sets off. -/
theorem run_wellFormed {c : Instr} (h : c.wellFormed = true) (effect : State → State) (s : State) :
    run c effect s = .next (effect s).finish := by unfold run; rw [if_pos h]

/-- A command whose effect leaves a calm state answers it, followed by status pages alone. -/
theorem run_afterPages {c : Instr} {effect : State → State} (hc : c.wellFormed = true) (e : effect s = u) (h : u.calm) :
    ∃ t, run c effect s = .next t ∧ u.AfterPages t := by
  subst e
  exact ⟨_, run_wellFormed hc effect s, State.finish_afterPages h⟩

/-- A command whose effect hands nothing on and changes no page answers exactly that effect. -/
theorem run_settled {c : Instr} {effect : State → State} (hc : c.wellFormed = true) (e : effect s = u) (h : u.settled) :
    run c effect s = .next u := by
  subst e
  rw [run_wellFormed hc, State.finish_of_settled h]

/-- A hand-over at the head of the agenda is taken first, with what it sets off, then the page changes it made. -/
theorem drain_cons {e : Ev} {r : List Ev} (h : s.agenda = e :: r) (n : Nat) :
    drain (n + 1) s = drain n (s.takeHead e r) := by
  conv => lhs; unfold drain
  rw [h]

/-- A hand-over that sets off nothing is followed by those that waited behind it, each followed by its page changes. -/
theorem State.takeHead_of_done {e : Ev} {r : List Ev} (h : handle e { s with agenda := [] } = { t with agenda := [] }) :
    s.takeHead e r = State.notePages { t with agenda := r } := by
  unfold State.takeHead; rw [h]; rfl

/-- A reply is offered at class 1 once the page changes before it are sent (R160). -/
theorem State.answer_afterReply (h : s.calm) (op : MgmtOp) (status : Nat) (q : Request) (w : Word) :
    ∃ v, s.AfterPages v ∧
      s.answer op status q w =
        (v.placeOwn (.queue .portB 1 .reply (op = .reset && status = statusOk))
          (replyFrame v.cfg.mrepBase op.code status q q.index w)).requestEnds := by
  have a := State.finish_afterPages h
  refine ⟨_, a, ?_⟩
  unfold State.answer State.reply State.offerReply
  rw [State.offerOwn_of_disarmed (a.calm h).2]

end

end Sys2Proof.Machine
end

