-- ==== Sys2Proof/Laws/Effects.lean ====
section
/-! SUPPORT. What the operations that several commands share do in a calm state, in the terms of Safety.lean: a valve command frame,
stopping and driving a group, claiming and giving back flow, testing the head of the waiting list. -/

namespace Sys2Proof.Machine

section
variable {s : State}

/-! ## Valve command frames -/

theorem levelByte_eq (l : Nat) : levelByte l = BitVec.ofNat 8 ((l + 2) / 4) := by
  unfold levelByte roundDiv
  rw [if_pos (Int.natCast_nonneg l), show (2 * (l : Int) + 4) / (2 * 4) = (((l + 2) / 4 : Nat) : Int) by omega, Int.toNat_natCast]

theorem ditherDivider_eq (f : Nat) : ditherDivider f = max 39 (min 255 ((2 * 48000 + f) / (2 * f) - 1)) := by
  have e : roundDiv 48000 f = (((2 * 48000 + f) / (2 * f) : Nat) : Int) := by
    rw [roundDiv, if_pos (by decide)]
    push_cast
    rfl
  unfold ditherDivider holdTo
  rw [e]
  generalize (2 * 48000 + f) / (2 * f) = n
  split_ifs <;> omega

theorem State.valveFrame_eq (c : Consumer) : s.valveFrame c = s.commandFrame c (s.valve c) := by
  unfold State.valveFrame State.commandFrame
  dsimp only
  rw [ditherDivider_eq, funext levelByte_eq]

/-- In a calm state the frame goes straight to its slot (R82, R83). -/
theorem State.placeValveFrame_eq (h : s.calm) (c : Consumer) : s.placeValveFrame c = s.placed c (s.valve c) := by
  unfold State.placeValveFrame
  dsimp only
  rw [State.offerOwn_of_disarmed (by exact h.2), State.valveFrame_eq]
  rfl

@[simp] theorem State.calm_placed (c : Consumer) (g : ValveGroup) : (s.placed c g).calm ↔ s.calm := .rfl

theorem State.placed_setValve (c : Consumer) (g k : ValveGroup) : (s.setValve c k).placed c g = s.placed c g := by
  cases c <;> rfl

@[simp] theorem State.calm_stopped (c : Consumer) : (s.stopped c).calm ↔ s.calm := by
  unfold State.stopped; dsimp only; split <;> exact .rfl

@[simp] theorem State.calm_driven (c : Consumer) (set : FnSet) (l : List Nat) (r : Nat) :
    (s.driven c set l r).calm ↔ s.calm := by
  unfold State.driven; dsimp only; split <;> exact .rfl

/-- Stopping a group (R79, R82). -/
theorem State.stopGroup_eq (h : s.calm) (c : Consumer) : s.stopGroup c = s.stopped c := by
  unfold State.stopGroup State.stopped
  dsimp only
  split
  · rw [State.placeValveFrame_eq (by exact h), State.setValve_valve, State.placed_setValve]
  · rfl

/-- Driving a group with a function set and targets (R79, R80, R82). -/
theorem State.driveGroup_setTargets_eq (h : s.calm) (c : Consumer) (set : FnSet) (l : List Nat) (r : Nat) :
    (s.driveGroup c).setTargets c set l r = s.driven c set l r := by
  unfold State.setTargets State.driven State.driveGroup
  simp only [State.setValve_valve, State.setValve_setValve, if_true]
  split
  · rfl
  · rw [State.placeValveFrame_eq (by exact h), State.setValve_valve, State.placed_setValve]

/-! ## Flow -/

theorem Arbiter.busy_iff (x : Arbiter) : x.busy = true ↔ x.inUse := by
  unfold Arbiter.busy Arbiter.inUse
  simp [or_assoc]

/-- A change of grants or waiting list with its high-idle request (R77). -/
theorem State.judgeHighIdle_eq (h : s.calm) (x : Arbiter) : (s.setArbiter x).judgeHighIdle = s.flowChanged x := by
  have off (on : Bool) (t : State) (ht : t.calm) : t.offerHighIdle on = t.offerSlot .portC 0 (highIdleFrame t.cfg.hidleId on) := by
    unfold State.offerHighIdle
    rw [State.offerOwn_of_disarmed ht.2]
    rfl
  unfold State.judgeHighIdle State.flowChanged
  simp only [← Arbiter.busy_iff]
  rw [show (s.setArbiter x).arbiter = x from rfl]
  cases hi : x.highIdle <;> cases hb : x.busy <;> simp <;> try rfl
  rw [off _ _ (by exact h)]
  rfl

/-- A claim withdrawn with nobody else waiting leaves an empty list and grants nobody (R73, R74). -/
theorem Arbiter.withdraw_of_noneWaits {x : Arbiter} {c : Consumer} (h : ∀ e ∈ x.waiting, e.1 = c) :
    x.withdraw c = ({ x with grants := x.grants.put c 0, waiting := [] }, []) := by
  have hf : x.waiting.filter (fun e => decide (e.1 ≠ c)) = [] := by
    rw [List.filter_eq_nil_iff]
    intro e he
    simp [h e he]
  unfold Arbiter.withdraw
  dsimp only
  rw [hf]
  split
  all_goals
    split
    all_goals rfl

/-- A claim of 0 with nobody else waiting (R73). -/
theorem State.claimNone_eq (h : s.calm) {c : Consumer} (hw : s.noneWaitsBut c) : s.claimNone c = s.granted c 0 := by
  unfold State.claimNone State.claim Arbiter.claim
  rw [Arbiter.withdraw_of_noneWaits hw]
  simp only [if_true, List.map_nil, State.postAll_nil]
  exact State.judgeHighIdle_eq h _

/-- A claim that fits is granted at once (R73). -/
theorem State.claim_eq (h : s.calm) {c : Consumer} {d : Nat} (hf : s.fits c d) : s.claim c d = (s.granted c d, true) := by
  obtain ⟨hw, hf⟩ := hf
  unfold State.claim Arbiter.claim
  rw [Arbiter.withdraw_of_noneWaits (by rw [hw]; exact nofun)]
  dsimp only
  by_cases hd : d = 0
  · subst hd
    simp only [if_true, List.map_nil, State.postAll_nil]
    rw [State.judgeHighIdle_eq h]; rfl
  · have hc : (s.arbiter.grants.put c 0).total + d ≤ s.arbiter.capacity := hf.resolve_left hd
    simp only [if_neg hd, List.isEmpty_nil, Bool.true_and, hc, decide_true, if_true, List.map_nil, State.postAll_nil,
      Quad.put_put]
    rw [State.judgeHighIdle_eq h]; rfl

@[simp] theorem State.calm_flowChanged (x : Arbiter) : (s.flowChanged x).calm ↔ s.calm := by
  unfold State.flowChanged
  repeat' split
  all_goals exact .rfl

@[simp] theorem State.calm_granted (c : Consumer) (d : Nat) : (s.granted c d).calm ↔ s.calm := by
  rw [State.granted, State.calm_flowChanged]

/-! ## The waiting list (R74 to R76) -/

/-- The head test grants from the head while the demand fits: those granted are the front of the list, in its order, each fitting
with the grants made so far, and the first left behind does not fit. -/
theorem grantHeads_spec (capacity : Nat) (l : List (Consumer × Nat)) (g : Quad Nat) :
    ∃ front, l = front ++ (grantHeads capacity l g).1 ∧ (grantHeads capacity l g).2.2 = front.map Prod.fst ∧
      (grantHeads capacity l g).2.1 = front.foldl (fun g e => g.put e.1 e.2) g ∧
      (∀ m e r, front = m ++ e :: r → (m.foldl (fun g e => g.put e.1 e.2) g).total + e.2 ≤ capacity) ∧
      ∀ c d r, (grantHeads capacity l g).1 = (c, d) :: r → capacity < (grantHeads capacity l g).2.1.total + d := by
  induction l generalizing g with
  | nil =>
    exact ⟨[], rfl, rfl, rfl,
      fun m e r h => absurd h.symm (List.append_ne_nil_of_right_ne_nil _ (List.cons_ne_nil _ _)), nofun⟩
  | cons e l ih =>
    obtain ⟨c, d⟩ := e
    by_cases hc : g.total + d ≤ capacity
    · obtain ⟨front, h1, h2, h3, h4, h5⟩ := ih (g.put c d)
      refine ⟨(c, d) :: front, ?_, ?_, ?_, ?_, ?_⟩ <;> try simp only [grantHeads, if_pos hc]
      · rw [List.cons_append, ← h1]
      · rw [h2]; rfl
      · rw [h3]; rfl
      · intro m e r h
        match m with
        | [] => cases h; exact hc
        | f :: m => cases h; exact h4 m e r rfl
      · exact h5
    · refine ⟨[], ?_, ?_, ?_, ?_, ?_⟩ <;> try simp only [grantHeads, if_neg hc]
      · rfl
      · rfl
      · rfl
      · exact fun m e r h => absurd h.symm (List.append_ne_nil_of_right_ne_nil _ (List.cons_ne_nil _ _))
      · intro c' d' r hr
        injection hr with h1 h2
        injection h1 with h1 h3
        subst h3
        omega

/-! ## Free orders (assumption 6) -/

/-- What is put in a free order is the same things in some order, and nothing but the count of free values moves. -/
theorem State.permuted_spec {α : Type} (n : Nat) (l : List α) (s : State) :
    (State.permuted n l s).2.Perm l ∧ ∃ k, (State.permuted n l s).1 = { s with freeCount := k } := by
  induction n generalizing l s with
  | zero => exact ⟨.refl l, _, rfl⟩
  | succ n ih =>
    match l with
    | [] => exact ⟨.refl _, _, rfl⟩
    | [x] => exact ⟨.refl _, _, rfl⟩
    | x :: y :: r =>
      have hi : Config.freeChoice s.freeCount % (x :: y :: r).length < (x :: y :: r).length :=
        Nat.mod_lt _ (Nat.succ_pos _)
      obtain ⟨hp, k, hk⟩ := ih ((x :: y :: r).eraseIdx (Config.freeChoice s.freeCount % (x :: y :: r).length))
        { s with freeCount := s.freeCount + 1 }
      refine ⟨?_, k, hk⟩
      refine List.Perm.trans (.cons _ hp) ?_
      rw [List.getD_eq_getElem _ _ hi]
      exact List.getElem_cons_eraseIdx_perm hi

/-- What is put at a free place stands once more among the same things, and nothing but the count of free values moves. -/
theorem State.putAnywhere_spec {α : Type} (s : State) (x : α) (l : List α) :
    (s.putAnywhere x l).2.Perm (x :: l) ∧ ∃ k, (s.putAnywhere x l).1 = { s with freeCount := k } := by
  match l with
  | [] => exact ⟨.refl _, _, rfl⟩
  | y :: r =>
    refine ⟨?_, _, rfl⟩
    refine List.perm_middle.trans (.cons _ ?_)
    rw [List.take_append_drop]

/-- Events handed on in a free order join the agenda, all of them, in some order. -/
theorem State.postAnyOrder_spec (es : List Ev) (s : State) :
    ∃ (l : List Ev) (k : Nat), l.Perm es ∧ s.postAnyOrder es = { s with agenda := s.agenda ++ l, freeCount := k } := by
  obtain ⟨hp, k, hk⟩ := State.permuted_spec es.length es s
  refine ⟨_, k, hp, ?_⟩
  unfold State.postAnyOrder State.inAnyOrder State.postAll
  dsimp only
  rw [hk]

/-- One of two events is taken first; nothing but the count of free values moves. -/
theorem State.eitherFirst_spec (s : State) : ∃ b, s.eitherFirst = ({ s with freeCount := s.freeCount + 1 }, b) := ⟨_, rfl⟩

/-- A frame forwarded and delivered is forwarded first, or, where its delivery leaves its gate open, last of all that the delivery sets
off (R10, R18). -/
theorem State.forwardAndDeliver_spec (s : State) (i : Nat) (e : RouteEntry) (p : PortId) (f : Frame) :
    ∃ t, t = { s with freeCount := s.freeCount + 1 } ∧
      (s.forwardAndDeliver i e p f = (t.forwardFrame p e.cls f).deliver i e.consumer f ∨
        (t.deliver i e.consumer f).gateOpen e.gate = true ∧
          s.forwardAndDeliver i e p f = (t.deliver i e.consumer f).post (.forward p e.cls f)) := by
  obtain ⟨b, hb⟩ := s.eitherFirst_spec
  refine ⟨_, rfl, ?_⟩
  unfold State.forwardAndDeliver
  rw [hb]
  cases b
  · by_cases h : (({ s with freeCount := s.freeCount + 1 } : State).deliver i e.consumer f).gateOpen e.gate = true
    · exact .inr ⟨h, if_pos h⟩
    · exact .inl (if_neg h)
  · exact .inl rfl

/-- A frame whose delivery takes its own gate away is forwarded first (R18). -/
theorem State.forwardAndDeliver_of_gateTaken {i : Nat} {e : RouteEntry} {p : PortId} {f : Frame} {t : State}
    (ht : t = { s with freeCount := s.freeCount + 1 }) (h : (t.deliver i e.consumer f).gateOpen e.gate = false) :
    s.forwardAndDeliver i e p f = (t.forwardFrame p e.cls f).deliver i e.consumer f := by
  obtain ⟨u, hu, k | ⟨hg, -⟩⟩ := s.forwardAndDeliver_spec i e p f
  · rw [k, hu, ht]
  · rw [hu, ← ht, h] at hg; cases hg

/-- An admitted arm faults when ARM_POS is unavailable or port B is OFF, with the code of one that holds (R48). -/
theorem State.admissionFault_spec (s : State) (a : ArmId) :
    (∃ k, (s.admissionFault a).1 = { s with freeCount := k }) ∧
    ((s.admissionFault a).2 = none ↔ s.roleValue a.posRole ≠ none ∧ (s.port .portB).state ≠ .off) ∧
    ∀ code, (s.admissionFault a).2 = some code →
      (code = .positionLost ∧ s.roleValue a.posRole = none) ∨ (code = .bodyPortOff ∧ (s.port .portB).state = .off) := by
  obtain ⟨b, hb⟩ := s.eitherFirst_spec
  unfold State.admissionFault
  rw [hb]
  cases hp : s.roleValue a.posRole <;> by_cases hs : (s.port .portB).state = .off <;> simp only [hs, decide_true, decide_false]
  · refine ⟨⟨_, rfl⟩, by simp, ?_⟩
    cases b
    · rintro _ ⟨⟩; exact .inr ⟨rfl, trivial⟩
    · rintro _ ⟨⟩; exact .inl ⟨rfl, trivial⟩
  · exact ⟨⟨_, rfl⟩, by simp, by rintro _ ⟨⟩; exact .inl ⟨rfl, trivial⟩⟩
  · exact ⟨⟨_, rfl⟩, by simp, by rintro _ ⟨⟩; exact .inr ⟨rfl, trivial⟩⟩
  · exact ⟨⟨_, rfl⟩, by simp [hs], nofun⟩

/-- A hold is handed to the Weighing Units, then, before anything else, to the arms and the chambers in some order, a quiet request
that it drops standing anywhere among them (R156). -/
theorem State.takeHold_spec (s : State) :
    ∃ (l : List Ev) (k : Nat),
      l.Perm ((if s.quietRaised then [.quietChanged .chamber0, .quietChanged .chamber1] else []) ++ holdTakers) ∧
      s.takeHold = { s.holdWeighing with agenda := l ++ s.holdWeighing.agenda, freeCount := k } := by
  obtain ⟨hp, k, hk⟩ := State.permuted_spec holdTakers.length holdTakers s.holdWeighing
  unfold State.takeHold State.inAnyOrder
  dsimp only
  rw [hk]
  cases s.quietRaised
  · exact ⟨_, k, hp, rfl⟩
  · obtain ⟨hp0, k0, hk0⟩ := State.putAnywhere_spec { s.holdWeighing with freeCount := k } (.quietChanged .chamber0)
      (State.permuted holdTakers.length holdTakers s.holdWeighing).2
    rw [if_pos rfl, hk0]
    dsimp only
    obtain ⟨hp1, k1, hk1⟩ := State.putAnywhere_spec { s.holdWeighing with freeCount := k0 } (.quietChanged .chamber1)
      (State.putAnywhere { s.holdWeighing with freeCount := k } (.quietChanged .chamber0)
        (State.permuted holdTakers.length holdTakers s.holdWeighing).2).2
    rw [hk1]
    refine ⟨_, k1, hp1.trans (.trans (.cons _ hp0) (.trans (.swap _ _ _) (.cons _ (.cons _ hp)))), rfl⟩

end

end Sys2Proof.Machine
end

