-- ==== Sys2Proof/Laws/Exec.lean ====
section
/-! SUPPORT. Each command as `run` with its effect: what `exec` answers for it, by definition. -/

namespace Sys2Proof.Machine

theorem exec_powerOn (jumper : Bool) (s : State) : exec (.powerOn jumper) s = .next (s.poweredOn jumper) := rfl
theorem exec_warmReset (s : State) : exec .warmReset s = .next s.warmStart := rfl

theorem exec_frameArrival (p : PortId) (f : BusFrame) (s : State) :
    exec (.frameArrival p f) s = run (.frameArrival p f) (fun s => s.frameArrives p f) s := rfl

theorem exec_frameTaken (p : PortId) (s : State) :
    exec (.frameTaken p) s = run (.frameTaken p) (fun s => s.takeFrame p) s := rfl

theorem exec_start (a : ArmId) (args : List Byte) (s : State) :
    exec (.start a args) s = run (.start a args) (fun s => s.unlessHeld (fun s => s.startCommand a args)) s := rfl

theorem exec_pauseArm (a : ArmId) (s : State) :
    exec (.pauseArm a) s = run (.pauseArm a) (fun s => s.unlessHeld (fun s => s.pauseCommand a)) s := rfl

theorem exec_continueArm (a : ArmId) (s : State) :
    exec (.continueArm a) s = run (.continueArm a) (fun s => s.unlessHeld (fun s => s.continueCommand a)) s := rfl

theorem exec_abortArm (a : ArmId) (s : State) :
    exec (.abortArm a) s = run (.abortArm a) (fun s => s.unlessHeld (fun s => s.abortCommand a)) s := rfl

theorem exec_manualEnter (a : ArmId) (s : State) :
    exec (.manualEnter a) s = run (.manualEnter a) (fun s => s.unlessHeld (fun s => s.enterManual a)) s := rfl

theorem exec_manualExit (a : ArmId) (s : State) :
    exec (.manualExit a) s = run (.manualExit a) (fun s => s.unlessHeld (fun s => s.exitManual a)) s := rfl

theorem exec_faultClear (a : ArmId) (s : State) :
    exec (.faultClear a) s = run (.faultClear a) (fun s => s.unlessHeld (fun s => s.armFaultClear a)) s := rfl

theorem exec_packNow (args : List Byte) (s : State) :
    exec (.packNow args) s = run (.packNow args) (fun s => s.unlessHeld (fun s => s.toChamber args State.packNow)) s := rfl

theorem exec_discharged (args : List Byte) (s : State) :
    exec (.discharged args) s = run (.discharged args) (fun s => s.unlessHeld (fun s => s.toChamber args State.discharge)) s := rfl

theorem exec_chamberFaultClear (args : List Byte) (s : State) :
    exec (.chamberFaultClear args) s = run (.chamberFaultClear args) (fun s => s.unlessHeld (fun s => s.toChamber args State.chamberFaultClear)) s := rfl

theorem exec_errorPassive (p : PortId) (s : State) :
    exec (.errorPassive p) s = run (.errorPassive p) (fun s => s.setPort p (s.port p).toPassive) s := rfl

theorem exec_returnToActive (p : PortId) (s : State) :
    exec (.returnToActive p) s = run (.returnToActive p) (fun s => s.setPort p (s.port p).toActive) s := rfl

theorem exec_busOff (p : PortId) (s : State) :
    exec (.busOff p) s = run (.busOff p) (fun s => s.goBusOff p) s := rfl

theorem exec_recoveryTimerExpiry (p : PortId) (s : State) :
    exec (.recoveryTimerExpiry p) s = run (.recoveryTimerExpiry p) (fun s => s.recover p) s := rfl

theorem exec_transmissionEnd (p : PortId) (s : State) :
    exec (.transmissionEnd p) s = run (.transmissionEnd p) (fun s => s.endTransmission p) s := rfl

theorem exec_freshnessLimitExpiry (i : Nat) (s : State) :
    exec (.freshnessLimitExpiry i) s = run (.freshnessLimitExpiry i) (fun s => s.freshnessExpired i) s := rfl

theorem exec_holdTimeExpiry (i : Nat) (s : State) :
    exec (.holdTimeExpiry i) s = run (.holdTimeExpiry i) (fun s => s.holdExpired i) s := rfl

theorem exec_oneSecondTimerExpiry (s : State) :
    exec .oneSecondTimerExpiry s = run .oneSecondTimerExpiry State.secondPassed s := rfl

theorem exec_trueDelayExpiry (g : Nat) (s : State) :
    exec (.trueDelayExpiry g) s = run (.trueDelayExpiry g) (fun s => s.delayExpired g) s := rfl

theorem exec_stepTimerExpiry (a : ArmId) (s : State) :
    exec (.stepTimerExpiry a) s = run (.stepTimerExpiry a) (fun s => s.stepTimeout a) s := rfl

theorem exec_durationTimerExpiry (a : ArmId) (s : State) :
    exec (.durationTimerExpiry a) s = run (.durationTimerExpiry a) (fun s => s.durationRun a) s := rfl

theorem exec_repeatTimerExpiry (s : State) :
    exec .repeatTimerExpiry s = run .repeatTimerExpiry State.repeatHighIdle s := rfl

theorem exec_runDownTimerExpiry (s : State) :
    exec .runDownTimerExpiry s = run .runDownTimerExpiry State.endRunDown s := rfl

theorem exec_valveTick (s : State) :
    exec .valveTick s = run .valveTick State.tick s := rfl

theorem exec_stillFrameInterval (c : Consumer) (s : State) :
    exec (.stillFrameInterval c) s = run (.stillFrameInterval c) (fun s => s.stillFrame c) s := rfl

theorem exec_gapTimerExpiry (a : ArmId) (s : State) :
    exec (.gapTimerExpiry a) s = run (.gapTimerExpiry a) (fun s => s.gapExpired a) s := rfl

theorem exec_phaseTimerExpiry (c : ChamberId) (s : State) :
    exec (.phaseTimerExpiry c) s = run (.phaseTimerExpiry c) (fun s => s.phaseExpired c) s := rfl

theorem exec_quietTimerExpiry (c : ChamberId) (s : State) :
    exec (.quietTimerExpiry c) s = run (.quietTimerExpiry c) (fun s => s.quietExpired c) s := rfl

theorem exec_periodTimerExpiry (page : Nat) (s : State) :
    exec (.periodTimerExpiry page) s = run (.periodTimerExpiry page) (fun s => s.periodExpired page) s := rfl

theorem exec_spacingTimerExpiry (page : Nat) (s : State) :
    exec (.spacingTimerExpiry page) s = run (.spacingTimerExpiry page) (fun s => s.spacingExpired page) s := rfl

theorem exec_binUpdateComplete (s : State) :
    exec .binUpdateComplete s = run .binUpdateComplete State.completeUpdate s := rfl

theorem exec_identify (q : Request) (s : State) :
    exec (.identify q) s = run (.identify q) (fun s => s.manage .identify q) s := rfl

theorem exec_examine (q : Request) (s : State) :
    exec (.examine q) s = run (.examine q) (fun s => s.manage .examine q) s := rfl

theorem exec_deposit (q : Request) (s : State) :
    exec (.deposit q) s = run (.deposit q) (fun s => s.manage .deposit q) s := rfl

theorem exec_insertBin (q : Request) (s : State) :
    exec (.insertBin q) s = run (.insertBin q) (fun s => s.manage .insert q) s := rfl

theorem exec_removeBin (q : Request) (s : State) :
    exec (.removeBin q) s = run (.removeBin q) (fun s => s.manage .remove q) s := rfl

theorem exec_release (q : Request) (s : State) :
    exec (.release q) s = run (.release q) (fun s => s.manage .release q) s := rfl

theorem exec_day (q : Request) (s : State) :
    exec (.day q) s = run (.day q) (fun s => s.manage .day q) s := rfl

theorem exec_stepArm (q : Request) (s : State) :
    exec (.stepArm q) s = run (.stepArm q) (fun s => s.manage .step q) s := rfl

theorem exec_watchContinueProcess (q : Request) (s : State) :
    exec (.watchContinueProcess q) s = run (.watchContinueProcess q) (fun s => s.manage .watchContinue q) s := rfl

theorem exec_watchContinueDiscard (q : Request) (s : State) :
    exec (.watchContinueDiscard q) s = run (.watchContinueDiscard q) (fun s => s.manage .watchContinue q) s := rfl

theorem exec_lock (q : Request) (s : State) :
    exec (.lock q) s = run (.lock q) (fun s => s.manage .lock q) s := rfl

theorem exec_reset (q : Request) (s : State) :
    exec (.reset q) s = run (.reset q) (fun s => s.manage .reset q) s := rfl

theorem exec_clear (q : Request) (s : State) :
    exec (.clear q) s = run (.clear q) (fun s => s.manage .clear q) s := rfl

theorem exec_portClear (q : Request) (s : State) :
    exec (.portClear q) s = run (.portClear q) (fun s => s.manage .port q) s := rfl

theorem exec_portSet (q : Request) (s : State) :
    exec (.portSet q) s = run (.portSet q) (fun s => s.manage .port q) s := rfl

theorem exec_portRestart (q : Request) (s : State) :
    exec (.portRestart q) s = run (.portRestart q) (fun s => s.manage .port q) s := rfl

end Sys2Proof.Machine
end

