-- ==== Sys2Proof/Tests/Slice0.lean ====
section
/-! SUPPORT. The model's own tests: the WellFormed smoke, the manual's worked examples, one-step checks, and for each obligation
with hypotheses a concrete state and operands that meet them all. -/

namespace Sys2Proof.Tests

open Sys2Proof Sys2Proof.Machine

-- One theorem at a time: a hundred kernel evaluations waiting at once need more threads than a check may have.
set_option Elab.async false

/-! ## Helpers -/

/-- The outcome is a next state. -/
def answers : Host.Outcome State Fault Refusal → Bool
  | .next _ => true
  | .fault _ => false
  | .refused _ => false

theorem next_of_answers {o : Host.Outcome State Fault Refusal} (h : answers o = true) : ∃ t, o = .next t := by
  cases o with
  | next t => exact ⟨t, rfl⟩
  | fault r => cases h
  | refused r => cases h

/-- The command is refused as no command of the block. -/
def isRefused : Host.Outcome State Fault Refusal → Bool
  | .refused .notACommand => true
  | .refused (.notModelled _) => false
  | .next _ => false
  | .fault _ => false

/-- The state after a command; the state itself when it is not run. -/
def after (c : Instr) (s : State) : State :=
  match exec c s with
  | .next t => t
  | .fault _ => s
  | .refused _ => s

/-- A request of node 3 with table, word, index and value. -/
def req (table word index value : Nat) : Request :=
  { node := 3, tableWord := BitVec.ofNat 8 (table * 16 + word), index := BitVec.ofNat 16 index,
    value := BitVec.ofNat 32 value }

/-- A frame of 8 bytes with identifier 5. -/
def frame8 : Frame := { id := 5, data := [1, 2, 3, 4, 5, 6, 7, 8] }

/-- A status page waiting in a queue. -/
def pageInQueue : QFrame := { frame := frame8, cls := 2, origin := .status, ofReset := false }

/-! ## States -/

/-- The status pages noted as they stand, as they are between commands. -/
def settle (s : State) : State := s.setMgmt { s.mgmt with noted := s.allPages }

/-- The reset state with no role bound and a free transmitter on port B. -/
def base : State :=
  { State.reset with
    cfg := { ConfigTable.delivered with roles := List.replicate 16 none }
    ports := { State.reset.ports with snd := .fresh 250 4 } }

def withArm (f : Arm → Arm) (s : State) : State := s.setArm .armA (f (s.arm .armA))
def withChamber (f : Chamber → Chamber) (s : State) : State := s.setChamber .chamber0 (f (s.chamber .chamber0))
def withPort (f : Port → Port) (s : State) : State := s.setPort .portC (f (s.port .portC))
def withPortB (f : Port → Port) (s : State) : State := s.setPort .portB (f (s.port .portB))
def withWeigh (f : WeighUnit → WeighUnit) (s : State) : State := s.setWeighUnit .armA (f (s.weighUnit .armA))
def withValve (c : Consumer) (f : ValveGroup → ValveGroup) (s : State) : State := s.setValve c (f (s.valve c))

/-- A RUNNING arm's or chamber's group. -/
def drivenGroup (g : ValveGroup) : ValveGroup :=
  { g with driving := true, functions := 4, targets := [0, 0, 500, 0, 0, 0], levels := [0, 0, 40, 0, 0, 0], ramp := 50 }

/-- Frame Watch HELD by entry 0. -/
def heldState : State := base.setWatch { base.watch with isHeld := true, holdEntry := some 0 }

/-- SERVICE level, as last judged. -/
def service : State := settle (base.setMgmt { base.mgmt with service := true })

def positionStep : StepEntry :=
  { valid := true, functions := 4, level := 500, ramp := 50, demand := 3, endKind := .position, endParam := 0,
    timeLimit := 4000, onTimeout := .fault, loopCount := 0, loopDistance := 1 }

def fixedStep (k : EndKind) : StepEntry :=
  { valid := true, functions := 0, level := 0, ramp := 1, demand := 0, endKind := k, endParam := 0, timeLimit := 2000,
    onTimeout := .fault, loopCount := 0, loopDistance := 1 }

def timeStep : StepEntry := { positionStep with endKind := .time, endParam := 300 }

/-- Program 0: position, TAG, position, TIP_MARK. Program 1: one TIME step. Program 2: WEIGH_GROSS, position. Every role group
bound to group 1, which is TRUE; ARM_A_POS bound to a FRESH signal; capacity 10. -/
def ready : State :=
  { service with
    cfg := { service.cfg with
      roles := (List.replicate 16 none).set 7 (some 0), roleGroups := List.replicate 10 1, cIdle := 10, cBoost := 10,
      chambers := { fst := { ChamberSettings.delivered with sweepEnd := 900, sweepFns := 4, sweepLevel := 600, strokeDemand := 4 },
                    snd := .delivered } },
    arbiter := .fresh 10,
    signals := service.signals.set 0 { SignalEntry.cleared with valid := true, value := some 500, state := .fresh },
    groups := service.groups.set 0 { GroupEntry.cleared with valid := true, state := .isTrue },
    steps := [positionStep, fixedStep .tag, positionStep, fixedStep .tipMark, timeStep, fixedStep .weighGross, positionStep] ++
      List.replicate 185 .cleared,
    programs := [{ valid := true, firstStep := 0, stepCount := 4, returnStep := 3 },
                 { valid := true, firstStep := 4, stepCount := 1, returnStep := 1 },
                 { valid := true, firstStep := 5, stepCount := 2, returnStep := 1 }] ++ List.replicate 13 .cleared,
    select := List.replicate 8 (some 0) }

/-- The OPEN record of arm A. -/
def openLift : LogRecord := { LogRecord.blank .lift false 0 false with seq := 1 }

/-- Arm A in cycle in a state, with its record OPEN. -/
def inCycle (st : ArmState) (program position : Nat) : State :=
  let s := withArm (fun x => { x with
    state := st, program := some program, position := some position, openRecord := some 1,
    stepTimer := { running := st = .running, left := 3000 },
    durationTimer := { running := decide (st = .running ∧ program = 1), left := 300 } }) ready
  let s := if st = .running then withValve .armA drivenGroup s else s
  settle (s.setLog { s.log with records := [openLift], nextSeq := 2 })

/-- The same state with every role group no longer given. -/
def ungiven (s : State) : State := { s with groups := base.groups }

def running : State := inCycle .running 0 1
def paused : State := inCycle .paused 0 1
def lastTime : State := inCycle .running 1 1

/-- Arm A in MANUAL. -/
def manual : State :=
  settle (withValve .armA drivenGroup (withArm (fun x => { x with state := .manual, manualGranted := true }) ready))

/-- Arm A's gross window OPEN in single-step operation. -/
def weighing : State :=
  withWeigh (fun u => { u with
      state := .collectGross, record := some 1, lengthInForce := 8, isOpen := true, gapTimer := .start 100, quiet := true })
    (withArm (fun x => { x with singleStep := true }) (inCycle .running 2 1))

/-- Chamber 0 in a phase of its stroke. -/
def stroking (st : ChamberState) (p : StrokePhase) : State :=
  let s := withChamber (fun x => { x with
    state := st, phase := p, phaseTimer := { running := st.isPhase, left := 90 },
    quietTimer := { running := decide (st = .quiet), left := 500 }, quieted := decide (st = .quiet), grantFlag := true,
    entered := true }) ready
  settle (if st.isPhase then withValve .packer0 drivenGroup s else s)

def faultedChamber : State := settle (withChamber (fun x => { x with state := .faulted, fault := .strokeTimeout }) base)

/-- A CLOSED record with number `n`. -/
def closedRecord (n : Nat) : LogRecord := { LogRecord.blank .lift false 0 false with seq := n, closed := true }

def bin (tag : Nat) : BinEntry := .ofData { BinData.zero with tag, household := 9 }

def twoBins : State := base.setBins { base.bins with entries := [bin 7, bin 9] }

/-- Port C's FIFO holds one frame. -/
def oneFrame (f : Frame) (s : State) : State := withPort (fun x => { x with fifo := [f] }) s

/-- A route entry from port C that consumes every frame for `k`. -/
def routeTo (k : RouteConsumer) (gate : Nat) : RouteEntry :=
  { RouteEntry.cleared with valid := true, action := .consume, consumer := k, gate }

/-- Port C's FIFO holds a frame and entry 0 consumes it for `k`. -/
def routed (k : RouteConsumer) (gate : Nat) (f : Frame) : State :=
  let s := oneFrame f base
  { s with routes := s.routes.set 0 (routeTo k gate) }

/-- A tag frame of tag 9 with quality 1. -/
def tagFrame9 : Frame := { id := 5, data := [0, 0, 0, 9, 1] }

/-! ## Well-formedness: each check refuses an ill-formed term -/

theorem test_refuses_nine_bytes :
    isRefused (exec (.frameArrival .portC (.extended { id := 0, data := List.replicate 9 0 })) State.reset) = true := by
  decide +kernel

theorem test_accepts_eight_bytes : (Instr.frameArrival .portC (.extended frame8)).wellFormed = true := by decide

theorem test_refuses_long_arguments :
    isRefused (exec (.start .armA (List.replicate 8 0)) State.reset) = true ∧
    isRefused (exec (.packNow (List.replicate 8 0)) State.reset) = true ∧
    isRefused (exec (.discharged (List.replicate 8 0)) State.reset) = true ∧
    isRefused (exec (.chamberFaultClear (List.replicate 8 0)) State.reset) = true := by decide +kernel

theorem test_refuses_signal_index_64 :
    isRefused (exec (.freshnessLimitExpiry 64) State.reset) = true ∧
    isRefused (exec (.holdTimeExpiry 64) State.reset) = true := by decide +kernel

theorem test_refuses_group_0_and_33 :
    isRefused (exec (.trueDelayExpiry 0) State.reset) = true ∧
    isRefused (exec (.trueDelayExpiry 33) State.reset) = true := by decide +kernel

theorem test_refuses_page_4 :
    isRefused (exec (.periodTimerExpiry 4) State.reset) = true ∧
    isRefused (exec (.spacingTimerExpiry 4) State.reset) = true := by decide +kernel

theorem test_refuses_watch_continue_of_other_value :
    isRefused (exec (.watchContinueProcess (req 0 0 0 0)) State.reset) = true ∧
    isRefused (exec (.watchContinueDiscard (req 0 0 0 1)) State.reset) = true := by decide +kernel

theorem test_refuses_port_of_other_value :
    isRefused (exec (.portClear (req 0 0 0 1)) State.reset) = true ∧
    isRefused (exec (.portSet (req 0 0 0 0)) State.reset) = true ∧
    isRefused (exec (.portRestart (req 0 0 0 1)) State.reset) = true := by decide +kernel

/-! ## The manual's worked examples -/

/-- R24: 7204 with 1 / 8 is 901; −5 with 1 / 2 is −3. -/
theorem test_scaling_rounds_half_away : roundDiv 7204 8 = 901 ∧ roundDiv (-5) 2 = -3 := by decide

/-- Section 2.2: the frame and its four entries. -/
def chassisFrame : Frame := { id := 0x0CF00400, data := [0x3A, 0x24, 0x1C, 0xFF, 0x06, 0x00, 0x81, 0x04] }
def entry4 : SignalEntry := { SignalEntry.cleared with valid := true, startBit := 8, width := 16, denominator := 8 }
def entry5 : SignalEntry :=
  { SignalEntry.cleared with valid := true, startBit := 24, width := 16, order := .msbFirst, isSigned := true }
def entry6 : SignalEntry := { SignalEntry.cleared with valid := true, startBit := 48, width := 4 }
def entry7 : SignalEntry :=
  { SignalEntry.cleared with
    valid := true, startBit := 52, width := 12, order := .msbFirst, numerator := 5, denominator := 2, offset := -100,
    clampLow := 0, clampHigh := 500 }

theorem test_signals_of_section_2_2 :
    (entry4.take chassisFrame).value = some 901 ∧ (entry5.take chassisFrame).value = some (-250) ∧
    (entry6.take chassisFrame).value = some 1 ∧ (entry7.take chassisFrame).value = some 500 ∧
    (entry7.take chassisFrame).clamped = true := by decide

/-- Section 2.2: with data length 6 entry 5 still updates and entry 6 counts a short frame. -/
theorem test_short_frame_of_section_2_2 :
    (entry5.take { chassisFrame with data := chassisFrame.data.take 6 }).value = some (-250) ∧
    (entry6.take { chassisFrame with data := chassisFrame.data.take 6 }).shortFrames = 1 := by decide

/-- Section 1.5: entries 0 to 4, and the winners of the six frames. -/
def exampleRoutes : List RouteEntry :=
  [{ RouteEntry.cleared with valid := true, source := .portB, matchId := 0x18FF1000, mask := 0x1FFFFFF0 },
   { RouteEntry.cleared with valid := true, source := .portB, matchId := 0x18FF1010, mask := 0x1FFFFFF0 },
   { RouteEntry.cleared with valid := true, source := .portC, matchId := 0x0CF00400, mask := 0x1FFFFFFF },
   { RouteEntry.cleared with valid := true, source := .any, matchId := 0x18FEF000, mask := 0x1FFFF000 },
   { RouteEntry.cleared with valid := true, source := .portC, matchId := 0, mask := 0 }]

theorem test_lookup_of_section_1_5 :
    winner exampleRoutes .portB { id := 0x18FF1003, data := [] } = some 0 ∧
    winner exampleRoutes .portB { id := 0x18FF1013, data := [] } = some 1 ∧
    winner exampleRoutes .portC { id := 0x0CF00400, data := [] } = some 2 ∧
    winner exampleRoutes .portC { id := 0x18FEF123, data := [] } = some 3 ∧
    winner exampleRoutes .portC { id := 0x18FF1003, data := [] } = some 4 ∧
    winner exampleRoutes .portB { id := 0x18FEAA00, data := [] } = none := by decide

/-- R83: the level bytes of 1, 2, 6, 50, 150 and 1000. -/
theorem test_level_bytes :
    levelByte 1 = 0 ∧ levelByte 2 = 1 ∧ levelByte 6 = 2 ∧ levelByte 50 = 13 ∧ levelByte 150 = 38 ∧ levelByte 1000 = 250 := by
  decide

/-- Table 4-4: the dither divider. -/
theorem test_dither_dividers :
    ditherDivider 150 = 255 ∧ ditherDivider 250 = 191 ∧ ditherDivider 330 = 144 ∧ ditherDivider 400 = 119 ∧
    ditherDivider 1500 = 39 := by decide

/-- R66: Fa = 3, Fb = 4: JOY 500 gives 375, 40 gives 0, −1000 is held to the greatest level. -/
theorem test_joystick_targets :
    joyTarget { ArmSettings.delivered with fa := 3, fb := 4, manualMax := 600 } 500 = 375 ∧
    joyTarget { ArmSettings.delivered with fa := 3, fb := 4, manualMax := 600 } 40 = 0 ∧
    joyTarget { ArmSettings.delivered with fa := 3, fb := 4, manualMax := 600 } (-1000) = -600 := by decide

/-- Section 6.5: the calibration of the worked case. -/
def workedCal : ArmCalibration :=
  { zero := 12000, gain := 19661, capacityKg := 500, tiltLimit := 300, windowLength := 8, settleBand := 40 }
def workedFactors : List Nat := [65536, 65540, 65576, 65626] ++ List.replicate 12 65626

/-- Section 6.5: gross 120,224 g and tare 10,873 g, net 2,187 divisions. -/
theorem test_weights_of_section_6_5 :
    windowGrams workedCal workedFactors 250 (List.replicate 8 412345) 8 = 120224 ∧
    windowGrams workedCal workedFactors 240 (List.replicate 8 48210) 8 = 10873 ∧
    netOf workedCal 50 120224 10873 false = (2187, {}) := by decide +kernel

/-- R117: 500,450 g is not over range, 500,451 g is. R118: the net is held to 10,000 divisions. -/
theorem test_over_range_limits :
    grossOver workedCal 50 500450 = false ∧ grossOver workedCal 50 500451 = true ∧
    (netOf workedCal 50 500100 0 false).1 = 10000 := by decide +kernel

/-- Section 8.2: a record of the worked charges. -/
def tipped (d : Decision) (n : Nat) : LogRecord :=
  { LogRecord.blank .lift false 0 false with decision := d, nDiv := some n, flags := { tipped := true } }

/-- Section 8.2: the charges with r = 240, f = 500, u = 1200, d = 50. -/
theorem test_worked_charges :
    let t : TariffEntry := { rate := 240, liftFee := 500, unweighedFee := 1200 }
    liftCharge t 50 (tipped .accept 2187) = 26740 ∧ liftCharge t 50 (tipped .relift 2187) = 26240 ∧
    liftCharge t 50 (tipped .accept 1640) = 20180 ∧ liftCharge t 50 (tipped .accept 21) = 750 ∧
    liftCharge t 50 (tipped .accept 2189) = 26770 ∧ liftCharge t 50 (tipped .unknown 2187) = 0 ∧
    liftCharge t 50 { tipped .accept 2187 with flags := { tipped := true, gTilt := true } } = 1200 ∧
    liftCharge t 50 { tipped .relift 2187 with flags := { tipped := true, noTare := true } } = 0 ∧
    liftCharge t 50 { tipped .accept 2187 with flags := {} } = 0 := by decide +kernel

/-- R148: 1000 covers 950 and not 1001; 5 covers 4,294,967,290 across the wrap; 0 covers nothing. -/
theorem test_coverage :
    covered 1000 950 = true ∧ covered 1000 1001 = false ∧ covered 5 4294967290 = true ∧ covered 0 1 = false := by
  decide +kernel

/-- R139: after 4,294,967,295 comes 1. -/
theorem test_sequence_wraps : nextSequence 4294967295 = 1 ∧ nextSequence 1 = 2 := by decide

/-- The published check value of the CRC R145 describes, over the ASCII digits 1 to 9. -/
theorem test_crc_check_value : crc16 [0x31, 0x32, 0x33, 0x34, 0x35, 0x36, 0x37, 0x38, 0x39] = 0x29B1 := by decide +kernel

/-! ## One step at a time -/

/-- R7, section 1.6 event 1: a class-1 frame offered to a full queue takes the place of the newest class-3 frame. -/
def fullQueue : Port :=
  { Port.fresh 250 4 with
    transmitter := some (.fromSlot 0 frame8),
    queue := List.replicate 20 { pageInQueue with cls := 0, origin := .forwarded } ++ List.replicate 3 pageInQueue ++
      List.replicate 25 { pageInQueue with cls := 3, origin := .forwarded } }

theorem test_full_queue_evicts :
    ((withPortB (fun _ => fullQueue) base).offerQueue .portB { pageInQueue with cls := 1, origin := .reply }).ports.snd.queue =
      List.replicate 20 { pageInQueue with cls := 0, origin := .forwarded } ++ [{ pageInQueue with cls := 1, origin := .reply }] ++
        List.replicate 3 pageInQueue ++ List.replicate 24 { pageInQueue with cls := 3, origin := .forwarded } := by
  decide +kernel

/-- Section 1.6 event 2: a class-3 frame is dropped. -/
theorem test_full_queue_drops :
    ((withPortB (fun _ => fullQueue) base).offerQueue .portB { pageInQueue with cls := 3 }).ports.snd.counters.txDrop =
      [0, 0, 0, 1] := by decide +kernel

theorem test_power_on_unlocks : (after (.powerOn true) State.delivered).cal.counter = 1 := by decide +kernel

theorem test_warm_reset_interrupts :
    (after .warmReset running).log.records.map LogRecord.outcome = [.interrupted] := by decide +kernel

theorem test_sample_joins_window :
    ((after (.frameTaken .portC)
      { weighing with
        ports := (routed .weighA 0 { id := 5, data := [0, 1, 2] }).ports,
        routes := (routed .weighA 0 frame8).routes }).weighUnit .armA).window = [258] := by decide +kernel

theorem test_start_runs : ((after (.start .armA [1]) ready).arm .armA).state = .running := by decide +kernel

theorem test_start_grants : (after (.start .armA [1]) ready).arbiter.grants.q0 = 3 := by decide +kernel

theorem test_pause_keeps_remainder :
    ((after (.pauseArm .armA) running).arm .armA).stepTimer = { running := false, left := 3000 } := by decide +kernel

theorem test_continue_resumes : ((after (.continueArm .armA) paused).arm .armA).state = .running := by decide +kernel

theorem test_abort_closes :
    (after (.abortArm .armA) running).log.records.map LogRecord.outcome = [.aborted] := by decide +kernel

theorem test_manual_enter : ((after (.manualEnter .armA) ready).arm .armA).state = .manual := by decide +kernel

theorem test_manual_exit : ((after (.manualExit .armA) manual).valve .armA).levels = List.replicate 6 0 := by decide +kernel

theorem test_pack_now_sweeps : ((after (.packNow [0]) ready).chamber .chamber0).state = .sweep := by decide +kernel

theorem test_pack_now_no_chamber : (after (.packNow [2]) ready).chbCmdBad = 1 := by decide +kernel

theorem test_discharged_writes :
    (after (.discharged [0]) { ready with cfg := { ready.cfg with chambers := ready.cfg.chambers } }).log.records.map
      LogRecord.kind = [.discharge] := by decide +kernel

theorem test_bus_off_faults_the_arm : ((after (.busOff .portB) running).arm .armA).fault = .bodyPortOff := by decide +kernel

theorem test_step_timeout : ((after (.stepTimerExpiry .armA) running).arm .armA).fault = .stepTimeout := by decide +kernel

theorem test_duration_completes :
    (after (.durationTimerExpiry .armA) lastTime).log.records.map LogRecord.outcome = [.completed] := by decide +kernel

/-- R81: ramp 50 toward 500 from 40. -/
theorem test_valve_tick_ramps : ((after .valveTick running).valve .armA).levels = [0, 0, 90, 0, 0, 0] := by decide +kernel

theorem test_gap_ends_window :
    (after (.gapTimerExpiry .armA) (withWeigh (fun u => { u with quiet := false }) weighing)).log.records.map
      (fun r => r.flags.loadcellLost) = [true] := by decide +kernel

theorem test_phase_timeout :
    ((after (.phaseTimerExpiry .chamber0) (stroking .sweep .sweep)).chamber .chamber0).fault = .strokeTimeout := by
  decide +kernel

theorem test_quiet_limit :
    ((after (.quietTimerExpiry .chamber0) (stroking .quiet .pack)).chamber .chamber0).state = .pack := by decide +kernel

/-- Table 10-6: IDENTIFY 14 is the last record and names 0x00FF next. -/
theorem test_identify_last :
    ((after (.identify (req 0 0 14 0)) service).ports.snd.transmitter.map
      (fun x => match x with
        | .fromQueue q => (q.frame.data.drop 2).take 2
        | .fromSlot _ _ => [])) = some [0, 0xFF] := by decide +kernel

theorem test_deposit_tariff :
    ((after (.deposit (req 10 1 3 700)) service).tariffs.getD 3 .cleared).liftFee = 700 := by decide +kernel

theorem test_day_clears :
    ((after (.day (req 0 0 0 0)) (base.setBins { base.bins with entries := [{ bin 7 with liftCount := 4 }] })).bins.entries.map
      BinEntry.liftCount) = [0] := by decide +kernel

theorem test_release_frees :
    (after (.release (req 0 0 0 1)) (base.setLog { base.log with records := [closedRecord 1, closedRecord 2] })).log.records.map
      LogRecord.seq = [2] := by decide +kernel

theorem test_lock_locks :
    (after (.lock (req 0 0 0 0)) { base with cal := { base.cal with unlocked := true } }).cal.unlocked = false := by
  decide +kernel

theorem test_clear_bins :
    (after (.clear (req 8 0 0 0)) (twoBins.setMgmt { base.mgmt with service := true })).bins.entries = [] := by decide +kernel

theorem test_insert_in_flight :
    (after (.insertBin (req 0 0 0 0))
      (base.setBins { base.bins with staging := { BinData.zero with tag := 7, household := 1 } })).bins.update.isSome = true := by
  decide +kernel

theorem test_update_completes :
    (after .binUpdateComplete ((twoBins.setBins { twoBins.bins with update := some (.insert (bin 8).data) }).setMgmt
      { base.mgmt with inProgress := some (.insert, req 0 0 0 0) })).bins.entries.map (fun e => e.data.tag) = [7, 8, 9] := by
  decide +kernel

theorem test_step_single : ((after (.stepArm (req 0 0 0 1)) ready).arm .armA).singleStep = true := by decide +kernel

theorem test_port_clear : (after (.portClear (req 0 0 0 0)) service).ports.fst.forwardEnable = false := by decide +kernel

theorem test_reset_reply_due :
    (after (.transmissionEnd .portB) (after (.reset (req 0 0 0 0)) service)).mgmt.resetDue = true := by decide +kernel

/-- The table gives the rows no bits: no word spells a command. -/
theorem test_no_word_spells_a_command : decodeTableWord 32 1 = none ∧ State.reset.withFetchWord 32 1 = State.reset :=
  ⟨rfl, rfl⟩

/-! ## Witnesses: states and operands that meet the hypotheses of each obligation, at the boundaries of its clauses -/

theorem test_witness_EveryCommandAnswersNext :
    (Instr.frameArrival .portC (.extended frame8)).wellFormed = true ∧
    (Instr.frameArrival .portC (.extended { frame8 with data := frame8.data ++ [9] })).wellFormed = false ∧
    (Instr.trueDelayExpiry 32).wellFormed = true ∧ (Instr.trueDelayExpiry 33).wellFormed = false := by decide

/-- Every calibration counter stops at 65535. -/
def worn : State := { base with cal := { base.cal with counter := 65535 } }

theorem test_witness_ResetKeepsRetainedState :
    (Instr.warmReset = .warmReset ∧ worn.cal = worn.cal) ∧
    (Instr.powerOn false = .powerOn false ∧ worn.cal = { worn.cal with unlocked := false }) ∧
    (Instr.powerOn true = .powerOn true ∧
      ({ worn.cal with unlocked := true } : Calibration) =
        { worn.cal with unlocked := true, counter := min (worn.cal.counter + 1) 65535 }) := by decide +kernel

/-- An update in flight completes on an ascending table. -/
def completing : State :=
  (twoBins.setBins { twoBins.bins with update := some (.insert (bin 8).data) }).setMgmt
    { base.mgmt with inProgress := some (.insert, req 0 0 0 0) }

theorem test_witness_BinTableStaysAscending :
    completing.binsAscending ∧ ∃ t, step { completing with pending := [.binUpdateComplete] } = .next t :=
  ⟨by decide, next_of_answers (by decide +kernel)⟩

theorem test_witness_ValveGroupsFollowTheirOwners :
    running.groupsFollowOwners ∧ ∃ t, step { running with pending := [.pauseArm .armA] } = .next t :=
  ⟨⟨fun a => by cases a <;> decide +kernel, fun c => by cases c <;> decide +kernel, fun c => by cases c <;> decide +kernel⟩,
    next_of_answers (by decide +kernel)⟩

theorem test_witness_LockedCalibrationStands :
    (∀ j r, { base with pending := [.deposit (req 9 0 0 5)] }.pending ≠ .powerOn j :: r) ∧ base.cal.unlocked = false ∧
    ∃ t, step { base with pending := [.deposit (req 9 0 0 5)] } = .next t :=
  ⟨nofun, by decide, next_of_answers (by decide +kernel)⟩

theorem test_witness_ConfigurationNeedsService :
    base.mgmt.service = false ∧ ∃ t, step { base with pending := [.deposit (req 10 0 0 5)] } = .next t :=
  ⟨by decide, next_of_answers (by decide +kernel)⟩

/-- A CLOSED record, and a RELEASE that covers it. -/
def stored : State := settle (base.setLog { base.log with records := [closedRecord 1, openLift], nextSeq := 3 })

/-- Node 3's RELEASE 1 at the head of port B's FIFO. -/
def releaseFrame : Frame := { id := 3, data := [6, 0, 0, 0, 0, 0, 0, 1] }
def releaseWaits : State := withPortB (fun x => { x with fifo := [releaseFrame] }) stored

theorem test_witness_ClosedRecordsStand :
    closedRecord 1 ∈ stored.log.records ∧ (closedRecord 1).closed = true ∧
    (∃ t, step { stored with pending := [.release (req 0 0 0 1)] } = .next t) ∧
    (∃ t, step { releaseWaits with pending := [.frameTaken .portB] } = .next t) ∧
    requesterOf releaseWaits.cfg.mreqBase releaseFrame.id = some 3 ∧ releaseFrame.byte 0 = 6 ∧
    covered (requestOf 3 releaseFrame).value.toNat 1 = true :=
  ⟨by decide +kernel, rfl, next_of_answers (by decide +kernel), next_of_answers (by decide +kernel), by decide +kernel,
    by decide +kernel, by decide +kernel⟩

/-- Port C with a number of frames in its FIFO. -/
def fifoOf (n : Nat) : State := withPort (fun x => { x with fifo := List.replicate n frame8 }) base
def offPort : State := settle (withPort (fun x => { x with state := .off, recovery := .start 200 }) base)

theorem test_witness_FrameArrivalJoinsTheFifo :
    offPort.settled ∧ (offPort.port .portC).state = .off ∧ (fifoOf 15).settled ∧ ((fifoOf 15).port .portC).state ≠ .off ∧
    ((fifoOf 15).port .portC).fifo.length < 16 ∧ (fifoOf 16).settled ∧ 16 ≤ ((fifoOf 16).port .portC).fifo.length ∧
    frame8.data.length ≤ 8 := by decide +kernel

/-- One frame of port C and no VALID route entry. -/
def missed (m : MissAction) (enable : Bool) : State :=
  let s := withPortB (fun x => { x with forwardEnable := enable }) (oneFrame frame8 base)
  settle { s with cfg := { s.cfg with miss := { fst := m, snd := m } } }

theorem test_witness_UnmatchedFrameIsAMiss :
    base.settled ∧ (base.port .portC).fifo = [] ∧ (missed .drop true).settled ∧ (missed .drop true).ports.fst.fifo = [frame8] ∧
    (∀ e ∈ (missed .drop true).routes,
      ¬ (e.valid = true ∧ (e.source = .any ∨ e.source = .portC) ∧ frame8.id &&& e.mask = e.matchId &&& e.mask)) ∧
    (missed .drop true).cfg.miss.fst = .drop ∧ (missed .forward false).ports.snd.forwardEnable = false ∧
    (missed .forward true).cfg.miss.fst = .forward ∧ (missed .forward true).ports.snd.forwardEnable = true := by
  decide +kernel

/-- A frame of port B outside the management range, and no VALID route entry. -/
def missedB : State := settle (withPortB (fun x => { x with fifo := [{ id := 0x7F, data := [1] }] }) base)

theorem test_witness_UnmatchedFrameIsAMiss_portB :
    missedB.settled ∧ (missedB.port .portB).fifo = [{ id := 0x7F, data := [1] }] ∧
    missedB.cfg.mreqBase.toNat + 15 < (0x7F : CanId).toNat ∧
    (∀ e ∈ missedB.routes,
      ¬ (e.valid = true ∧ (e.source = .any ∨ e.source = .portB) ∧ (0x7F : CanId) &&& e.mask = e.matchId &&& e.mask)) := by
  decide +kernel

/-- Port C's FIFO holds one frame, entry 0 wins it with an action for a consumer, and group 1 is FALSE. -/
def acted (x : RouteAction) (k : RouteConsumer) (gate : Nat) (enable isHeld : Bool) (f : Frame) : State :=
  let s := withPortB (fun x => { x with forwardEnable := enable }) (oneFrame f base)
  settle { s with
    routes := s.routes.set 0 { routeTo k gate with action := x }, watch := { s.watch with isHeld := isHeld } }

/-- The hypotheses common to the clauses, with entry 0 the winner. -/
abbrev wins (s : State) (e : RouteEntry) (f : Frame) : Prop :=
  s.settled ∧ (s.port .portC).fifo = [f] ∧ f.data.length ≤ 8 ∧ s.routes[0]? = some e ∧ e.valid = true ∧
  e.source = .portC ∧ f.id &&& e.mask = e.matchId &&& e.mask

theorem test_witness_MatchedFrameTakesItsAction :
    (wins (acted .drop .armA 1 true true frame8) { routeTo .armA 1 with action := .drop } frame8 ∧
      (acted .drop .armA 1 true true frame8).groups[0]? = some .cleared ∧ GroupEntry.cleared.state ≠ .isTrue) ∧
    wins (acted .consume .signals 1 true true frame8) (routeTo .signals 1) frame8 ∧
    (wins (acted .both .chamber 1 true true frame8) { routeTo .chamber 1 with action := .both } frame8 ∧
      (acted .both .chamber 1 true true frame8).watch.isHeld = true) ∧
    (wins (acted .forward .armA 0 true true frame8) { routeTo .armA 0 with action := .forward } frame8 ∧
      ((acted .forward .armA 0 true true frame8).port .portB).forwardEnable = true ∧
      ((acted .forward .armA 0 false true frame8).port .portB).forwardEnable = false) ∧
    (wins (acted .both .weighA 0 true true frame8) { routeTo .weighA 0 with action := .both } frame8 ∧
      ((acted .both .weighA 0 true true frame8).weighUnit .armA).isOpen = false ∧
      base.cfg.lcOffset + 3 ≤ frame8.data.length) := by
  refine ⟨?_, ?_, ?_, ?_, ?_⟩ <;> decide +kernel

/-- Port B's FIFO holds a sample for arm B, which an entry for either port lets pass by a TRUE group. -/
def sampledB : State :=
  let s := withPortB (fun x => { x with fifo := [{ id := 0x7F, data := [1, 2, 3] }] }) base
  settle { s with
    routes := s.routes.set 0 { routeTo .weighB 32 with source := .any },
    groups := s.groups.set 31 { GroupEntry.cleared with valid := true, state := .isTrue } }

theorem test_witness_ConsumedFrameReachesItsConsumer :
    (wins (routed .weighA 0 { id := 5, data := [1, 2, 3] }) (routeTo .weighA 0) { id := 5, data := [1, 2, 3] } ∧
      ((routed .weighA 0 { id := 5, data := [1, 2, 3] }).weighUnit .armA).isOpen = false ∧
      base.cfg.lcOffset + 3 ≤ [1, 2, 3].length) ∧
    (wins (routed .weighB 0 { id := 5, data := [1, 2] }) (routeTo .weighB 0) { id := 5, data := [1, 2] } ∧
      [1, 2].length < base.cfg.lcOffset + 3) ∧
    (wins (routed .tagA 0 tagFrame9) (routeTo .tagA 0) tagFrame9 ∧ base.cfg.tagOffset + 5 ≤ tagFrame9.data.length ∧
      qualityOf base.cfg.tagOffset tagFrame9 ≠ 0 ∧ tagOf base.cfg.tagOffset tagFrame9 ≠ 0 ∧
      ((routed .tagA 0 tagFrame9).bins.requests.at false).state ≠ .waitRead) ∧
    (wins (routed .armB 0 frame8) (routeTo .armB 0) frame8 ∧ frame8.data = 1 :: [2, 3, 4, 5, 6, 7, 8] ∧
      (routed .armB 0 frame8).watch.isHeld = false ∧ (routeTo .armB 0).consumer = .armB) ∧
    (wins (routed .armA 0 { id := 5, data := [8] }) (routeTo .armA 0) { id := 5, data := [8] } ∧
      7 < (Frame.byte { id := 5, data := [8] } 0).toNat) ∧
    (wins (routed .chamber 0 { id := 5, data := [3, 1] }) (routeTo .chamber 0) { id := 5, data := [3, 1] } ∧
      wins (routed .chamber 0 { id := 5, data := [4, 1] }) (routeTo .chamber 0) { id := 5, data := [4, 1] } ∧
      3 < (Frame.byte { id := 5, data := [4, 1] } 0).toNat) ∧
    (sampledB.settled ∧ (sampledB.port .portB).fifo = [{ id := 0x7F, data := [1, 2, 3] }] ∧
      sampledB.groups[31]? = some { GroupEntry.cleared with valid := true, state := .isTrue }) := by
  refine ⟨?_, ?_, ?_, ?_, ?_, ?_, ?_⟩ <;> decide +kernel

def passivePort : State := settle (withPort (fun x => { x with state := .passive }) base)

/-- The reply of a RESET waits in port B's queue. -/
def resetReplyQueued : State :=
  withPortB (fun x => { x with queue := [{ pageInQueue with cls := 1, origin := .reply, ofReset := true }] }) service

theorem test_witness_PortStatesChange :
    base.settled ∧ (base.port .portC).state = .active ∧ passivePort.settled ∧ (passivePort.port .portC).state = .passive ∧
    (offPort.port .portC).state ≠ .active ∧ (offPort.port .portC).state ≠ .passive ∧ resetReplyQueued.calm ∧ (resetReplyQueued.port .portB).state ≠ .off ∧
    (∀ a : ArmId, (resetReplyQueued.arm a).state = .idle ∨ (resetReplyQueued.arm a).state = .faulted) ∧
    { pageInQueue with cls := 1, origin := .reply, ofReset := true } ∈ (resetReplyQueued.port .portB).queue ∧
    offPort.settled ∧ (offPort.port .portC).state = .off :=
  ⟨by decide +kernel, by decide +kernel, by decide +kernel, by decide +kernel, by decide +kernel, by decide +kernel,
    by decide +kernel, by decide +kernel, fun a => by cases a <;> decide +kernel, by decide +kernel, by decide +kernel,
    by decide +kernel⟩

theorem test_witness_PortStatesChange_recovery :
    offPort.settled ∧ (offPort.port .portC).state = .off ∧ (offPort.port .portC).recovery.running = true ∧
    (base.port .portC).state ≠ .off := by decide +kernel

theorem test_witness_TransmissionEndFreesTheTransmitter :
    base.settled ∧ (base.port .portC).transmitter = none ∧ State.reset.settled ∧
    (State.reset.port .portB).transmitter = some (.fromSlot 0 (firstValveFrame 0)) ∧
    ((withPort (fun x => { x with transmitter := some (.fromQueue pageInQueue) }) base).port .portC).transmitter =
      some (.fromQueue pageInQueue) := by decide +kernel

theorem test_witness_TransmissionEnd_choice :
    let x : Port := { Port.fresh 250 4 with slots := [none, none, none, some frame8], queue := [pageInQueue] }
    x.state ≠ .off ∧ x.transmitter = none ∧ x.slots[3]? = some (some frame8) ∧ (∀ m < 3, x.slots[m]? = some none) ∧
    (∀ o ∈ (Port.fresh 250 4).slots, o = none) ∧ State.reset.ports.snd.transmitter ≠ none := by decide +kernel

theorem test_witness_QueueKeepsClassThenAge :
    fullQueue.queue.Pairwise (fun a b => a.cls ≤ b.cls) ∧ fullQueue.state ≠ .off ∧ fullQueue.queue.length = 48 ∧
    fullQueue.queue = fullQueue.queue.dropLast ++ [{ pageInQueue with cls := 3, origin := .forwarded }] ∧
    (Port.fresh 250 4).queue.Pairwise (fun a b => a.cls ≤ b.cls) ∧ (Port.fresh 250 4).queue.length < 48 ∧
    (offPort.port .portC).state = .off := by decide +kernel

theorem test_witness_ScalingRoundsHalfAway :
    1 ≤ entry5.denominator ∧ 1 ≤ entry5.width ∧ entry5.rawField chassisFrame < 2 ^ entry5.width ∧ entry5.isSigned = true ∧
    2 ^ (entry5.width - 1) ≤ entry5.rawField chassisFrame := by decide

theorem test_witness_SignalEntryTakesAFrame :
    entry4.order = .lsbFirst ∧ entry5.order = .msbFirst ∧ 1 ≤ entry5.width ∧
    entry5.startBit + entry5.width ≤ 8 * chassisFrame.data.length ∧
    entry7.startBit + entry7.width = 8 * chassisFrame.data.length ∧
    8 * (chassisFrame.data.take 7).length < entry7.startBit + entry7.width ∧
    ({ entry4 with clampLow := 902, clampHigh := 901 } : SignalEntry).scaled chassisFrame = 901 := by decide

theorem test_witness_TermComparisonTable :
    let e : SignalEntry := { SignalEntry.cleared with valid := true, state := .held, value := some 100 }
    let t : TermEntry := { TermEntry.cleared with valid := true, comparison := .inBand, thresholdA := 100, thresholdB := 99 }
    t.valid = true ∧ [e][t.signal]? = some e ∧ (e.state = .fresh ∨ e.state = .held) ∧ e.value = some 100 ∧
    t.result = false ∧ t.thresholdB < t.thresholdA := by decide

/-- Entry 63 with its timer running, in a state. -/
def aging (st : SignalState) (hold : Nat) : SignalEntry :=
  { SignalEntry.cleared with valid := true, value := some 1, state := st, holdTime := hold, timer := .start 1 }
def agingState (st : SignalState) (hold : Nat) : State := { base with signals := base.signals.set 63 (aging st hold) }

/-- A group on term 0, which is TRUE on a FRESH signal. -/
def termState : State :=
  { base with
    signals := base.signals.set 0 { SignalEntry.cleared with valid := true, value := some 5, state := .fresh },
    terms := base.terms.set 0 { TermEntry.cleared with valid := true, result := true } }
def groupOn (r : GroupRef) : GroupEntry :=
  { GroupEntry.cleared with valid := true, refs := some r :: List.replicate 5 none, trueDelay := 1 }

theorem test_witness_GroupsFollowTheirTerms :
    (∃ t e v, termState.terms[0]? = some t ∧ t.valid = true ∧ termState.signals[t.signal]? = some e ∧
      (e.state = .fresh ∨ e.state = .held) ∧ e.value = some v ∧ t.result = true) ∧
    (groupOn { term := 0, negate := false }).refs = [some { term := 0, negate := false }, none, none, none, none, none] ∧
    (groupOn { term := 0, negate := false }).state = .isFalse ∧ 0 < (groupOn { term := 0, negate := false }).trueDelay ∧
    termState.evaluateGroup (groupOn { term := 0, negate := true }) = groupOn { term := 0, negate := true } :=
  ⟨⟨{ TermEntry.cleared with valid := true, result := true },
      { SignalEntry.cleared with valid := true, value := some 5, state := .fresh }, 5, by decide +kernel⟩, rfl, rfl, by decide,
    by decide +kernel⟩

theorem unread_of (s : State) (h : (∀ r ∈ s.cfg.roles, r = none) ∧ (∀ g ∈ s.cfg.roleGroups, g = 0))
    (a : (s.arm .armA).state ≠ .running) (b : (s.arm .armB).state ≠ .running) : s.unread :=
  ⟨h.1, h.2, fun x => by cases x <;> assumption⟩

theorem test_witness_SignalUnitTimersExpire :
    (agingState .fresh 1).settled ∧ (agingState .fresh 1).unread ∧ (agingState .fresh 0).unread ∧
    (agingState .held 1).unread ∧ (agingState .fresh 1).signals[63]? = some (aging .fresh 1) ∧
    (agingState .held 1).signals[63]? = some (aging .held 1) ∧ (aging .fresh 1).timer.running = true :=
  ⟨by decide +kernel, unread_of _ (by decide) (by decide) (by decide), unread_of _ (by decide) (by decide) (by decide),
    unread_of _ (by decide) (by decide) (by decide), by decide +kernel, by decide +kernel, rfl⟩

theorem test_witness_SignalFrameUpdatesItsEntries :
    (routed .signals 0 frame8).calm ∧ (routed .signals 0 frame8).unread ∧ (routed .signals 0 frame8).ports.fst.fifo = [frame8] ∧
    winner (routed .signals 0 frame8).routes .portC frame8 = some 0 ∧
    (routed .signals 0 frame8).routes[0]? = some (routeTo .signals 0) :=
  ⟨by decide +kernel, unread_of _ (by decide) (by decide) (by decide), rfl, by decide +kernel, rfl⟩

def waitingGroup : GroupEntry := { GroupEntry.cleared with valid := true, state := .pending, timer := .start 1 }
def waitingGroups : State := { base with groups := base.groups.set 31 waitingGroup }

theorem test_witness_SignalUnitTimersExpire_clock :
    base.settled ∧ base.clock.timer.running = true ∧
    ({ base with clock := { base.clock with timer := .stopped } } : State).settled ∧
    waitingGroups.unread ∧ waitingGroups.groups[31]? = some waitingGroup ∧ waitingGroup.timer.running = true ∧
    base.groups[31]? = some .cleared ∧ GroupEntry.cleared.valid = false :=
  ⟨by decide +kernel, rfl, by decide +kernel, unread_of _ (by decide) (by decide) (by decide), by decide +kernel, rfl,
    by decide +kernel, rfl⟩

theorem test_witness_ArmCommandsRefusedOrIgnored :
    base.settled ∧ base.watch.isHeld = false ∧ (base.arm .armA).state = .idle ∧ 3 < (4 : Byte).toNat ∧ (3 : Byte).toNat ≤ 3 ∧
    manual.settled ∧ (manual.arm .armA).state = .manual ∧ (manual.arm .armA).state ≠ .idle := by decide +kernel

theorem test_witness_ArmCommandsRefusedOrIgnored_start :
    base.calm ∧ base.watch.isHeld = false ∧ (base.arm .armA).state = .idle ∧ base.validSelection .armA 3 = none ∧
    ready.calm ∧ ready.validSelection .armA 3 ≠ none ∧ ready.given ArmId.armA.liftPermit = true ∧
    ({ ready with groups := base.groups } : State).given ArmId.armA.liftPermit = false ∧
    2048 - (ready.setLog { ready.log with records := List.replicate 2032 openLift }).log.records.length ≤ ready.cfg.reserve ∧
    ready.cfg.reserve < 2048 - (ready.setLog { ready.log with records := List.replicate 2031 openLift }).log.records.length ∧
    ((withChamber (fun x => { x with load := .full }) ready).chamber ArmId.armA.chamber).load = .full := by decide +kernel

theorem test_witness_SelectionMeetsTheConditions :
    ready.steps.length = 192 ∧ base.steps.length = 192 ∧ (∀ g ∈ ready.programs, 1 ≤ g.stepCount) ∧
    (∀ g ∈ base.programs, 1 ≤ g.stepCount) ∧ ready.validSelection .armB 3 = some 0 ∧ base.validSelection .armB 3 = none := by
  decide +kernel

theorem test_witness_StartOpensTheCycle :
    ready.calm ∧ ready.watch.isHeld = false ∧ (ready.arm .armA).state = .idle ∧ ready.validSelection .armA 1 = some 0 ∧
    ready.given ArmId.armA.liftPermit = true ∧ ready.cfg.reserve < 2048 - ready.log.records.length ∧
    (ready.chamber ArmId.armA.chamber).load ≠ .full ∧ ready.roleValue ArmId.armA.posRole ≠ none ∧
    ready.ports.snd.state ≠ .off ∧ ready.given ArmId.armA.runGuard = true ∧
    ready.programs[0]? = some { valid := true, firstStep := 0, stepCount := 4, returnStep := 3 } ∧
    ready.steps[0]? = some positionStep ∧ positionStep.endKind = .position ∧ ready.termTrue positionStep.endParam = false ∧
    ready.fits ArmId.armA.consumer positionStep.demand ∧ (ready.valve ArmId.armA.consumer).driving = false := by decide +kernel

theorem test_witness_StoppingCommandsStopTheArm :
    running.calm ∧ running.watch.isHeld = false ∧ (running.arm .armA).state = .running ∧
    ((inCycle .suspended 0 1).arm .armA).state = .suspended ∧ (running.weighUnit .armA).isOpen = false ∧
    running.noneWaitsBut ArmId.armA.consumer := by decide +kernel

theorem test_witness_CycleEndClosesTheRecord :
    running.calm ∧ (running.arm .armA).openRecord = some 1 ∧ running.log.openRecord 1 = some openLift ∧
    openLift.flags.tipped = false ∧ (running.weighUnit .armA).isOpen = false ∧ (running.weighUnit .armA).quiet = false ∧
    running.noneWaitsBut ArmId.armA.consumer ∧ running.watch.isHeld = false ∧ (running.arm .armA).state = .running ∧
    (running.arm .armA).stepTimer.running = true ∧ running.currentStep .armA = some positionStep ∧
    positionStep.onTimeout = .fault := by decide +kernel

theorem test_witness_CycleEnd_duration :
    lastTime.calm ∧ lastTime.log.openRecord 1 = some openLift ∧ (lastTime.arm .armA).durationTimer.running = true ∧
    (lastTime.arm .armA).refused = false ∧
    lastTime.programOf .armA = some { valid := true, firstStep := 4, stepCount := 1, returnStep := 1 } ∧
    (lastTime.arm .armA).position = some 1 ∧ lastTime.currentStep .armA = some timeStep ∧ timeStep.endKind = .time ∧
    timeStep.loopCount ≤ (lastTime.arm .armA).loops.getD 0 0 := by decide +kernel

/-- Arm A RUNNING at a position of: lowering; lowering with two loop-backs and timeout NEXT; TIME; TAG; raising; TIP_MARK; lowering. -/
def lowerStep : StepEntry := { positionStep with functions := 8 }
def loopStep : StepEntry := { lowerStep with loopCount := 2, onTimeout := .next }
def passing (p : Nat) (f : Arm → Arm) : State :=
  let s := withArm f (inCycle .running 0 p)
  settle { s with
    steps := [lowerStep, loopStep, timeStep, fixedStep .tag, positionStep, fixedStep .tipMark, lowerStep] ++
      List.replicate 185 .cleared,
    programs := { valid := true, firstStep := 0, stepCount := 7, returnStep := 5 } :: List.replicate 15 .cleared }
def looped (n : Nat) (x : Arm) : Arm := { x with loops := List.replicate 32 n }
def refusing (x : Arm) : Arm := { x with refused := true }

/-- What every clause asks of a state: arm A RUNNING at position `p` in step `k`. -/
abbrev passesFrom (s : State) (p : Nat) (k : StepEntry) : Prop :=
  s.calm ∧ (s.arm .armA).state = .running ∧ (s.arm .armA).position = some p ∧ (s.programOf .armA).map ProgramEntry.stepCount = some 7 ∧
  s.currentStep .armA = some k ∧ (s.weighUnit .armA).isOpen = false ∧ (s.weighUnit .armA).quiet = false ∧ s.noneWaitsBut .armA ∧
  s.given .runGuardA = true ∧ s.fits .armA 3

/-- A loop-back, the loops used up, a refused TAG going past raising and TIP_MARK, TIP_MARK, a TIME step's duration, the last position. -/
theorem test_witness_StepEndPassesOn :
    (passesFrom (passing 2 id) 2 loopStep ∧ ((passing 2 id).arm .armA).stepTimer.running = true ∧
      ((passing 2 id).arm .armA).loops.getD 1 0 < loopStep.loopCount ∧ (passing 2 id).stepAt .armA 1 = some lowerStep ∧
      (passing 2 id).termTrue lowerStep.endParam = false) ∧
    (passesFrom (passing 2 (looped 2)) 2 loopStep ∧ loopStep.loopCount ≤ ((passing 2 (looped 2)).arm .armA).loops.getD 1 0 ∧
      (passing 2 (looped 2)).stepAt .armA 3 = some timeStep ∧ 0 < timeStep.endParam) ∧
    (passesFrom (passing 4 refusing) 4 (fixedStep .tag) ∧ (passing 4 refusing).stepAt .armA 5 = some positionStep ∧
      positionStep.functions.getLsbD 2 = true ∧ (passing 4 refusing).stepAt .armA 6 = some (fixedStep .tipMark) ∧
      (passing 4 refusing).stepAt .armA 7 = some lowerStep ∧ lowerStep.functions.getLsbD 2 = false) ∧
    (passesFrom (passing 6 id) 6 (fixedStep .tipMark) ∧ ((passing 6 id).arm .armA).refused = false ∧
      ((passing 6 id).arm .armA).openRecord = some 1) ∧
    (passesFrom (passing 3 (fun x => { x with durationTimer := .start 1 })) 3 timeStep ∧
      (ungiven (passing 2 id)).calm ∧ (ungiven (passing 2 id)).given .runGuardA = false ∧
      passesFrom (passing 7 refusing) 7 lowerStep ∧ (passing 7 refusing).log.openRecord 1 = some openLift) := by
  refine ⟨?_, ?_, ?_, ?_, ?_⟩ <;> decide +kernel

/-- No signal is bound to a value. -/
def blind (s : State) : State := { s with signals := base.signals }

/-- Arm A in MANUAL, and the two arms in cycle together, are lost; nobody else waits. -/
def bothCycles : State :=
  let s := running.setArm .armB { running.arm .armA with openRecord := some 2 }
  settle (s.setLog { s.log with records := [openLift, { openLift with seq := 2, second := true }], nextSeq := 3 })

theorem test_witness_ArmsAnswerLoss :
    (bothCycles.calm ∧ bothCycles.ports.snd.state ≠ .off ∧ (bothCycles.arm .armA).inCycle = true ∧
      (bothCycles.arm .armB).inCycle = true ∧ bothCycles.log.openRecord 1 = some openLift ∧
      bothCycles.log.openRecord 2 = some { openLift with seq := 2, second := true } ∧ bothCycles.arbiter.waiting = [] ∧
      (bothCycles.weighUnit .armB).isOpen = false ∧ (bothCycles.weighUnit .armB).quiet = false) ∧
    (manual.calm ∧ (manual.arm .armA).state = .manual ∧ manual.noneWaitsBut .armA ∧ (manual.weighUnit .armA).isOpen = false) ∧
    ((blind running).calm ∧ (blind running).roleValue ArmId.armA.posRole = none ∧ ((blind running).arm .armA).inCycle = true ∧
      (blind running).log.openRecord 1 = some openLift ∧ (blind manual).roleValue ArmId.armA.posRole = none) ∧
    ((ungiven running).calm ∧ (ungiven running).given ArmId.armA.runGuard = false ∧
      (ungiven running).noneWaitsBut ArmId.armA.consumer ∧ (inCycle .suspended 0 1).given ArmId.armA.runGuard = true ∧
      ((inCycle .suspended 0 1).arm .armA).state = .suspended ∧ (inCycle .suspended 0 1).currentStep .armA = some positionStep ∧
      (inCycle .suspended 0 1).fits .armA positionStep.demand ∧
      (ungiven manual).given ArmId.armA.manualPermit = false) := by
  refine ⟨?_, ?_, ?_, ?_⟩ <;> decide +kernel

/-- Arm A PAUSED with its record tipped, accepted and weighed, and a Bin Table. -/
def tippedRecord (tag : Nat) : LogRecord :=
  { openLift with tag, decision := .accept, nDiv := some 21, flags := { tipped := true } }
def tippedCycle (tag : Nat) : State :=
  (paused.setLog { paused.log with records := [tippedRecord tag] }).setBins { paused.bins with entries := [bin 7, bin 9] }

theorem test_witness_TippedCloseReachesBinAndChamber :
    (tippedCycle 9).calm ∧ (tippedCycle 9).watch.isHeld = false ∧ ((tippedCycle 9).arm .armA).state = .paused ∧
    ((tippedCycle 9).arm .armA).openRecord = some 1 ∧ (tippedCycle 9).log.openRecord 1 = some (tippedRecord 9) ∧
    ((tippedCycle 9).weighUnit .armA).quiet = false ∧ (tippedCycle 9).noneWaitsBut ArmId.armA.consumer ∧
    ((tippedCycle 9).valve ArmId.armA.consumer).driving = false ∧ (tippedCycle 9).bins.update = none ∧
    bin 9 ∈ (tippedCycle 9).bins.entries ∧ (∀ e ∈ (tippedCycle 8).bins.entries, e.data.tag ≠ (tippedRecord 8).tag) ∧
    (tippedCycle 8).calm ∧ (tippedCycle 8).log.openRecord 1 = some (tippedRecord 8) := by decide +kernel

theorem test_witness_ContinueAndStepResumeTheStep :
    paused.mgmt.inProgress = none ∧ paused.mgmt.service = true ∧ (req 0 0 0 0).index = 0 ∧ paused.calm ∧ paused.watch.isHeld = false ∧ (paused.arm .armA).state = .paused ∧
    paused.given ArmId.armA.runGuard = true ∧ paused.currentStep .armA = some positionStep ∧
    paused.termTrue positionStep.endParam = false ∧ paused.fits ArmId.armA.consumer positionStep.demand := by decide +kernel

theorem test_witness_ManualEnterTakesTheArm :
    ready.calm ∧ ready.watch.isHeld = false ∧ (ready.arm .armA).state = .idle ∧ ready.given ArmId.armA.manualPermit = true ∧
    base.given ArmId.armA.manualPermit = false ∧ (ready.chamber ArmId.armA.chamber).load ≠ .full ∧
    ((withChamber (fun x => { x with load := .full }) ready).chamber ArmId.armA.chamber).load = .full ∧
    ready.fits ArmId.armA.consumer (ready.armSettings .armA).manualDemand ∧ 1 ≤ (ready.armSettings .armA).fb ∧
    ready.roleValue ArmId.armA.joyRole = none := by decide +kernel

/-- Arm A in MANUAL with JOY at 500, Fa 3 and Fb 4, as R66 works it. -/
def joying (grant : Bool) : State :=
  let s := withArm (fun x => { x with manualGranted := grant }) manual
  { s with
    cfg := { s.cfg with
      roles := s.cfg.roles.set 13 (some 0),
      arms := { s.cfg.arms with fst := { s.cfg.arms.fst with fa := 3, fb := 4, manualMax := 600 } } } }

theorem test_witness_ManualEnterTakesTheArm_joy :
    (joying true).calm ∧ (joying true).roleValue ArmId.armA.joyRole = some 500 ∧ Rounds 375 (500 * 3) 4 ∧
    1 ≤ ((joying true).armSettings .armA).fb ∧ ((joying true).arm .armA).state = .manual ∧
    ((joying true).valve ArmId.armA.consumer).driving = true ∧ ((joying true).arm .armA).manualGranted = true ∧
    ((joying false).arm .armA).manualGranted = false := by
  refine ⟨?_, ?_, ⟨?_, ?_⟩, ?_, ?_, ?_, ?_, ?_⟩ <;> decide +kernel

/-- The worked values of R66: a JOY of 40 falls in the dead band, and one of −1000 is held to the manual maximum. -/
theorem test_joy_scaling :
    [500, 40, -1000].map (joyTarget ((joying true).armSettings .armA)) = [375, 0, -600] := by decide +kernel

def faultedArm : State := settle (withArm (fun x => { x with state := .faulted, fault := .stepTimeout }) base)

theorem test_witness_StoppingCommandsStopTheArm_manual :
    manual.calm ∧ manual.watch.isHeld = false ∧ (manual.arm .armA).state = .manual ∧
    manual.noneWaitsBut ArmId.armA.consumer ∧ faultedArm.calm ∧ faultedArm.watch.isHeld = false ∧
    (faultedArm.arm .armA).state = .faulted ∧ (faultedArm.valve ArmId.armA.consumer).driving = false := by decide +kernel

/-- Arm A in MANUAL below its threshold of 500, which its position of 500 reaches, with tag 9 read `age` ms ago. -/
def tipping (age : Nat) : State :=
  let s := withArm (fun x => { x with lastManualPos := some 499, lastTag := some { tag := 9, readAt := 1000 } }) manual
  { s with
    now := 1000 + age, cfg := { s.cfg with arms := { s.cfg.arms with fst := { ArmSettings.delivered with tipThreshold := 500 } } },
    bins := { s.bins with entries := [bin 7, bin 9] } }

theorem test_witness_ManualTipIsRecorded :
    ((tipping 500).arm .armA).state = .manual ∧ (tipping 500).roleValue ArmId.armA.posRole = some 500 ∧
    (tipping 500).binsAscending ∧ (tipping 500).bins.update = none ∧ ((tipping 500).arm .armA).lastManualPos = some 499 ∧
    (tipping 500).cfg.tagWindow = 500 ∧ ((tipping 500).arm .armA).lastTag = some { tag := 9, readAt := 1000 } ∧
    bin 9 ∈ (tipping 500).bins.entries ∧ (tipping 500).now - 1000 = 500 ∧ (tipping 501).cfg.tagWindow < (tipping 501).now - 1000 ∧
    (tipping 500).log.records.length < 2048 := by decide +kernel

/-- The high-idle request in a state with both timers running. -/
def idling (h : HighIdle) : State :=
  base.setArbiter { base.arbiter with highIdle := h, repeatTimer := .start 100, runDownTimer := .start 2000 }

/-- Arm B holds 8 of 10 units and packer 0 waits for 3, then arm A for 1. -/
def waitingFlow : State :=
  base.setArbiter { base.arbiter with
    capacity := 10, grants := { q0 := 0, q1 := 8, q2 := 0, q3 := 0 }, waiting := [(.packer0, 3), (.armA, 1)], highIdle := .on }

theorem test_witness_ClaimsAreServedInOrder :
    waitingFlow.calm ∧ waitingFlow.arbiter.capacity < 11 ∧ 10 ≤ waitingFlow.arbiter.capacity ∧
    (waitingFlow.putCapacity 11).arbiter.waiting = [(.armA, 1)] ∧ (waitingFlow.putCapacity 12).arbiter.waiting = [] ∧
    (waitingFlow.arbiter.claim .armB 0).2.1 = [.packer0, .armA] ∧ (waitingFlow.arbiter.claim .packer1 1).2.2 = false := by
  decide +kernel

theorem test_witness_HighIdleFollowsTheFlow :
    (idling .on).settled ∧ (idling .on).arbiter.highIdle ≠ .off ∧ (idling .on).arbiter.repeatTimer.running = true ∧
    (idling .runDown).arbiter.highIdle = .runDown ∧ (idling .runDown).arbiter.runDownTimer.running = true ∧
    base.arbiter.highIdle = .off ∧ (idling .on).arbiter.highIdle ≠ .runDown := by decide +kernel

/-- Arm A's group driven with a level above 0, and a window of arm A OPEN while packer 0 moves. -/
theorem test_witness_ValveFramesArePlaced :
    (withValve .packer0 drivenGroup weighing).calm ∧ ((withValve .packer0 drivenGroup weighing).weighUnit .armA).isOpen = true ∧
    0 < ((withValve .packer0 drivenGroup weighing).valve .packer0).levels.sum := by decide +kernel

/-- Packer 1's last frame was placed some time ago. -/
def stillFor (ms : Nat) : State := withValve .packer1 (fun g => { g with sinceFrame := ms }) base

theorem test_witness_ValveFramesArePlaced_still :
    (stillFor 100).settled ∧ (∀ l ∈ ((stillFor 100).valve .packer1).levels, l = 0) ∧
    ((stillFor 100).valve .packer1).levels.length = 6 ∧ 100 ≤ ((stillFor 100).valve .packer1).sinceFrame ∧
    (stillFor 99).settled ∧ ((stillFor 99).valve .packer1).sinceFrame < 100 ∧ running.settled ∧
    (∃ l ∈ (running.valve .armA).levels, 0 < l) := by decide +kernel

/-- Arm A's gross window with some counts of 1000. -/
def counted (n : Nat) : State := withWeigh (fun u => { u with window := List.replicate n 1000 }) weighing
def sample1000 : Frame := { id := 5, data := [0, 0x03, 0xE8] }

theorem test_witness_WindowSettlesOrTimesOut :
    ((counted 7).weighUnit .armA).state = .collectGross ∧ ((counted 7).weighUnit .armA).isOpen = true ∧
    ((counted 7).weighUnit .armA).quiet = true ∧ ((counted 7).weighUnit .armA).record = some 1 ∧
    (counted 7).cfg.lcOffset + 3 ≤ sample1000.data.length ∧ sampleOf (counted 7).cfg.lcOffset sample1000 = 1000 ∧
    ((counted 7).weighUnit .armA).lengthInForce = 8 ∧ ((counted 7).weighUnit .armA).window.length + 1 = 8 ∧
    ((counted 6).weighUnit .armA).window.length + 1 ≠ 8 ∧ ((counted 8).weighUnit .armA).window.length = 8 ∧
    ((counted 7).weighUnit .armA).window.length < ((counted 7).weighUnit .armA).lengthInForce := by decide +kernel

/-- Arm A's tare window with some counts of 1000, a gross of 200 kg standing in the unit. -/
def taring (n : Nat) : State :=
  withWeigh (fun u => { u with state := .collectTare, gross := some { grams := some 200000, flags := {} } }) (counted n)

theorem test_witness_WindowSettlesOrTimesOut_tare :
    ((taring 7).weighUnit .armA).state = .collectTare ∧ ((taring 7).weighUnit .armA).isOpen = true ∧
    ((taring 7).weighUnit .armA).quiet = true ∧ ((taring 7).weighUnit .armA).record = some 1 ∧
    ((taring 7).weighUnit .armA).window.length + 1 = ((taring 7).weighUnit .armA).lengthInForce ∧
    ((taring 8).weighUnit .armA).window.length = ((taring 8).weighUnit .armA).lengthInForce ∧
    ((taring 8).weighUnit .armA).gross = some { grams := some 200000, flags := {} } := by decide +kernel

theorem test_witness_GapEndsTheWindowVoid :
    weighing.settled ∧ (weighing.weighUnit .armA).state = .collectGross ∧ (weighing.weighUnit .armA).isOpen = true ∧
    (weighing.weighUnit .armA).quiet = true ∧
    (weighing.weighUnit .armA).gapTimer.running = true ∧ (weighing.weighUnit .armA).record = some 1 ∧
    (weighing.arm .armA).state = .running ∧ (weighing.arm .armA).singleStep = true ∧ (weighing.arm .armA).refused = false ∧
    (weighing.arm .armA).position = some 1 ∧
    weighing.programOf .armA = some { valid := true, firstStep := 5, stepCount := 2, returnStep := 1 } ∧
    weighing.currentStep .armA = some (fixedStep .weighGross) ∧ weighing.stepAt .armA 2 = some positionStep ∧
    weighing.noneWaitsBut ArmId.armA.consumer ∧
    (∀ c : ChamberId, (weighing.chamber c).state ≠ .quiet ∧
      ((weighing.chamber c).state = .idle → (weighing.chamber c).pending = false)) ∧
    (∀ b : ArmId, b ≠ .armA → (weighing.weighUnit b).quiet = false) := by
  refine ⟨?_, ?_, ?_, ?_, ?_, ?_, ?_, ?_, ?_, ?_, ?_, ?_, ?_, ?_, fun c => ?_, fun b => ?_⟩
  case refine_15 => cases c <;> decide +kernel
  case refine_16 => cases b <;> decide +kernel
  all_goals decide +kernel

/-- A net of half a division less one gram and of half a division, at and above the capacity. -/
theorem test_witness_WeightIsComputedInStages :
    workedFactors.length = 16 ∧ workedFactors[1500 / 100]? = some 65626 ∧
    (1 : Nat) ≤ 50 ∧ netOf workedCal 50 500024 0 false = (10000, {}) ∧
    netOf workedCal 50 500025 0 false = (10000, { overrange := true }) ∧
    netOf workedCal 50 0 1 false = (0, { negative := true, belowMin := true }) := by decide +kernel

/-- Arm A PAUSED in its TAG step with a decision wanted, and a tag frame of tag `n` at port C. -/
def tagFrameOf (n : Nat) : Frame := { id := 5, data := [0, 0, 0, BitVec.ofNat 8 n, 1] }
def deciding (n : Nat) (e : BinEntry) : State :=
  let s := oneFrame (tagFrameOf n) (inCycle .paused 0 2)
  { s with
    routes := s.routes.set 0 (routeTo .tagA 0),
    bins := { s.bins with
      entries := [bin 7, e],
      requests := { s.bins.requests with fst := { state := .waitRead, candidate := none, record := 1, sizeClass := 2, askedAt := 0 } } } }

theorem test_witness_BinDecisionTable :
    (deciding 9 (bin 9)).settled ∧ (deciding 9 (bin 9)).binsAscending ∧ (deciding 9 (bin 9)).bins.update = none ∧
    ((deciding 9 (bin 9)).arm .armA).inCycle = true ∧ ((deciding 9 (bin 9)).arm .armA).state ≠ .running ∧
    winner (deciding 9 (bin 9)).routes .portC (tagFrameOf 9) = some 0 ∧
    (deciding 9 (bin 9)).cfg.tagOffset + 5 ≤ (tagFrameOf 9).data.length ∧
    qualityOf (deciding 9 (bin 9)).cfg.tagOffset (tagFrameOf 9) ≠ 0 ∧ tagOf (deciding 9 (bin 9)).cfg.tagOffset (tagFrameOf 9) = 9 ∧
    bin 9 ∈ (deciding 9 (bin 9)).bins.entries ∧ (bin 9).data.status = .active ∧ (bin 9).data.stream = ArmId.armA.chamber.number ∧
    (bin 9).lastLift ≠ .set ∧ (∀ b ∈ (deciding 8 (bin 9)).bins.entries, b.data.tag ≠ 8) ∧ (deciding 8 (bin 9)).settled ∧
    (deciding 8 (bin 9)).cfg.unknownPolicy = .continueCycle ∧ (deciding 9 (bin 9)).cfg.noTagPolicy = .continueCycle := by
  decide +kernel

theorem test_witness_PackNowStartsTheStroke :
    ready.calm ∧ ready.watch.isHeld = false ∧ (0 : Byte).toNat = ChamberId.chamber0.number ∧
    (1 : Byte).toNat = ChamberId.chamber1.number ∧ (ready.chamber .chamber0).state = .idle ∧
    ready.given ChamberId.chamber0.packPermit = true ∧ base.given ChamberId.chamber0.packPermit = false ∧
    ready.fits ChamberId.chamber0.consumer (ready.chamberSettings .chamber0).strokeDemand ∧
    ready.roleValue ChamberId.chamber0.bladeRole = none ∧ ready.quietRaised = false := by decide +kernel

theorem test_witness_DischargeIsJudgedInOrder :
    (stroking .sweep .sweep).calm ∧ ((stroking .sweep .sweep).chamber .chamber0).state ≠ .idle ∧ base.calm ∧
    base.given ChamberId.chamber0.dischargePermit = false ∧ running.given ChamberId.chamber0.dischargePermit = true ∧
    (running.arm ChamberId.chamber0.arm).inCycle = true ∧
    2048 ≤ (ready.setLog { ready.log with records := List.replicate 2048 openLift }).log.records.length ∧
    ready.calm ∧ ready.watch.isHeld = false ∧ (ready.chamber .chamber0).state = .idle ∧
    ready.given ChamberId.chamber0.dischargePermit = true ∧ (ready.arm ChamberId.chamber0.arm).inCycle = false ∧
    (ready.setLog { ready.log with records := List.replicate 2047 openLift }).log.records.length < 2048 ∧
    ¬ ((ready.chamberSettings .chamber0).fillFull = 0 ∨ (ready.chamberSettings .chamber0).massFull = 0) := by decide +kernel

theorem test_witness_StrokeTimersExpire :
    faultedChamber.calm ∧ faultedChamber.watch.isHeld = false ∧ (faultedChamber.chamber .chamber0).state = .faulted ∧
    (faultedChamber.valve ChamberId.chamber0.consumer).driving = false ∧
    faultedChamber.given ChamberId.chamber0.packPermit = false ∧ base.settled ∧ (base.chamber .chamber0).state ≠ .faulted ∧
    2 ≤ (2 : Byte).toNat ∧
    (stroking .ret .ret).calm ∧ ((stroking .ret .ret).chamber .chamber0).state = .ret ∧
    ((stroking .ret .ret).chamber .chamber0).phaseTimer.running = true ∧
    (stroking .ret .ret).noneWaitsBut ChamberId.chamber0.consumer ∧ base.settled ∧
    (base.chamber .chamber0).phaseTimer.running = false := by decide +kernel

theorem test_witness_StrokeTimersExpire_quiet :
    (stroking .quiet .pack).calm ∧ ((stroking .quiet .pack).chamber .chamber0).state = .quiet ∧
    ((stroking .quiet .pack).chamber .chamber0).phase = .pack ∧
    ((stroking .quiet .pack).chamber .chamber0).quietTimer.running = true ∧
    ((stroking .quiet .pack).chamber .chamber0).quieted = true ∧ ((stroking .quiet .pack).chamber .chamber0).entered = true ∧
    (stroking .quiet .pack).roleValue ChamberId.chamber0.bladeRole = none ∧
    (stroking .quiet .pack).roleValue ChamberId.chamber0.pressRole = none ∧
    ((stroking .sweep .sweep).chamber .chamber0).state ≠ .quiet := by decide +kernel

/-- Chamber 0 in a phase with values of BLADE and PRESS. -/
def blading (st : ChamberState) (p : StrokePhase) (blade : Int) (press : Option Int) : State :=
  let s := stroking st p
  { s with
    cfg := { s.cfg with roles := (s.cfg.roles.set 9 (some 1)).set 11 (some 2) },
    signals := (s.signals.set 1 { SignalEntry.cleared with valid := true, value := some blade, state := .fresh }).set 2
      { SignalEntry.cleared with valid := true, value := press, state := if press.isSome then .held else .lost } }

/-- The sweep end reached and one short of it; the packing pressure with the fill from BLADE; the end band alone; the home band. -/
theorem test_witness_StrokePhasesEnd :
    (blading .sweep .sweep 900 none).calm ∧ ((blading .sweep .sweep 900 none).chamber .chamber0).state = .sweep ∧
    (blading .sweep .sweep 900 none).roleValue .blade0 = some 900 ∧
    ((blading .sweep .sweep 900 none).chamberSettings .chamber0).sweepEnd = 900 ∧
    (blading .sweep .sweep 899 none).roleValue .blade0 = some 899 ∧
    (blading .pack .pack 300 (some 400)).roleValue .press0 = some 400 ∧
    ((blading .pack .pack 300 (some 400)).chamberSettings .chamber0).packPressure ≤ 400 ∧
    (blading .pack .pack 1000 none).roleValue .press0 = none ∧ (blading .pack .pack 1000 none).roleValue .blade0 = some 1000 ∧
    (blading .ret .ret 0 none).roleValue .blade0 = some 0 ∧ (blading .ret .ret 0 none).noneWaitsBut .packer0 := by
  decide +kernel

/-- A quiet request of arm A in a state. -/
def quieting (s : State) : State := withWeigh (fun u => { u with quiet := true }) s
/-- Chamber 0 as it was, with a number of tips or without its flow. -/
def tips (n : Nat) : State :=
  let s := withChamber (fun x => { x with tipCounter := n }) (stroking .pack .pack)
  { s with cfg := { s.cfg with chambers := { s.cfg.chambers with fst := { s.cfg.chambers.fst with autoPack := 8 } } } }
def ungranted : State := withChamber (fun x => { x with grantFlag := false }) (stroking .suspended .pack)

theorem test_witness_StrokesGiveWay :
    ((quieting (stroking .pack .pack)).calm ∧ ((quieting (stroking .pack .pack)).weighUnit .armA).quiet = true ∧
      ((quieting (stroking .pack .pack)).chamber .chamber0).quieted = false ∧
      ((quieting (stroking .quiet .pack)).chamber .chamber0).quieted = true) ∧
    ((stroking .quiet .pack).quietRaised = false ∧ ((stroking .quiet .pack).chamber .chamber0).entered = true) ∧
    ((stroking .suspended .pack).given .packPermit0 = true ∧ ((stroking .suspended .pack).chamber .chamber0).grantFlag = true ∧
      ((stroking .suspended .pack).chamber .chamber0).operatorFlag = false ∧ ungranted.calm ∧
      (ungranted.chamber .chamber0).grantFlag = false ∧
      ungranted.fits .packer0 (ungranted.chamberSettings .chamber0).strokeDemand) ∧
    ((ungiven (stroking .ret .ret)).given .packPermit0 = false ∧
      ((ungiven (stroking .waitSupply .sweep)).chamber .chamber0).state = .waitSupply ∧
      (ungiven (stroking .waitSupply .sweep)).noneWaitsBut .packer0) ∧
    (((tips 6).chamber .chamber0).tipCounter + 1 < ((tips 6).chamberSettings .chamber0).autoPack ∧
      ((tips 7).chamberSettings .chamber0).autoPack ≤ ((tips 7).chamber .chamber0).tipCounter + 1) := by
  refine ⟨?_, ?_, ?_, ?_, ?_⟩ <;> decide +kernel

theorem test_witness_ChargeTable :
    (tipped .accept 2187).flags.tipped = true ∧ (tipped .accept 2187).nDiv = some 2187 ∧
    (tipped .accept 2187).flags.billableByWeight = true ∧
    ({ tipped .relift 1 with flags := { tipped := true, gTilt := true } } : LogRecord).flags.billableByWeight = false ∧
    (tipped .unknown 1).decision ≠ .accept ∧ (tipped .unknown 1).decision ≠ .relift := by decide

/-- Page 3 with its mark set or clear, or its timers stopped. -/
def pageState (n : Nat) (spacing mark : Bool) : State :=
  withPortB (fun x => { x with queue := List.replicate n pageInQueue, transmitter := some (.fromQueue pageInQueue) })
    (base.setPage 3 { period := { running := spacing, left := 1 }, spacing := { running := spacing, left := 1 }, mark })

/-- Page 3 not yet noted as it stands. -/
def touchedPage (spacing : Bool) : State := (pageState 47 spacing false).touchPage 3

theorem test_witness_PageTimersSendThePage :
    (pageState 47 true true).settled ∧
    (pageState 47 true true).mgmt.pages[3]? = some { period := .start 1, spacing := .start 1, mark := true } ∧
    (pageState 47 true true).ports.snd.state ≠ .off ∧ (pageState 47 true true).ports.snd.queue.length < 48 ∧
    (pageState 47 true false).mgmt.pages[3]? = some { period := .start 1, spacing := .start 1, mark := false } ∧
    ((pageState 47 false false).pageTimers 3).period.running = false ∧
    (touchedPage false).calm ∧ (touchedPage false).mgmt.noted.length = 4 ∧
    (touchedPage false).mgmt.noted[3]? ≠ some ((touchedPage false).pageBytes 3) ∧
    (∀ q < 4, q ≠ 3 → (touchedPage false).mgmt.noted[q]? = some ((touchedPage false).pageBytes q)) ∧
    ((touchedPage false).pageTimers 3).spacing.running = false ∧ ((touchedPage true).pageTimers 3).spacing.running = true := by
  decide +kernel

/-- A request frame of node 15 at the head of port B's FIFO. -/
def requesting (data : List Byte) (s : State) : State := withPortB (fun x => { x with fifo := [{ id := 15, data }] }) s

/-- SERVICE level with an INSERT in progress. -/
def occupied : State := service.setMgmt { service.mgmt with inProgress := some (.insert, req 0 0 0 0) }

theorem test_witness_RequestFramesReachManagement :
    ((requesting [14] occupied).calm ∧ (requesting [14] occupied).ports.snd.fifo = [{ id := 15, data := [14] }] ∧
      (15 : CanId).toNat = (requesting [14] occupied).cfg.mreqBase.toNat + 15 ∧ [14].length < 8) ∧
    ((requesting [14, 0, 0, 0, 0, 0, 0, 0] service).calm ∧
      13 < (Frame.byte { id := 15, data := [14, 0, 0, 0, 0, 0, 0, 0] } 0).toNat) ∧
    ((requesting [13, 0, 0, 1, 0, 0, 0, 3] service).settled ∧ (requesting [13, 0, 0, 1, 0, 0, 0, 3] service).mgmt.inProgress = none ∧
      (requesting [13, 0, 0, 1, 0, 0, 0, 3] service).mgmt.service = true ∧ (req 0 0 1 3).value.toNat = 3) ∧
    (occupied.calm ∧ occupied.mgmt.inProgress ≠ none ∧ (Instr.watchContinueProcess (req 0 0 0 1)).wellFormed = true ∧
      (occupied.readWord 0 13 0).isSome = true ∧ occupied.readWord 15 0 0 = none) := by
  refine ⟨?_, ?_, ?_, ?_⟩ <;> decide +kernel

/-- The last table, and the read pointer at a CLOSED record. -/
theorem test_witness_IdentifyAndExamine :
    service.settled ∧ service.mgmt.inProgress = none ∧ tableSizes[(req 0 0 14 0).index.toNat]?.isSome = true ∧
    15 ≤ (req 0 0 15 0).index.toNat ∧ tableSizes[15]? = none ∧
    stored.settled ∧ stored.mgmt.inProgress = none ∧ (stored.readWord 11 0xFFFF 11).isSome = true ∧
    stored.log.records[stored.log.pointer]? = some (closedRecord 1) ∧ (closedRecord 1).closed = true ∧
    (req 11 11 0xFFFF 0).table = 11 ∧ (req 11 11 0xFFFF 0).word = 11 ∧ (req 11 11 0xFFFF 0).index = 0xFFFF ∧
    (base.readWord 11 0xFFFF 11).isNone = true ∧ (stored.readWord 15 0 0).isNone = true := by decide +kernel

/-- SERVICE level with the lock UNLOCKED, an entry of Frame Watch armed for port C, one route entry VALID, and arm A in cycle. -/
def depositing : State :=
  let s := inCycle .paused 0 1
  settle { s with
    cal := { s.cal with unlocked := true }, routes := s.routes.set 2 (routeTo .weighA 3),
    watch := { s.watch with
      entries := s.watch.entries.set 1 { armed := true, id := 9, mask := 255, source := .portC, kind := .mirror, hits := 0 } } }

theorem test_witness_DepositsAreJudged :
    (depositing.agenda = [] ∧ depositing.mgmt.noted = depositing.allPages ∧
      (∀ e ∈ depositing.watch.entries, e.armed = true → e.source ≠ .own) ∧ depositing.mgmt.inProgress = none ∧
      depositing.mgmt.service = true ∧ depositing.cal.unlocked = true) ∧
    (15 ≤ (req 15 0 0 0).table ∧ (req 1 8 2 0).word = 8 ∧ (depositing.readWord 1 2 8).isSome = true ∧
      (depositing.readWord 9 4 0).isSome = true ∧ base.mgmt.service = false ∧ base.cal.unlocked = false) ∧
    (depositing.routes[2]? = some (routeTo .weighA 3) ∧ (routeTo .weighA 3).valid = true ∧
      (depositing.watch.entries[1]?.map WatchEntry.armed) = some true ∧
      depositing.programOf .armA = some { valid := true, firstStep := 0, stepCount := 4, returnStep := 3 } ∧
      (depositing.arm .armA).inCycle = true ∧ (req 5 0 3 0).value = 0) ∧
    ((req 0 0 13 64).value.toInt = 64 ∧ (req 0 0 13 0xFFFFFFFF).value.toInt = -1 ∧
      (depositing.steps[7]?.map StepEntry.valid) = some false ∧ (req 5 2 7 1001).value.toInt = 1001) ∧
    ((req 9 1 0 131071).value.toNat = 131071 ∧ 131071 < (req 9 1 0 131072).value.toNat ∧
      (req 8 1 0xFFFF 16777215).value.toNat = 16777215 ∧ (req 1 0 2 1).value.toNat ≤ 1 ∧ 2 ≤ (req 12 0 1 2).value.toNat) ∧
    (depositing.tariffs[31]? = some .cleared ∧ (req 10 2 31 65535).word = 2 ∧ 65535 < (req 10 2 31 65536).value.toNat ∧
      depositing.tariffs.length ≤ (req 10 2 32 0).index.toNat ∧ 3 ≤ (req 10 3 0 0).word) := by
  refine ⟨?_, ?_, ?_, ?_, ?_, ?_⟩ <;> decide +kernel

/-- The staging entry filled, with a table of 4095 entries or of 4096. -/
def staged : State := base.setBins { base.bins with staging := { BinData.zero with tag := 7, household := 1 } }

theorem test_witness_BinChangesGoInFlightAndComplete :
    staged.settled ∧ staged.mgmt.inProgress = none ∧ staged.bins.staging.tag ≠ 0 ∧ staged.bins.staging.household ≠ 0 ∧
    (List.replicate 4095 (bin 7)).length < 4096 ∧ twoBins.settled ∧
    (∃ e ∈ twoBins.bins.entries, e.data.tag = (req 0 0 0 7).value.toNat) ∧
    completing.settled ∧ completing.binsAscending ∧ completing.bins.update = some (.insert (bin 8).data) ∧
    completing.bins.waiting = [] ∧ completing.mgmt.inProgress = some (.insert, req 0 0 0 0) ∧ base.settled ∧ base.bins.update = none := by decide +kernel

theorem test_witness_ReleaseFreesTheCoveredRecords :
    stored.calm ∧ stored.mgmt.inProgress = none ∧ (∀ r ∈ stored.log.records, 1 ≤ r.seq ∧ r.seq ≤ 4294967295) ∧
    stored.log.records = [{ closedRecord 1 with seq := 1 }] ++ [openLift] ∧ openLift.closed = false ∧
    (((req 0 0 0 5).value.toNat : Int) - 1 - 10) % 4294967295 + 1 = 4294967290 ∧
    (((req 0 0 0 1).value.toNat : Int) - 1 - 0) % 4294967295 + 1 = 1 := by decide +kernel

theorem test_witness_DayLockAndReset :
    base.settled ∧ base.mgmt.inProgress = none ∧ base.bins.update = none ∧ base.cal.unlocked = false ∧
    ({ base with cal := { base.cal with unlocked := true } } : State).calm := by decide +kernel

theorem test_witness_DayLockAndReset_reset :
    service.calm ∧ service.mgmt.inProgress = none ∧ service.mgmt.service = true ∧ base.pending = [] ∧
    (base.setMgmt { base.mgmt with resetDue := true }).mgmt.resetDue = true := by decide +kernel

theorem test_witness_ClearEmptiesTheTable :
    service.settled ∧ service.mgmt.inProgress = none ∧ service.mgmt.service = true ∧ (req 1 0 0 0).table = 1 ∧
    (req 5 0 0 0).table = 5 ∧ (req 6 0 0 0).table = 6 ∧ (req 7 0 0 0).table = 7 ∧ (req 8 0 0 0).table = 8 ∧
    (req 10 0 0 0).table = 10 ∧ (req 12 0 0 0).table = 12 ∧ service.bins.update = none ∧ service.watch.isHeld = false ∧
    (service.arm .armA).inCycle = false ∧ (service.arm .armB).inCycle = false := by decide +kernel

/-- No reader bound (the Signal, Term and Group Tables), an arm in cycle, a hold, an update in flight, no SERVICE level. -/
theorem test_witness_ClearEmptiesTheTable_refused :
    service.unread ∧
    (paused.settled ∧ paused.mgmt.service = true ∧ (paused.arm .armA).inCycle = true) ∧
    ((settle (service.setWatch { service.watch with isHeld := true })).settled ∧
      (settle (service.setBins { service.bins with update := some (.remove 3) })).settled) ∧
    (base.settled ∧ base.mgmt.service = false ∧ base.mgmt.inProgress = none) :=
  ⟨unread_of _ (by decide) (by decide) (by decide), by decide +kernel, by decide +kernel, by decide +kernel⟩

theorem test_witness_PortRequestActsOnThePort :
    service.calm ∧ service.mgmt.inProgress = none ∧ service.mgmt.service = true ∧ (req 0 0 1 2).index = 1 ∧
    (req 0 0 1 2).value = 2 ∧ (service.port .portB).forwardEnable = true := by decide +kernel

/-- Entry 3 of Frame Watch armed for every frame of port C, and a frame waiting. -/
def watching (k : WatchKind) (s : State) : State :=
  let s := oneFrame frame8 s
  settle { s with
    cfg := { s.cfg with miss := { fst := .drop, snd := .drop } },
    watch := { s.watch with
      entries := s.watch.entries.set 3 { armed := true, id := 0, mask := 0, source := .portC, kind := k, hits := 65535 } } }

/-- The armed entry. -/
def armedEntry (k : WatchKind) : WatchEntry := { armed := true, id := 0, mask := 0, source := .portC, kind := k, hits := 65535 }

theorem test_witness_WatchTestsEveryFrame :
    (watching .mirror base).watch.entries[3]? = some (armedEntry .mirror) ∧
    (watching .holdBefore base).watch.entries[3]? = some (armedEntry .holdBefore) ∧
    frame8.id &&& (armedEntry .mirror).mask = (armedEntry .mirror).id &&& (armedEntry .mirror).mask ∧
    (∀ j : Nat, j < 8 → j ≠ 3 → ((watching .mirror base).watch.entries[j]?.map WatchEntry.armed) = some false) ∧
    (watching .holdBefore base).watch.isHeld = false ∧ 2 < frame8.data.length ∧
    (∀ e ∈ base.watch.entries, e.armed = false) := by decide +kernel

/-- A state in which a hold finds arm A RUNNING and chamber 0 in PACK, and one in which it finds an OPEN window. -/
def holdFinds : State := watching .holdBefore (withValve .armA drivenGroup
  (withArm (fun _ => running.arm .armA) (stroking .pack .pack)))

theorem follows (s : State) (h : (s.valve .armA).driving = decide ((s.arm .armA).state = .running ∨ (s.arm .armA).state = .manual) ∧
      (s.valve .armB).driving = decide ((s.arm .armB).state = .running ∨ (s.arm .armB).state = .manual))
    (k : ∀ c : ChamberId, (s.valve c.consumer).driving =
      decide ((s.chamber c).state = .sweep ∨ (s.chamber c).state = .pack ∨ (s.chamber c).state = .ret))
    (l : ∀ c : Consumer, (s.valve c).driving = false → (s.valve c).still) : s.groupsFollowOwners :=
  ⟨fun a => by cases a; exacts [h.1, h.2], k, l⟩

theorem test_witness_HoldStopsTheBlocks :
    (heldState.settled ∧ heldState.watch.isHeld = true) ∧
    (holdFinds.agenda = [] ∧ holdFinds.mgmt.noted = holdFinds.allPages ∧ holdFinds.watch.isHeld = false ∧
      holdFinds.ports.fst.fifo = [frame8] ∧ holdFinds.watch.entries[3]? = some (armedEntry .holdBefore) ∧
      (holdFinds.arm .armA).state = .running ∧ (holdFinds.chamber .chamber0).state = .pack) ∧
    holdFinds.groupsFollowOwners ∧ (∀ a, (holdFinds.weighUnit a).quiet = false ∧ (holdFinds.weighUnit a).isOpen = false) ∧
    (∀ a, ((watching .holdAfter weighing).weighUnit a).isOpen = true → ((watching .holdAfter weighing).weighUnit a).quiet = true) ∧
    (∀ c, ((watching .holdAfter weighing).chamber c).state = .idle ∧ ((watching .holdAfter weighing).chamber c).pending = false) ∧
    winner (watching .holdAfter weighing).routes .portC frame8 = none ∧ (watching .holdAfter weighing).cfg.miss.fst = .drop ∧
    (watching .holdAfter weighing).groupsFollowOwners := by
  refine ⟨by decide +kernel, by decide +kernel, follows _ (by decide +kernel) (fun c => ?_) (fun c => ?_), fun a => ?_,
    fun a => ?_, fun c => ?_, by decide +kernel, by decide +kernel, follows _ (by decide +kernel) (fun c => ?_) (fun c => ?_)⟩
  · cases c <;> decide +kernel
  · cases c <;> decide +kernel
  · cases a <;> decide +kernel
  · cases a <;> decide +kernel
  · cases c <;> decide +kernel
  · cases c <;> decide +kernel
  · cases c <;> decide +kernel

/-- Arm A HELD from a state, and chamber 0 HELD from a phase. -/
def heldArm (st : ArmState) : State :=
  let s := withArm (fun x => { x with prior := some st }) (inCycle .held 0 1)
  s.setWatch { s.watch with isHeld := true, holdEntry := some 0 }
def heldPack : State :=
  let s := withChamber (fun x => { x with prior := some .pack }) (stroking .held .pack)
  s.setWatch { s.watch with isHeld := true, holdEntry := some 0 }

theorem test_witness_HoldEndFreesTheBlocks :
    ((heldArm .running).settled ∧ (heldArm .running).watch.isHeld = true ∧ (heldArm .running).watch.register = none ∧
      (heldArm .running).mgmt.inProgress = none ∧ (heldArm .running).mgmt.service = true ∧
      ((heldArm .running).arm .armA).state = .held ∧ ((heldArm .running).arm .armA).prior = some .running ∧
      (heldArm .running).given ArmId.armA.runGuard = true ∧ (heldArm .running).currentStep .armA = some positionStep ∧
      (heldArm .running).termTrue 0 = false ∧ (heldArm .running).noneWaitsBut .armA ∧
      ((heldArm .running).valve .armA).driving = false ∧ (heldArm .running).serviceHolds = false) ∧
    ((ungiven (heldArm .waitSupply)).settled ∧ (ungiven (heldArm .waitSupply)).given ArmId.armA.runGuard = false ∧
      (ungiven (heldArm .manual)).settled ∧ (ungiven (heldArm .manual)).given ArmId.armA.manualPermit = false) ∧
    (heldPack.settled ∧ (heldPack.chamber .chamber0).prior = some .pack ∧ (heldPack.chamber .chamber0).phase = .pack ∧
      (heldPack.chamber .chamber0).entered = true ∧ heldPack.given ChamberId.chamber0.packPermit = true ∧
      heldPack.roleValue ChamberId.chamber0.bladeRole = none ∧ heldPack.roleValue ChamberId.chamber0.pressRole = none ∧
      (heldPack.valve .packer0).driving = false ∧ (ungiven heldPack).given ChamberId.chamber0.packPermit = false) ∧
    (∀ x, ((heldArm .running).chamber x).state ≠ .held ∧ ((heldArm .running).chamber x).pending = false) ∧
    (∀ a, (heldPack.arm a).state ≠ .held) := by
  refine ⟨by decide +kernel, by decide +kernel, by decide +kernel, fun x => ?_, fun a => ?_⟩
  · cases x <;> decide +kernel
  · cases a <;> decide +kernel

def heldOwn : State :=
  let s := withValve .armA drivenGroup service
  s.setWatch { s.watch with isHeld := true, holdEntry := some 0, register := some (.own (.slot .portB 0) frame8) }

theorem test_witness_WatchContinueEndsTheHold :
    service.settled ∧ service.watch.isHeld = false ∧ heldOwn.settled ∧ heldOwn.mgmt.inProgress = none ∧
    heldOwn.mgmt.service = true ∧ heldOwn.watch.isHeld = true ∧
    heldOwn.watch.register = some (.own (.slot .portB 0) frame8) ∧
    (∀ c : Consumer, OwnDest.slot .portB 0 = .slot .portB c.number → (heldOwn.valve c).driving = true) ∧
    (∀ a, (heldOwn.arm a).state ≠ .held) ∧ (∀ c, (heldOwn.chamber c).state ≠ .held) ∧
    (∀ c, (heldOwn.chamber c).pending = false) := by
  refine ⟨?_, ?_, ?_, ?_, ?_, ?_, ?_, fun c => ?_, fun a => ?_, fun c => ?_, fun c => ?_⟩
  case refine_8 => cases c <;> decide +kernel
  case refine_9 => cases a <;> decide +kernel
  case refine_10 => cases c <;> decide +kernel
  case refine_11 => cases c <;> decide +kernel
  all_goals decide +kernel

/-- HELD with a frame of port B in the register, which entry 0 wins with an action for arm A, and an entry of Frame Watch armed. -/
def heldFrame (x : RouteAction) (enable : Bool) (f : Frame) : State :=
  let s := withPort (fun x => { x with forwardEnable := enable }) service
  settle { s with
    cfg := { s.cfg with miss := { fst := .drop, snd := .drop } },
    routes := s.routes.set 0 { routeTo .armA 0 with source := .any, action := x },
    watch := { s.watch with
      isHeld := true, holdEntry := some 0, register := some (.received .portB f),
      entries := s.watch.entries.set 1 (armedEntry .holdBefore) } }

theorem test_witness_WatchContinueEndsTheHold_received :
    (∀ x ∈ [RouteAction.drop, .forward, .consume],
      (heldFrame x true frame8).agenda = [] ∧ (heldFrame x true frame8).mgmt.noted = (heldFrame x true frame8).allPages ∧
      (∀ e ∈ (heldFrame x true frame8).watch.entries, e.armed = true → e.source ≠ .own) ∧
      (heldFrame x true frame8).mgmt.inProgress = none ∧ (heldFrame x true frame8).mgmt.service = true ∧
      (heldFrame x true frame8).watch.isHeld = true ∧
      (heldFrame x true frame8).watch.register = some (.received .portB frame8)) ∧
    ((heldFrame .forward true frame8).port .portC).forwardEnable = true ∧
    ((heldFrame .forward false frame8).port .portC).forwardEnable = false ∧
    Frame.byte { id := 5, data := [7] } 0 = 7 ∧ ((heldFrame .consume true { id := 5, data := [7] }).arm .armA).state ≠ .faulted ∧
    (∀ c, ((heldFrame .drop true frame8).chamber c).pending = false) ∧
    (∀ a, ((heldFrame .drop true frame8).arm a).state ≠ .held) := by
  refine ⟨?_, ?_, ?_, ?_, ?_, fun c => ?_, fun a => ?_⟩
  case refine_6 => cases c <;> decide +kernel
  case refine_7 => cases a <;> decide +kernel
  all_goals decide +kernel

/-- VEHICLE_SPEED is handed to page 2 after the guard to arm A, so that the zero frame leaves first (R38, Table 2-3). -/
def speeding : State :=
  let s := oneFrame { id := 5, data := [100] } running
  let e : SignalEntry := { SignalEntry.cleared with valid := true, source := 5, width := 8, value := some 5, state := .fresh }
  let s := { s with
    cfg := { s.cfg with roles := s.cfg.roles.set 1 (some 1), roleGroups := (List.replicate 10 0).set 2 1 },
    signals := s.signals.set 1 e,
    terms := s.terms.set 0 { TermEntry.cleared with valid := true, signal := 1, comparison := .lt, thresholdA := 50, result := true },
    groups := s.groups.set 0 { GroupEntry.cleared with
      valid := true, refs := [some { term := 0, negate := false }, none, none, none, none, none], state := .isTrue },
    routes := s.routes.set 5 (routeTo .signals 0) }
  settle (s.setMgmt { s.mgmt with pages := List.replicate 4 { period := .start 500, spacing := .stopped, mark := false } })

theorem test_speed_page_after_guard :
    let t := after (.frameTaken .portC) speeding
    (t.arm .armA).state = .suspended ∧
    t.ports.snd.transmitter = some (.fromSlot 0 { id := t.cfg.vcmdBase, data := [0, 0, 0, 0, 0, 0, 1, 255] }) ∧
    t.ports.snd.queue.map (fun q => q.frame.id.toNat) = [t.cfg.statBase.toNat, t.cfg.statBase.toNat + 2] ∧
    t.mgmt.noted = t.allPages := by decide +kernel

/-- HELD from SUSPENDED at its TAG step, with a tag in the window, and a PAUSE of the arm in the hold register. -/
def heldAtTag : State :=
  let s := withArm (fun x => { x with prior := some .suspended, lastTag := some { tag := 9, readAt := 0 } }) (inCycle .held 0 2)
  settle { s with
    routes := s.routes.set 0 (routeTo .armA 0),
    watch := { s.watch with isHeld := true, register := some (.received .portC { id := 5, data := [2] }) } }

/-- The decision made as the arm resumes is taken at once, and the held PAUSE finds the arm RUNNING in the next step (R96, R157). -/
theorem test_held_pause_follows_the_decision :
    let t := after (.watchContinueProcess (req 0 0 0 1)) heldAtTag
    (t.arm .armA).state = .paused ∧ (t.arm .armA).position = some 3 ∧ (t.arm .armA).keptEnd = false ∧
    t.log.records.map (fun r => r.decision) = [.unknown] := by decide +kernel

/-- A hold has just ended with arm A, which has lost its guard, holding the flow that arm B waits for. -/
def flowFreed : State :=
  let s := inCycle .held 0 1
  let s := { s with
    cfg := { s.cfg with roleGroups := s.cfg.roleGroups.set 2 0 },
    arms := { fst := { s.arms.fst with prior := some .running }, snd := { s.arms.fst with prior := some .waitSupply } },
    arbiter := { s.arbiter with grants := { q0 := 8, q1 := 0, q2 := 0, q3 := 0 }, waiting := [(.armB, 3)] } }
  settle s

/-- In either order of the two ends, arm B has its grant, and its group drives, before its held valve frame is settled: the frame is
placed (R73, R157). -/
theorem test_held_valve_frame_follows_the_grant :
    ∀ es ∈ [[Ev.armHoldEnd .armA, .armHoldEnd .armB], [.armHoldEnd .armB, .armHoldEnd .armA]],
      let t := drain 20 (flowFreed.postAll (es ++ settleEvents true (some (.own (.slot .portB 1) frame8))))
      t.agenda = [] ∧ (t.arm .armA).state = .suspended ∧ (t.arm .armB).state = .running ∧ t.watch.heldDiscarded = 0 ∧
      t.ports.snd.transmitter = some (.fromSlot 1 frame8) := by decide +kernel

/-- A TIME step with nothing left of either timer resumes RUNNING, where either expiry may come first (R51). -/
theorem test_spent_timers_wait_for_their_expiry :
    let s := withArm (fun x => { x with stepTimer := .stopped, durationTimer := .stopped }) (inCycle .paused 1 1)
    let t := after (.continueArm .armA) s
    (t.arm .armA).state = .running ∧ ((after (.durationTimerExpiry .armA) t).arm .armA).fault = .none ∧
    ((after (.stepTimerExpiry .armA) t).arm .armA).fault = .stepTimeout := by decide +kernel

/-- Under BOTH, delivered first, a frame is forwarded behind what its delivery sets off: the zero frame of the group it stops leaves
port B first (R10). -/
theorem test_both_forwards_behind_the_delivery :
    let f : Frame := { id := 5, data := [100] }
    let t := ((speeding.deliver 5 .signals f).post (.forward .portC 1 f)).finish
    t.ports.snd.transmitter = some (.fromSlot 0 { id := t.cfg.vcmdBase, data := [0, 0, 0, 0, 0, 0, 1, 255] }) ∧
    t.ports.snd.queue.map (fun q => q.frame.id.toNat) = [5, t.cfg.statBase.toNat, t.cfg.statBase.toNat + 2] := by decide +kernel

/-- Under BOTH a frame that takes its own gate away is forwarded all the same, before its delivery: it leaves port B ahead of the zero
frame of the group that the delivery stops (R18). -/
theorem test_both_forwards_before_the_gate_falls :
    let f : Frame := { id := 5, data := [100] }
    let e : RouteEntry := { routeTo .signals 1 with action := .both, cls := 1 }
    let t := (speeding.forwardAndDeliver 5 e .portC f).finish
    t.groupState 1 = .isFalse ∧ t.ports.snd.transmitter = some (.fromQueue
      { frame := f, cls := 1, origin := .forwarded, ofReset := false }) := by
  intro f e
  have h : speeding.forwardAndDeliver 5 e .portC f = _ := State.forwardAndDeliver_of_gateTaken rfl (by decide +kernel)
  rw [h]
  decide +kernel

end Sys2Proof.Tests
end

section
/-! SUPPORT. Own frames that no armed entry of Frame Watch watches, what status pages leave unchanged, and a command's hand-overs taken
one after another with status pages around them. -/

namespace Sys2Proof.Machine

section
variable {s t u v : State}

/-! ## Own frames that nobody watches -/

/-- No armed entry of Frame Watch watches own frames: an own frame goes straight to its queue or slot (R154). -/
abbrev State.unwatched (s : State) : Prop := ∀ e ∈ s.watch.entries, e.armed = true → e.source ≠ .own

theorem State.unwatched_of_disarmed (h : ∀ e ∈ s.watch.entries, e.armed = false) : s.unwatched :=
  fun e he ha => absurd ha (by simp [h e he])

theorem State.calm.unwatched (h : s.calm) : s.unwatched := State.unwatched_of_disarmed h.2

theorem State.watchTest_own_of_unwatched (h : s.unwatched) (p : PortId) (f : Frame) : s.watchTest none p f = (s, none) := by
  unfold State.watchTest
  rw [Watch.hits_own_of_unwatched h]
  rfl

theorem State.offerOwn_of_unwatched (h : s.unwatched) (d : OwnDest) (f : Frame) : s.offerOwn d f = s.placeOwn d f := by
  unfold State.offerOwn
  rw [State.watchTest_own_of_unwatched h]

/-! ## What an offered frame and status pages leave unchanged -/

/-- The model's note of what has left a port: nothing but the mark of a RESET reply (R164). -/
theorem State.noteLeft_eq (s : State) (l : List QFrame) :
    s.noteLeft l = s.setMgmt { s.mgmt with resetDue := s.mgmt.resetDue || l.any QFrame.ofReset } := by
  unfold State.noteLeft
  cases l.any QFrame.ofReset
  · simp only [Bool.or_false]; rfl
  · simp only [Bool.or_true]; rfl

theorem State.offerQueue_eq (s : State) (p : PortId) (q : QFrame) :
    s.offerQueue p q =
      (s.setPort p ((s.port p).offerQueue q).1).setMgmt
        { s.mgmt with resetDue := s.mgmt.resetDue || ((s.port p).offerQueue q).2.any QFrame.ofReset } :=
  State.noteLeft_eq _ _

/-- Status pages change port B and the Management Unit's timers, marks, notes and mark of a RESET reply alone. -/
theorem State.AfterPages.shape (h : s.AfterPages t) :
    ∃ x m, t = { s with ports := { s.ports with snd := x }, mgmt := m } ∧ m.inProgress = s.mgmt.inProgress ∧
      m.service = s.mgmt.service := by
  obtain ⟨l, p, n, -, rfl⟩ := State.afterPages_iff.1 h
  suffices k : ∃ x m, s.withPages l = { s with ports := { s.ports with snd := x }, mgmt := m } ∧
      m.inProgress = s.mgmt.inProgress ∧ m.service = s.mgmt.service by
    obtain ⟨x, m, e, hi, hs⟩ := k
    exact ⟨x, { m with pages := p, noted := n }, by rw [e]; rfl, hi, hs⟩
  clear h
  induction l generalizing s with
  | nil => exact ⟨_, _, rfl, rfl, rfl⟩
  | cons k l ih =>
    obtain ⟨x, m, e, hi, hs⟩ := ih (s := s.withPage k)
    rw [State.withPage, State.offerQueue_eq] at hi hs
    refine ⟨x, m, ?_, hi, hs⟩
    simp only [State.withPages, List.foldl_cons] at e ⊢
    rw [e, State.withPage, State.offerQueue_eq]
    rfl

theorem State.AfterPages.agenda_eq (h : s.AfterPages t) : t.agenda = s.agenda := by
  obtain ⟨x, m, rfl, -⟩ := h.shape; rfl

theorem State.AfterPages.watch_eq (h : s.AfterPages t) : t.watch = s.watch := by
  obtain ⟨x, m, rfl, -⟩ := h.shape; rfl

theorem State.AfterPages.cfg_eq (h : s.AfterPages t) : t.cfg = s.cfg := by
  obtain ⟨x, m, rfl, -⟩ := h.shape; rfl

theorem State.AfterPages.unwatched (h : s.AfterPages t) (hs : s.unwatched) : t.unwatched := by
  rw [State.unwatched, h.watch_eq]; exact hs

/-- The hand-overs that wait are replaced. -/
def State.handing (s : State) (l : List Ev) : State := { s with agenda := l }

@[simp] theorem State.handing_agenda (l : List Ev) : (s.handing l).agenda = l := rfl
@[simp] theorem State.handing_handing (l m : List Ev) : (s.handing l).handing m = s.handing m := rfl
theorem State.handing_self {l : List Ev} (h : s.agenda = l) : s.handing l = s := by subst h; rfl

theorem State.offerQueue_agenda (p : PortId) (q : QFrame) (l : List Ev) :
    (s.handing l).offerQueue p q = (s.offerQueue p q).handing l := by
  simp only [State.offerQueue_eq]; rfl

/-- The hand-overs that wait play no part in the sending of pages. -/
theorem State.AfterPages.withAgenda (h : s.AfterPages t) (l : List Ev) :
    (s.handing l).AfterPages (t.handing l) := by
  obtain ⟨k, p, n, hk, rfl⟩ := State.afterPages_iff.1 h
  refine State.afterPages_iff.2 ⟨k, p, n, hk, ?_⟩
  suffices e : (s.handing l).withPages k = (s.withPages k).handing l by rw [e]; rfl
  clear h hk
  induction k generalizing s with
  | nil => rfl
  | cons a k ih =>
    simp only [State.withPages, List.foldl_cons] at ih ⊢
    rw [← ih]
    congr 1
    exact State.offerQueue_agenda _ _ _

/-- The request in progress is replaced. -/
def State.inProgressAs (s : State) (r : Option (MgmtOp × Request)) : State := s.setMgmt { s.mgmt with inProgress := r }

theorem State.requestEnds_eq (s : State) : s.requestEnds = s.inProgressAs none := rfl

@[simp] theorem State.inProgressAs_inProgressAs (r r' : Option (MgmtOp × Request)) :
    (s.inProgressAs r).inProgressAs r' = s.inProgressAs r' := rfl

theorem State.inProgressAs_self {r : Option (MgmtOp × Request)} (h : s.mgmt.inProgress = r) : s.inProgressAs r = s := by
  subst h; rfl

theorem State.offerQueue_inProgressAs (r : Option (MgmtOp × Request)) (p : PortId) (q : QFrame) :
    (s.inProgressAs r).offerQueue p q = (s.offerQueue p q).inProgressAs r := by
  simp only [State.offerQueue_eq]; rfl

/-- The request in progress plays no part in the sending of pages. -/
theorem State.AfterPages.inProgressAs (h : s.AfterPages t) (r : Option (MgmtOp × Request)) :
    (s.inProgressAs r).AfterPages (t.inProgressAs r) := by
  obtain ⟨k, p, n, hk, rfl⟩ := State.afterPages_iff.1 h
  refine State.afterPages_iff.2 ⟨k, p, n, hk, ?_⟩
  suffices e : (s.inProgressAs r).withPages k = (s.withPages k).inProgressAs r by rw [e]; rfl
  clear h hk
  induction k generalizing s with
  | nil => rfl
  | cons a k ih =>
    simp only [State.withPages, List.foldl_cons] at ih ⊢
    rw [← ih]
    congr 1
    exact State.offerQueue_inProgressAs _ _ _

/-! ## Page changes where own frames are not watched -/

theorem State.sendPage_of_unwatched (h : s.unwatched) (p : Nat) :
    s.sendPage p =
      ((s.withPage p).setMgmt { (s.withPage p).mgmt with noted := s.mgmt.noted.set p (s.pageBytes p) }).setPage p
        { period := .start Config.periodMs, spacing := .start Config.spacingMs, mark := false } := by
  unfold State.sendPage
  dsimp only
  rw [State.offerOwn_of_unwatched (by exact h), State.placeOwn, State.withPage, State.offerQueue_eq, State.offerQueue_eq]
  rfl

theorem State.sendPage_afterPages_of_unwatched (h : s.unwatched) {p : Nat} (hp : p < 4) : s.AfterPages (s.sendPage p) := by
  rw [State.sendPage_of_unwatched h]
  exact (State.withPage_afterPages hp).trans (State.paged_afterPages _ _ _)

theorem State.pageChanged_afterPages_of_unwatched (h : s.unwatched) {p : Nat} (hp : p < 4) : s.AfterPages (s.pageChanged p) := by
  unfold State.pageChanged
  dsimp only
  split
  · exact State.paged_afterPages s _ _
  · exact State.sendPage_afterPages_of_unwatched h hp

theorem noteChanges_afterPages_of_unwatched (h : s.unwatched) (n : Nat) : s.AfterPages (noteChanges n s) := by
  induction n generalizing s with
  | zero => exact .refl s
  | succ n ih =>
    unfold noteChanges
    split
    · exact .refl s
    · rename_i p hp
      have a := State.pageChanged_afterPages_of_unwatched h (State.changedPage_lt hp)
      exact a.trans (ih (a.unwatched h))

theorem State.notePages_afterPages_of_unwatched (h : s.unwatched) : s.AfterPages s.notePages :=
  noteChanges_afterPages_of_unwatched h _

/-- With no hand-over waiting and own frames not watched, a command's effect is followed by status pages alone. -/
theorem State.finish_afterPages_of_unwatched (ha : s.agenda = []) (h : s.unwatched) : s.AfterPages s.finish := by
  have a := State.notePages_afterPages_of_unwatched h
  unfold State.finish
  rw [drain_of_empty (a.agenda_eq.trans ha)]
  exact a

/-- With no hand-over waiting and every page as it was noted, nothing follows. -/
theorem State.finish_of_noted (ha : s.agenda = []) (h : s.mgmt.noted = s.allPages) : s.finish = s := by
  unfold State.finish
  rw [State.notePages_of_noted h, drain_of_empty ha]

/-! ## Hand-overs one after another -/

/-- A command takes more hand-overs than any cascade below needs. -/
theorem cascadeBudget_eq : ∃ n, Config.cascadeBudget = n + 16 := ⟨2 ^ 128 - 16, rfl⟩

/-- The page changes that a hand-over makes are noted, whatever waits behind it. -/
theorem State.notePages_handing (h : s.unwatched) (ha : s.agenda = []) (l : List Ev) :
    ∃ w, s.AfterPages w ∧ (s.handing l).notePages = w.handing l := by
  have a : (s.handing l).AfterPages (s.handing l).notePages := State.notePages_afterPages_of_unwatched h
  refine ⟨(s.handing l).notePages.handing [], ?_, (State.handing_self a.agenda_eq).symm⟩
  have b := a.withAgenda []
  rwa [State.handing_handing, State.handing_self ha] at b

/-- The agenda `es` is taken hand-over by hand-over: each does what `act` says of it, or nothing, and sets off nothing, while `P`
holds of the hand-overs left. -/
structure TakesEach (act : Ev → Option (State → State)) (P : List Ev → State → Prop) : Prop where
  pages : ∀ {es v w}, P es v → v.AfterPages w → P es w
  step : ∀ {e r v}, P (e :: r) v → v.agenda = [] → v.unwatched →
    handle e v = (act e).getD id v ∧ ((act e).getD id v).agenda = [] ∧ ((act e).getD id v).unwatched ∧
      P r ((act e).getD id v)

theorem TakesEach.drain {act : Ev → Option (State → State)} {P : List Ev → State → Prop} (k : TakesEach act P)
    {es : List Ev} {n : Nat} (hn : es.length ≤ n) (hP : P es s) (ha : s.agenda = []) (hw : s.unwatched) (h : s.AfterPages t) :
    State.AfterEach (es.filterMap act) s (Machine.drain n (t.handing es)) := by
  induction es generalizing n s t with
  | nil =>
    rw [drain_of_empty rfl, State.handing_self (h.agenda_eq.trans ha)]
    exact h
  | cons e r ih =>
    obtain ⟨n, rfl⟩ : ∃ m, n = m + 1 := ⟨n - 1, by simp only [List.length_cons] at hn; omega⟩
    have hta := h.agenda_eq.trans ha
    obtain ⟨hh, hua, huw, hPu⟩ := k.step (k.pages hP h) hta (h.unwatched hw)
    obtain ⟨w, hw', hnote⟩ := State.notePages_handing huw hua r
    have hhead : (t.handing (e :: r)).takeHead e r = w.handing r := by
      rw [← hnote]
      unfold State.takeHead
      rw [show ({ t.handing (e :: r) with agenda := [] } : State) = t from State.handing_self hta, hh, State.postAll, hua]
      rfl
    rw [drain_cons rfl, hhead]
    have hr : r.length ≤ n := by simp only [List.length_cons] at hn; omega
    have next := ih hr hPu hua huw hw'
    cases he : act e with
    | none =>
      rw [he] at next
      rw [List.filterMap_cons_none he]
      exact h.afterEach next
    | some f =>
      rw [he] at next
      rw [List.filterMap_cons_some he]
      exact State.afterEach_cons h next

/-- The end of a command whose effect has handed on the events `es`. -/
theorem TakesEach.finish {act : Ev → Option (State → State)} {P : List Ev → State → Prop} (k : TakesEach act P)
    {es : List Ev} (hn : es.length ≤ 16) (hP : P es s) (ha : s.agenda = []) (hw : s.unwatched) :
    State.AfterEach (es.filterMap act) s (s.handing es).finish := by
  obtain ⟨w, hsw, e⟩ := State.notePages_handing hw ha es
  obtain ⟨n, hb⟩ := cascadeBudget_eq
  unfold State.finish
  rw [e, hb]
  exact k.drain (by omega) hP ha hw hsw

end

end Sys2Proof.Machine
end

section
/-! SUPPORT. What the status pages read of a port, and the receive and transmit sides of a port unit. -/

namespace Sys2Proof.Machine

section
variable {s t : State}

/-! ## What the status pages read -/

/-- What page 3 reads of a port. -/
def Port.pageView (x : Port) : PortState × Bool × Nat × Nat × List Nat × List Nat × List Nat :=
  (x.state, x.forwardEnable, x.counters.txFlushed, x.counters.busoffCount, x.counters.txDrop, x.counters.txEvict,
   x.counters.superseded)

theorem State.page3_congr (hf : t.ports.fst.pageView = s.ports.fst.pageView) (hs : t.ports.snd.pageView = s.ports.snd.pageView) :
    t.page3 = s.page3 := by
  simp only [Port.pageView, Prod.mk.injEq] at hf hs
  obtain ⟨a1, a2, a3, a4, a5, a6, a7⟩ := hf
  obtain ⟨b1, b2, b3, b4, b5, b6, b7⟩ := hs
  simp only [State.page3, *]

/-- A port of which page 3 reads the same leaves every page as it was. -/
theorem State.allPages_setPort {p : PortId} {x : Port} (h : x.pageView = (s.port p).pageView) :
    (s.setPort p x).allPages = s.allPages := by
  have h3 : (s.setPort p x).page3 = s.page3 := by
    cases p
    · exact State.page3_congr h rfl
    · exact State.page3_congr rfl h
  show [_, _, _, _] = [_, _, _, _]
  simp only [State.pageBytes, h3]
  rfl

/-- A state that agrees with a settled one in its agenda, watch entries, notes and pages is settled. -/
theorem State.settled.congr (h : s.settled) (ha : t.agenda = s.agenda) (hw : t.watch.entries = s.watch.entries)
    (hn : t.mgmt.noted = s.mgmt.noted) (hp : t.allPages = s.allPages) : t.settled :=
  ⟨⟨ha.trans h.1.1, hw ▸ h.1.2⟩, hn.trans (h.2.trans hp.symm)⟩

theorem State.settled.setPort (h : s.settled) {p : PortId} {x : Port} (hx : x.pageView = (s.port p).pageView) :
    (s.setPort p x).settled :=
  h.congr rfl rfl rfl (State.allPages_setPort hx)

end

/-! ## The choice of the transmitter (R10) -/

/-- The lowest pending slot stands behind empty ones. -/
theorem firstPending_of_first {f : Frame} : ∀ {l : List (Option Frame)} {n : Nat} (k : Nat), l[n]? = some (some f) →
    (∀ m < n, l[m]? = some none) → firstPending k l = some (k + n, f)
  | [], _, _, h, _ => by simp at h
  | o :: l, 0, k, h, _ => by
    obtain rfl : o = some f := by simpa using h
    rfl
  | o :: l, n + 1, k, h, hm => by
    obtain rfl : o = none := by simpa using hm 0 (Nat.succ_pos n)
    have := firstPending_of_first (k + 1) (by simpa using h) (fun m hl => by simpa using hm (m + 1) (Nat.succ_lt_succ hl))
    rw [firstPending, this, Nat.add_right_comm, Nat.add_assoc]

theorem firstPending_of_none {l : List (Option Frame)} (k : Nat) (h : ∀ o ∈ l, o = none) : firstPending k l = none := by
  induction l generalizing k with
  | nil => rfl
  | cons o l ih =>
    obtain rfl := h o List.mem_cons_self
    exact ih (k + 1) fun o ho => h o (List.mem_cons_of_mem _ ho)

/-- A port that is sending, or OFF, makes no choice. -/
theorem Port.choose_of_busy {x : Port} (h : x.state = .off ∨ x.transmitter ≠ none) : x.choose = x := by
  unfold Port.choose
  split
  · rfl
  · split
    · rfl
    · rename_i hn; exact absurd hn (h.resolve_left ‹_›)

theorem Port.choose_of_pending {x : Port} (hs : x.state ≠ .off) (ht : x.transmitter = none) {n : Nat} {f : Frame}
    (h : x.slots[n]? = some (some f)) (hm : ∀ m < n, x.slots[m]? = some none) :
    x.choose = { x with slots := x.slots.set n none, transmitter := some (.fromSlot n f) } := by
  unfold Port.choose
  rw [if_neg hs, ht, firstPending_of_first 0 h hm, Nat.zero_add]

theorem Port.choose_of_queued {x : Port} (hs : x.state ≠ .off) (ht : x.transmitter = none) (h : ∀ o ∈ x.slots, o = none)
    {q : QFrame} {r : List QFrame} (hq : x.queue = q :: r) :
    x.choose = { x with queue := r, transmitter := some (.fromQueue q) } := by
  unfold Port.choose
  rw [if_neg hs, ht, firstPending_of_none 0 h, hq]

theorem Port.choose_of_idle {x : Port} (ht : x.transmitter = none) (h : ∀ o ∈ x.slots, o = none) (hq : x.queue = []) :
    x.choose = x := by
  unfold Port.choose
  rw [ht, firstPending_of_none 0 h, hq]
  split <;> rfl

/-- A choice moves a frame into the transmitter and nothing else. -/
@[simp] theorem Port.choose_pageView (x : Port) : x.choose.pageView = x.pageView := by
  unfold Port.choose
  repeat' split
  all_goals rfl

/-! ## Joining the queue (R6) -/

theorem mem_joinQueue {q e : QFrame} {l : List QFrame} : e ∈ joinQueue q l ↔ e = q ∨ e ∈ l := by
  conv => rhs; rw [← List.takeWhile_append_dropWhile (p := fun e : QFrame => decide (e.cls ≤ q.cls)) (l := l)]
  simp only [joinQueue, List.mem_append, List.mem_cons]
  tauto

/-- Behind the frames of its own and lower classes an ordered queue holds greater classes alone. -/
theorem lt_of_mem_dropWhile {q : QFrame} {l : List QFrame} (h : l.Pairwise (fun a b => a.cls ≤ b.cls)) :
    ∀ e ∈ l.dropWhile (fun e => decide (e.cls ≤ q.cls)), q.cls < e.cls := by
  induction l with
  | nil => exact nofun
  | cons a l ih =>
    obtain ⟨ha, hl⟩ := List.pairwise_cons.1 h
    by_cases hc : a.cls ≤ q.cls
    · rw [List.dropWhile_cons_of_pos (by simpa using hc)]
      exact ih hl
    · rw [List.dropWhile_cons_of_neg (by simpa using hc)]
      intro e he
      rcases List.mem_cons.1 he with rfl | he
      · omega
      · have := ha e he; omega

theorem joinQueue_pairwise {q : QFrame} {l : List QFrame} (h : l.Pairwise (fun a b => a.cls ≤ b.cls)) :
    (joinQueue q l).Pairwise (fun a b => a.cls ≤ b.cls) := by
  have hsplit := h
  rw [← List.takeWhile_append_dropWhile (p := fun e : QFrame => decide (e.cls ≤ q.cls)) (l := l)] at hsplit
  obtain ⟨ht, hd, htd⟩ := List.pairwise_append.1 hsplit
  have hlow : ∀ e ∈ l.takeWhile (fun e => decide (e.cls ≤ q.cls)), e.cls ≤ q.cls := fun e he => by
    simpa using List.mem_takeWhile_imp he
  refine List.pairwise_append.2 ⟨ht, List.pairwise_cons.2 ⟨fun e he => (lt_of_mem_dropWhile h e he).le, hd⟩, ?_⟩
  intro a ha b hb
  rcases List.mem_cons.1 hb with rfl | hb
  · exact hlow a ha
  · exact htd a ha b hb

/-- A joining frame stands behind those of its class, and no frame changes place among its class. -/
theorem joinQueue_filter {q : QFrame} {l : List QFrame} (h : l.Pairwise (fun a b => a.cls ≤ b.cls)) (k : Nat) :
    (joinQueue q l).filter (fun e => decide (e.cls = k)) =
      l.filter (fun e => decide (e.cls = k)) ++ if q.cls = k then [q] else [] := by
  have hsplit : l.filter (fun e => decide (e.cls = k)) =
      (l.takeWhile (fun e => decide (e.cls ≤ q.cls))).filter (fun e => decide (e.cls = k)) ++
        (l.dropWhile (fun e => decide (e.cls ≤ q.cls))).filter (fun e => decide (e.cls = k)) := by
    rw [← List.filter_append, List.takeWhile_append_dropWhile]
  rw [hsplit, joinQueue, List.filter_append, List.filter_cons]
  by_cases hk : q.cls = k
  · have hnone : (l.dropWhile (fun e => decide (e.cls ≤ q.cls))).filter (fun e => decide (e.cls = k)) = [] := by
      rw [List.filter_eq_nil_iff]
      intro e he
      have := lt_of_mem_dropWhile h e he
      simp only [decide_eq_true_eq]
      omega
    subst hk
    simp [hnone]
  · simp [hk]

theorem joinQueue_length (q : QFrame) (l : List QFrame) : (joinQueue q l).length = l.length + 1 := by
  conv => rhs; rw [← List.takeWhile_append_dropWhile (p := fun e : QFrame => decide (e.cls ≤ q.cls)) (l := l)]
  simp only [joinQueue, List.length_append, List.length_cons]
  omega

/-! ## Offering a frame to the queue (R4, R6, R7) -/

theorem Port.offerQueue_of_off {x : Port} (h : x.state = .off) (q : QFrame) :
    x.offerQueue q = ({ x with counters := { x.counters with offDrop := satInc x.counters.offDrop } }, [q]) := by
  unfold Port.offerQueue; rw [if_pos h]

theorem Port.offerQueue_of_room {x : Port} (h : x.state ≠ .off) (hr : x.queue.length < 48) (q : QFrame) :
    x.offerQueue q = (Port.choose { x with queue := joinQueue q x.queue }, []) := by
  unfold Port.offerQueue; rw [if_neg h, if_pos (show _ < Config.queueCapacity from hr)]

theorem Port.offerQueue_of_full {x : Port} (h : x.state ≠ .off) (hr : 48 ≤ x.queue.length) (q : QFrame) {l : List QFrame}
    {v : QFrame} (hq : x.queue = l ++ [v]) :
    x.offerQueue q =
      if q.cls < v.cls then
        (Port.choose { x with
          queue := joinQueue q l, counters := { x.counters with txEvict := bumpAt x.counters.txEvict v.cls } }, [v])
      else ({ x with counters := { x.counters with txDrop := bumpAt x.counters.txDrop q.cls } }, [q]) := by
  have hfull : ¬ x.queue.length < Config.queueCapacity := Nat.not_lt.2 hr
  unfold Port.offerQueue
  rw [if_neg h, if_neg hfull, hq, List.getLast?_concat, List.dropLast_concat]

/-! ## The statements -/

/-- Settles O11: the port unit's own act changes nothing the status pages read. -/
theorem frameArrivalJoinsTheFifo : Obligations.FrameArrivalJoinsTheFifo := by
  unfold Obligations.FrameArrivalJoinsTheFifo
  intro p s hs
  have arrives {f : BusFrame} {x : Port} (hf : f.wellFormed = true) (h : (s.port p).receive f = x)
      (hx : x.pageView = (s.port p).pageView) : exec (.frameArrival p f) s = .next (s.setPort p x) := by
    rw [exec_frameArrival]
    exact run_settled hf (by rw [State.frameArrives, h]) (hs.setPort hx)
  refine ⟨fun f hf hoff => ?_, fun hon => ⟨?_, fun f hf => ⟨fun hroom => ?_, fun hfull => ?_⟩⟩⟩
  · have := arrives hf (x := s.port p) (by unfold Port.receive; rw [if_pos hoff]) rfl
    rwa [State.setPort_self] at this
  · exact arrives rfl (by rw [Port.receive, if_neg hon]; rfl) rfl
  · exact arrives (decide_eq_true hf) (by rw [Port.receive, if_neg hon]; exact if_pos hroom) rfl
  · exact arrives (decide_eq_true hf) (by rw [Port.receive, if_neg hon]; exact if_neg (Nat.not_lt.2 hfull)) rfl

/-- Settles O16: by what each way of choosing needs (R10), and the RESET reply's mark (R164). -/
theorem transmissionEndFreesTheTransmitter : Obligations.TransmissionEndFreesTheTransmitter := by
  unfold Obligations.TransmissionEndFreesTheTransmitter
  refine ⟨fun p s hs => ?_, fun x => ⟨Port.choose_of_busy, fun hon ht => ⟨fun n f => Port.choose_of_pending hon ht, fun he =>
    ⟨fun q r => Port.choose_of_queued hon ht he, Port.choose_of_idle ht he⟩⟩⟩⟩
  have ends {u : State} (h : s.endTransmission p = u) (hu : u.settled) : exec (.transmissionEnd p) s = .next u := by
    rw [exec_transmissionEnd]; exact run_settled rfl h hu
  have freed : (s.setPort p (Port.choose { s.port p with transmitter := none })).settled :=
    hs.setPort (Port.choose_pageView _)
  refine ⟨fun ht => ends ?_ hs, fun n f ht => ends ?_ freed, fun q ht => ends ?_ (freed.congr rfl rfl rfl rfl)⟩ <;>
    rw [State.endTransmission, Port.sent, ht, State.noteLeft_eq]
  · simp
    rfl
  · simp [Port.sendingQueued, ht]
    rfl
  · simp [Port.sendingQueued, ht]
    rfl

/-- Settles O17: an ordered queue splits into the classes up to the offered frame's and the greater ones. -/
theorem queueKeepsClassThenAge : Obligations.QueueKeepsClassThenAge := by
  unfold Obligations.QueueKeepsClassThenAge
  intro x q hx
  refine ⟨fun l hl => ⟨joinQueue_pairwise hl, joinQueue_filter hl⟩, fun h => Port.offerQueue_of_off h q,
    fun h hr => Port.offerQueue_of_room h hr q, fun h hr l v hq => ⟨fun e he => ?_, fun hc => ?_, fun hc => ?_⟩⟩
  · rw [hq] at he hx
    rcases List.mem_append.1 he with he | he
    · exact (List.pairwise_append.1 hx).2.2 e he v List.mem_cons_self
    · rw [List.mem_singleton.1 he]
  · rw [Port.offerQueue_of_full h hr q hq, if_pos hc]; rfl
  · rw [Port.offerQueue_of_full h hr q hq, if_neg (Nat.not_lt.2 hc)]; rfl

end Sys2Proof.Machine
end

section
/-! SUPPORT. A frame on its way through the Frame Router (R13 to R20): the lookup, the gate, the actions, the consumers. -/

namespace Sys2Proof

open Machine

/-- The source port of an entry that names the port alone. -/
def PortId.source : PortId → RouteSource
  | .portC => .portC
  | .portB => .portB

/-- The route consumer of an arm's Weighing Unit. -/
def ArmId.weigher : ArmId → RouteConsumer
  | .armA => .weighA
  | .armB => .weighB

/-- The route consumer of an arm's tag reader. -/
def ArmId.tagger : ArmId → RouteConsumer
  | .armA => .tagA
  | .armB => .tagB

/-- The route consumer of an arm's operator frames. -/
def ArmId.operator : ArmId → RouteConsumer
  | .armA => .armA
  | .armB => .armB

end Sys2Proof

namespace Sys2Proof.Machine

section
variable {s t : State} {p d : PortId} {f : Frame} {i : Nat} {e : RouteEntry}

/-! ## The lookup (R15) -/

theorem PortId.other_eq (h : d ≠ p) : p.other = d := by cases p <;> cases d <;> simp_all [PortId.other]

theorem RouteSource.fits_iff {src : RouteSource} : src.fits p = true ↔ src = .any ∨ src = p.source := by
  cases src <;> cases p <;> decide

theorem RouteEntry.fitsFrame_iff :
    e.fitsFrame p f = true ↔
      e.valid = true ∧ (e.source = .any ∨ e.source = p.source) ∧ f.id &&& e.mask = e.matchId &&& e.mask := by
  simp [RouteEntry.fitsFrame, RouteSource.fits_iff, and_assoc]

theorem winner_eq_none {l : List RouteEntry} (h : ∀ e ∈ l, ¬ e.fitsFrame p f = true) : winner l p f = none :=
  List.findIdx?_eq_none_iff.2 fun e he => by simpa using h e he

theorem winner_eq_some {l : List RouteEntry} (h : l[i]? = some e) (hf : e.fitsFrame p f = true)
    (hb : ∀ j < i, ∀ g, l[j]? = some g → ¬ g.fitsFrame p f = true) : winner l p f = some i := by
  obtain ⟨hi, rfl⟩ := List.getElem?_eq_some_iff.1 h
  refine List.findIdx?_eq_some_iff_getElem.2 ⟨hi, hf, fun j hj => ?_⟩
  exact hb j hj _ (List.getElem?_eq_getElem (by omega))

/-- One entry of the Route Table is replaced. -/
def State.setRoute (s : State) (i : Nat) (e : RouteEntry) : State := { s with routes := s.routes.set i e }

theorem State.countRoute_eq (h : s.routes[i]? = some e) (g : RouteEntry → RouteEntry) :
    s.countRoute i g = s.setRoute i (g e) := by
  unfold State.countRoute State.setRoute
  rw [List.modify_eq_set_getElem?, h]
  rfl

@[simp] theorem State.setRoute_setRoute (x y : RouteEntry) : (s.setRoute i x).setRoute i y = s.setRoute i y := by
  simp [State.setRoute]

/-- The entry with its hit counted (R14). -/
def RouteEntry.counted (e : RouteEntry) : RouteEntry := { e with hits := satInc e.hits }

theorem State.routeFrame_of_miss (h : ∀ e ∈ s.routes, ¬ e.fitsFrame p f = true) (held : Bool) :
    s.routeFrame held p f = s.missFrame p f := by
  unfold State.routeFrame; rw [winner_eq_none h]

theorem State.routeFrame_of_winner (h : s.routes[i]? = some e) (hf : e.fitsFrame p f = true)
    (hb : ∀ j < i, ∀ g, s.routes[j]? = some g → ¬ g.fitsFrame p f = true) (held : Bool) :
    s.routeFrame held p f = (s.setRoute i e.counted).routeAction held i e p f := by
  unfold State.routeFrame
  rw [winner_eq_some h hf hb]
  dsimp only
  rw [h]
  dsimp only
  rw [State.countRoute_eq h]
  rfl

/-! ## From the FIFO to the Router (R2, R13) -/

/-- An identifier below or above the management range names no requester. -/
theorem requesterOf_eq_none {base id : CanId} (h : id.toNat < base.toNat ∨ base.toNat + 15 < id.toNat) :
    requesterOf base id = none := by
  unfold requesterOf; rw [if_neg (by omega)]

/-- The FIFO's head is taken out of it. -/
def State.popped (s : State) (p : PortId) (r : List Frame) : State := s.setPort p { s.port p with fifo := r }

/-- The head of a port's FIFO, of port B outside the management range, is handed to Frame Watch. -/
theorem State.takeFrame_eq_watchedFrame {r : List Frame} (hf : (s.port p).fifo = f :: r)
    (hm : p = .portB → f.id.toNat < s.cfg.mreqBase.toNat ∨ s.cfg.mreqBase.toNat + 15 < f.id.toNat) :
    s.takeFrame p = (s.popped p r).watchedFrame p f := by
  unfold State.takeFrame
  rw [hf]
  cases p
  · rfl
  · show State.handleFrame _ _ _ = _
    unfold State.handleFrame
    rw [State.setPort_cfg, requesterOf_eq_none (hm rfl)]
    rfl

/-- In a calm state it goes on to the Router. -/
theorem State.takeFrame_eq_routeFrame (hc : s.calm) {r : List Frame} (hf : (s.port p).fifo = f :: r)
    (hm : p = .portB → f.id.toNat < s.cfg.mreqBase.toNat ∨ s.cfg.mreqBase.toNat + 15 < f.id.toNat) :
    s.takeFrame p = (s.popped p r).routeFrame s.watch.isHeld p f := by
  rw [State.takeFrame_eq_watchedFrame hf hm, State.watchedFrame, State.watchTest_of_disarmed (s := s.popped p r) hc.2]
  rfl

/-! ## Actions (R16 to R20) -/

/-- The gate lets a frame pass when there is none or its group is TRUE (R17). -/
theorem State.gateOpen_iff {n : Nat} : s.gateOpen n = true ↔ n = 0 ∨ ∃ g, s.groups[n - 1]? = some g ∧ g.state = .isTrue := by
  by_cases hn : n = 0
  · simp [State.gateOpen, hn]
  · unfold State.gateOpen State.groupState
    rw [if_neg hn]
    cases s.groups[n - 1]? <;> simp [hn]

theorem RouteConsumer.stopsInHold_iff {c : RouteConsumer} :
    c.stopsInHold = true ↔ c = .armA ∨ c = .armB ∨ c = .chamber := by cases c <;> decide

/-- A port counts a frame that its clear forward enable keeps out (R11). -/
def Port.keptOut (x : Port) : Port :=
  { x with counters := { x.counters with fwdDisabled := satInc x.counters.fwdDisabled } }

theorem State.forwardFrame_of_disabled (hd : d ≠ p) (h : (s.port d).forwardEnable = false) (cls : Nat) :
    s.forwardFrame p cls f = s.setPort d (s.port d).keptOut := by
  unfold State.forwardFrame
  rw [PortId.other_eq hd]
  exact if_neg (by rw [h]; exact Bool.false_ne_true)

theorem State.forwardFrame_of_enabled (hd : d ≠ p) (h : (s.port d).forwardEnable = true) (cls : Nat) :
    s.forwardFrame p cls f = s.offerQueue d { frame := f, cls, origin := .forwarded, ofReset := false } := by
  unfold State.forwardFrame
  rw [PortId.other_eq hd]
  exact if_pos h

/-- A frame for a held consumer is dropped before its gate is looked at (R156). -/
theorem State.routeAction_of_stops (ha : e.action = .consume ∨ e.action = .both) (hc : e.consumer.stopsInHold = true) :
    s.routeAction true i e p f = s.dropHeld := by
  unfold State.routeAction
  rcases ha with ha | ha <;> rw [ha] <;> simp [hc]

/-- A gate that is not open blocks every action but DROP (R17). -/
theorem State.routeAction_of_gated {held : Bool} (ha : e.action ≠ .drop)
    (hs : ¬ (held = true ∧ (e.action = .consume ∨ e.action = .both) ∧ e.consumer.stopsInHold = true))
    (hg : s.gateOpen e.gate = false) :
    s.routeAction held i e p f = s.countRoute i (fun e => { e with blocked := satInc e.blocked }) := by
  unfold State.routeAction
  cases h : e.action with
  | drop => exact absurd h ha
  | forward => simp [hg]
  | consume => rw [h] at hs; simp_all
  | both => rw [h] at hs; simp_all

/-- A consumed frame is delivered through its open gate, unless its consumer is held. -/
theorem State.routeAction_of_consume {held : Bool} (ha : e.action = .consume)
    (hs : ¬ (held = true ∧ e.consumer.stopsInHold = true)) (hg : s.gateOpen e.gate = true) :
    s.routeAction held i e p f = s.deliver i e.consumer f := by
  unfold State.routeAction
  simp_all

theorem State.routeAction_of_both {held : Bool} (ha : e.action = .both)
    (hs : ¬ (held = true ∧ e.consumer.stopsInHold = true)) (hg : s.gateOpen e.gate = true) :
    s.routeAction held i e p f = s.forwardAndDeliver i e p f := by
  unfold State.routeAction
  simp_all

theorem State.routeAction_of_forward {held : Bool} (ha : e.action = .forward) (hg : s.gateOpen e.gate = true) :
    s.routeAction held i e p f = s.forwardFrame p e.cls f := by
  unfold State.routeAction
  simp_all

theorem State.routeAction_of_drop {held : Bool} (ha : e.action = .drop) : s.routeAction held i e p f = s := by
  unfold State.routeAction; rw [ha]

/-! ## Consumers (R19, R92, R102) -/

variable {a : ArmId}

theorem ArmId.weigher_stopsInHold : a.weigher.stopsInHold = false := by cases a <;> rfl
theorem ArmId.tagger_stopsInHold : a.tagger.stopsInHold = false := by cases a <;> rfl

@[simp] theorem State.deliver_weigher : s.deliver i a.weigher f = s.sampleFrame a f := by cases a <;> rfl
@[simp] theorem State.deliver_tagger : s.deliver i a.tagger f = s.tagFrame a f := by cases a <;> rfl
@[simp] theorem State.deliver_operator : s.deliver i a.operator f = s.armFrame a f := by cases a <;> rfl

/-- Without an OPEN window a sample becomes the live count (R102). -/
theorem State.sampleFrame_of_live (ho : (s.weighUnit a).isOpen = false) (hl : s.cfg.lcOffset + 3 ≤ f.data.length) :
    s.sampleFrame a f = s.setWeighUnit a { s.weighUnit a with live := some (sampleOf s.cfg.lcOffset f, s.now) } := by
  unfold State.sampleFrame
  dsimp only
  rw [if_neg (show ¬ f.dlc < s.cfg.lcOffset + 3 from Nat.not_lt.2 hl)]
  simp [ho]

theorem State.sampleFrame_of_short (hl : f.data.length < s.cfg.lcOffset + 3) :
    s.sampleFrame a f = s.setWeighUnit a { s.weighUnit a with sampleShort := satInc (s.weighUnit a).sampleShort } := by
  unfold State.sampleFrame
  dsimp only
  rw [if_pos (show f.dlc < s.cfg.lcOffset + 3 from hl)]

/-- Without a waiting request a VALID tag becomes the arm's last tag (R92). -/
theorem State.tagFrame_of_valid (hl : s.cfg.tagOffset + 5 ≤ f.data.length) (hq : qualityOf s.cfg.tagOffset f ≠ 0)
    (ht : tagOf s.cfg.tagOffset f ≠ 0) (hr : (s.bins.requests.at a.second).state ≠ .waitRead) :
    s.tagFrame a f =
      (s.setBins { s.bins with tagValid := s.bins.tagValid.put a.second (satInc (s.bins.tagValid.at a.second)) }).setArm a
        { s.arm a with lastTag := some { tag := tagOf s.cfg.tagOffset f, readAt := s.now } } := by
  unfold State.tagFrame
  dsimp only
  rw [if_neg (show ¬ f.dlc < s.cfg.tagOffset + 5 from Nat.not_lt.2 hl), if_neg (not_or.2 ⟨hq, ht⟩)]
  exact if_neg hr

/-- A frame without a byte, or with a code beyond those of the operator commands, is malformed (R45). -/
theorem State.armFrame_of_bad (h : f.data = [] ∨ f.byte 0 = 0 ∨ 7 < (f.byte 0).toNat) : s.armFrame a f = s.badArmCommand a := by
  unfold State.armFrame
  cases hd : f.data with
  | nil => rfl
  | cons b args =>
    have hb : f.byte 0 = b := by simp [Frame.byte, hd]
    rw [hb] at h
    have hn : b.toNat = 0 ∨ 7 < b.toNat := by
      rcases h with h | rfl | h
      · rw [hd] at h; cases h
      · exact .inl rfl
      · exact .inr h
    dsimp only
    split <;> first | rfl | omega

theorem State.chamberFrame_of_bad (h : f.data = [] ∨ f.byte 0 = 0 ∨ 3 < (f.byte 0).toNat) :
    s.chamberFrame f = s.badChamberCommand := by
  unfold State.chamberFrame
  cases hd : f.data with
  | nil => rfl
  | cons b args =>
    have hb : f.byte 0 = b := by simp [Frame.byte, hd]
    rw [hb] at h
    have hn : b.toNat = 0 ∨ 3 < b.toNat := by
      rcases h with h | rfl | h
      · rw [hd] at h; cases h
      · exact .inl rfl
      · exact .inr h
    dsimp only
    split <;> first | rfl | omega

/-- Counting a malformed or ignored command, or the last tag, changes nothing the status pages read of an arm. -/
theorem State.allPages_setArm {x : Arm} (h : x.pageBytes = (s.arm a).pageBytes) : (s.setArm a x).allPages = s.allPages := by
  have h0 : (s.setArm a x).pageBytes 0 = s.pageBytes 0 := by
    cases a
    · exact congrArg (· ++ s.arms.snd.pageBytes) h
    · exact congrArg (s.arms.fst.pageBytes ++ ·) h
  show [_, _, _, _] = [_, _, _, _]
  rw [h0]
  rfl

end

/-! ## A hand-over at the end of a command -/

/-- A single hand-over that sets off nothing ends the command as its own effect would. -/
theorem State.finish_handing_one {s : State} {e : Ev} (ha : s.agenda = []) (hn : s.mgmt.noted = s.allPages)
    (hh : (handle e s).agenda = []) (hw : (handle e s).unwatched) : (s.handing [e]).finish = (handle e s).finish := by
  obtain ⟨n, hb⟩ := cascadeBudget_eq
  have hhead : (s.handing [e]).takeHead e [] = (handle e s).notePages := by
    unfold State.takeHead
    rw [show ({ s.handing [e] with agenda := [] } : State) = s from State.handing_self ha, State.postAll_nil]
  have hend : (handle e s).notePages.agenda = [] := (State.notePages_afterPages_of_unwatched hw).agenda_eq.trans hh
  unfold State.finish
  rw [State.notePages_of_noted (s := s.handing [e]) hn, hb, drain_cons (s := s.handing [e]) rfl, hhead, drain_of_empty hend,
    drain_of_empty hend]

end Sys2Proof.Machine
end

section
/-! The statements on frames taken from a FIFO by the Router. -/

namespace Sys2Proof.Machine

section
variable {s u v : State} {p d : PortId} {f : Frame} {a : ArmId}

theorem State.settled.popped (h : s.settled) (p : PortId) (r : List Frame) : (s.popped p r).settled := h.setPort rfl

theorem State.settled.setRoute (h : s.settled) (i : Nat) (e : RouteEntry) : (s.setRoute i e).settled :=
  h.congr rfl rfl rfl rfl

/-- A command whose effect leaves a settled state answers just that. -/
theorem exec_frameTaken_settled (e : s.takeFrame p = u) (h : u.settled) : exec (.frameTaken p) s = .next u := by
  rw [exec_frameTaken]; exact run_settled rfl e h

theorem exec_frameTaken_afterPages (e : s.takeFrame p = u) (h : u.calm) :
    ∃ t, exec (.frameTaken p) s = .next t ∧ u.AfterPages t := by
  rw [exec_frameTaken]; exact run_afterPages rfl e h

/-- A port with a miss counted (R16). -/
def Port.missed (x : Port) : Port := { x with counters := { x.counters with miss := satInc x.counters.miss } }

theorem State.missFrame_of_drop (h : s.cfg.miss.at p.second = .drop) : s.missFrame p f = s.setPort p (s.port p).missed := by
  unfold State.missFrame
  dsimp only
  rw [State.setPort_cfg, h]
  rfl

theorem State.missFrame_of_forward (h : s.cfg.miss.at p.second = .forward) :
    s.missFrame p f = (s.setPort p (s.port p).missed).forwardFrame p 3 f := by
  unfold State.missFrame
  dsimp only
  rw [State.setPort_cfg, h]
  rfl

end

/-- Settles O12: an unmatched frame reaches `State.missFrame`, which forwards by `State.forwardFrame`. -/
theorem unmatchedFrameIsAMiss : Obligations.UnmatchedFrameIsAMiss := by
  unfold Obligations.UnmatchedFrameIsAMiss
  intro s
  refine ⟨fun hs p hf => exec_frameTaken_settled (by rw [State.takeFrame, hf]) hs, ?_⟩
  intro p d f r hs hd hf hm hnone x miss hx hmiss
  have hmiss' : s.cfg.miss.at p.second = miss := by rw [hmiss]; cases p <;> rfl
  have htake : s.takeFrame p = (s.popped p r).missFrame p f := by
    rw [State.takeFrame_eq_routeFrame hs.1 hf hm]
    exact State.routeFrame_of_miss (s := s.popped p r) (fun e he h => hnone e he (RouteEntry.fitsFrame_iff.1 h)) _
  have hport : (s.popped p r).setPort p ((s.popped p r).port p).missed = s.setPort p x := by
    rw [State.popped, State.setPort_setPort, State.setPort_port, hx]; rfl
  have hsx : (s.setPort p x).settled := hs.setPort (by rw [hx]; rfl)
  have hother : (s.setPort p x).port d = s.port d := State.setPort_port_ne s hd x
  refine ⟨fun h => ?_, fun h hdis => ?_, fun h hen => ?_⟩
  · refine exec_frameTaken_settled ?_ hsx
    rw [htake, State.missFrame_of_drop (s := s.popped p r) (hmiss'.trans h), hport]
  · refine exec_frameTaken_settled (u := (s.setPort p x).setPort d (s.port d).keptOut) ?_ (hsx.setPort (by rw [hother]; rfl))
    rw [htake, State.missFrame_of_forward (s := s.popped p r) (hmiss'.trans h), hport, State.forwardFrame_of_disabled hd (by rw [hother, hdis]),
      hother]
  · refine exec_frameTaken_afterPages ?_ ((State.calm_offerQueue _ _).2 hsx.1)
    rw [htake, State.missFrame_of_forward (s := s.popped p r) (hmiss'.trans h), hport, State.forwardFrame_of_enabled hd (by rw [hother, hen])]

/-- A frame at the head of a FIFO that entry `i` wins. -/
structure Won (s : State) (p : PortId) (f : Frame) (r : List Frame) (i : Nat) (e : RouteEntry) : Prop where
  calm : s.calm
  head : (s.port p).fifo = f :: r
  outside : p = .portB → f.id.toNat < s.cfg.mreqBase.toNat ∨ s.cfg.mreqBase.toNat + 15 < f.id.toNat
  entry : s.routes[i]? = some e
  fits : e.fitsFrame p f = true
  first : ∀ j < i, ∀ g, s.routes[j]? = some g → ¬ g.fitsFrame p f = true

theorem Won.takeFrame {s : State} {p : PortId} {f : Frame} {r : List Frame} {i : Nat} {e : RouteEntry} (h : Won s p f r i e) :
    s.takeFrame p = ((s.popped p r).setRoute i e.counted).routeAction s.watch.isHeld i e p f := by
  rw [State.takeFrame_eq_routeFrame h.calm h.head h.outside]
  exact State.routeFrame_of_winner (s := s.popped p r) h.entry h.fits h.first _

section
variable {s : State} {p d : PortId} {f : Frame} {a : ArmId} {i cls : Nat}

/-- A forwarded frame and a live count touch different parts. -/
theorem State.forwardFrame_setWeighUnit (x : WeighUnit) :
    (s.setWeighUnit a x).forwardFrame p cls f = (s.forwardFrame p cls f).setWeighUnit a x := by
  unfold State.forwardFrame
  simp only [State.setWeighUnit_port, apply_ite (State.setWeighUnit · a x), State.offerQueue_eq]
  rfl

theorem State.forwardFrame_agenda : (s.forwardFrame p cls f).agenda = s.agenda := by
  unfold State.forwardFrame
  dsimp only
  split
  · rw [State.offerQueue_eq]; rfl
  · rfl

theorem State.forwardFrame_watch : (s.forwardFrame p cls f).watch = s.watch := by
  unfold State.forwardFrame
  dsimp only
  split
  · rw [State.offerQueue_eq]; rfl
  · rfl

theorem State.forwardFrame_weighUnit : (s.forwardFrame p cls f).weighUnit a = s.weighUnit a := by
  unfold State.forwardFrame
  dsimp only
  split
  · rw [State.offerQueue_eq]; rfl
  · rfl

theorem State.forwardFrame_cfg : (s.forwardFrame p cls f).cfg = s.cfg := by
  unfold State.forwardFrame
  dsimp only
  split
  · rw [State.offerQueue_eq]; rfl
  · rfl

theorem State.forwardFrame_now : (s.forwardFrame p cls f).now = s.now := by
  unfold State.forwardFrame
  dsimp only
  split
  · rw [State.offerQueue_eq]; rfl
  · rfl

/-- A free value has been read. -/
def State.freed (s : State) : State := { s with freeCount := s.freeCount + 1 }

/-- A frame forwarded and delivered as a live count ends in the same state whichever comes first (R18, R102). -/
theorem State.finish_forwardAndDeliver_live {e : RouteEntry} (hs : s.settled) (hc : e.consumer = a.weigher)
    (ho : (s.weighUnit a).isOpen = false) (hl : s.cfg.lcOffset + 3 ≤ f.data.length) {v : State}
    (hv : v = s.freed.setWeighUnit a { s.weighUnit a with live := some (sampleOf s.cfg.lcOffset f, s.now) }) :
    (s.forwardAndDeliver i e p f).finish = (v.forwardFrame p e.cls f).finish := by
  have live : s.freed.sampleFrame a f = v := by rw [hv]; exact State.sampleFrame_of_live (s := s.freed) ho hl
  have hvs : v.settled := by rw [hv]; exact hs.congr rfl rfl rfl rfl
  obtain ⟨t, rfl, h | ⟨-, h⟩⟩ := State.forwardAndDeliver_spec s i e p f
  · rw [h, hc, State.deliver_weigher]
    congr 1
    rw [State.sampleFrame_of_live (by rw [State.forwardFrame_weighUnit]; exact ho) (by rw [State.forwardFrame_cfg]; exact hl), hv,
      State.forwardFrame_setWeighUnit, State.forwardFrame_weighUnit, State.forwardFrame_cfg, State.forwardFrame_now]
    rfl
  · rw [h, hc, State.deliver_weigher]
    change ((s.freed.sampleFrame a f).post _).finish = _
    rw [live]
    have hpost : v.post (.forward p e.cls f) = v.handing [.forward p e.cls f] := by
      rw [State.post, hvs.1.1]; rfl
    rw [hpost]
    refine State.finish_handing_one hvs.1.1 hvs.2 (State.forwardFrame_agenda.trans hvs.1.1) ?_
    rw [handle, State.unwatched, State.forwardFrame_watch]
    exact hvs.1.unwatched

end

/-- Settles O13: the winner's action by the branches of `State.routeAction`; under BOTH the two orders meet
(`State.finish_forwardAndDeliver_live`). -/
theorem matchedFrameTakesItsAction : Obligations.MatchedFrameTakesItsAction := by
  unfold Obligations.MatchedFrameTakesItsAction
  intro s p d f r i e x q u isOpen stops hs hd hf hm hi hv hsrc hid hfirst hopen hstops hx hq hu
  have won : Won s p f r i e :=
    ⟨hs.1, hf, hm, hi, RouteEntry.fitsFrame_iff.2 ⟨hv, hsrc, hid⟩,
      fun j hj g hg h => hfirst j hj g hg (RouteEntry.fitsFrame_iff.1 h)⟩
  have hu' : (s.popped p r).setRoute i e.counted = u := hu.symm
  have htake : s.takeFrame p = u.routeAction s.watch.isHeld i e p f := by rw [won.takeFrame, hu']
  have hus : u.settled := by rw [← hu']; exact (hs.popped p r).setRoute i _
  have hgroups : u.groups = s.groups := by rw [hu]; rfl
  have hentry : u.routes[i]? = some e.counted := by
    rw [hu]; exact List.getElem?_set_self (List.getElem?_eq_some_iff.1 hi).1
  have hgate : u.gateOpen e.gate = true ↔ isOpen := by rw [hopen, State.gateOpen_iff, hgroups]
  have hport : u.port d = s.port d := by rw [hu]; exact State.setPort_port_ne s hd _
  have hstops' : stops ↔ s.watch.isHeld = true ∧ (e.action = .consume ∨ e.action = .both) ∧ e.consumer.stopsInHold = true := by
    rw [hstops, RouteConsumer.stopsInHold_iff]
  have forwards : ∀ {t : State}, t.settled → t.port d = s.port d →
      exec (.frameTaken p) s = .next (t.forwardFrame p e.cls f).finish →
        ((s.port d).forwardEnable = false → exec (.frameTaken p) s = .next (t.setPort d x)) ∧
        ((s.port d).forwardEnable = true → ∃ w, exec (.frameTaken p) s = .next w ∧ (t.offerQueue d q).AfterPages w) := by
    intro t ht hp hexec
    refine ⟨fun hdis => ?_, fun hen => ?_⟩
    · rw [hexec, State.forwardFrame_of_disabled hd (by rw [hp, hdis]), hp,
        State.finish_of_settled (ht.setPort (by rw [hp]; rfl)), hx]
      rfl
    · refine ⟨_, hexec, ?_⟩
      rw [State.forwardFrame_of_enabled hd (by rw [hp, hen]), ← hq]
      exact State.finish_afterPages ((State.calm_offerQueue _ _).2 ht.1)
  have runs {t : State} (ht : s.takeFrame p = t) : exec (.frameTaken p) s = .next t.finish := by
    rw [exec_frameTaken, run_wellFormed rfl, ht]
  refine ⟨fun ha => ?_, fun ha hns hno => ?_, fun hst => ?_, fun ha ho => ?_, ?_⟩
  · exact exec_frameTaken_settled (htake.trans (State.routeAction_of_drop ha)) hus
  · have hclosed : u.gateOpen e.gate = false := Bool.eq_false_iff.2 fun h => hno (hgate.1 h)
    refine exec_frameTaken_settled (htake.trans ?_) (hus.setRoute i { e.counted with blocked := satInc e.blocked })
    rw [State.routeAction_of_gated ha (fun h => hns (hstops'.2 h)) hclosed, State.countRoute_eq hentry, ← hu',
      State.setRoute_setRoute]
    rfl
  · obtain ⟨hheld, ha, hc⟩ := hstops'.1 hst
    refine exec_frameTaken_settled (htake.trans ?_) (hus.congr rfl (by rw [hu]; rfl) rfl rfl)
    rw [hheld, State.routeAction_of_stops ha hc, hu]
    rfl
  · exact forwards hus hport (runs (htake.trans (State.routeAction_of_forward ha (hgate.2 ho))))
  · intro ha ho a v hc hlive hl hveq
    have hc' : e.consumer = a.weigher := hc
    have hw : u.weighUnit a = s.weighUnit a := by rw [hu]; rfl
    have hcfg : u.cfg = s.cfg := by rw [hu]; rfl
    have hnow : u.now = s.now := by rw [hu]; rfl
    have hv' : v = u.freed.setWeighUnit a { u.weighUnit a with live := some (sampleOf u.cfg.lcOffset f, u.now) } := by
      rw [hveq, hw, hcfg, hnow, hu]; rfl
    refine forwards (t := v) (by rw [hv']; exact hus.congr rfl rfl rfl rfl) (by rw [hv']; exact hport) ?_
    rw [← State.finish_forwardAndDeliver_live (i := i) hus hc' (by rw [hw]; exact hlive) (by rw [hcfg]; exact hl) hv']
    refine runs (htake.trans (State.routeAction_of_both ha (fun h => ?_) (hgate.2 ho)))
    rw [hc', ArmId.weigher_stopsInHold] at h
    exact Bool.false_ne_true h.2

/-- Settles O14: the winner's CONSUME through its open gate delivers, and each consumer takes its frame as its own lemma says. -/
theorem consumedFrameReachesItsConsumer : Obligations.ConsumedFrameReachesItsConsumer := by
  unfold Obligations.ConsumedFrameReachesItsConsumer
  intro s p f r i e u hs hf hlen hm hi hv hsrc hid hact hfirst hgate hu
  have won : Won s p f r i e :=
    ⟨hs.1, hf, hm, hi, RouteEntry.fitsFrame_iff.2 ⟨hv, hsrc, hid⟩,
      fun j hj g hg h => hfirst j hj g hg (RouteEntry.fitsFrame_iff.1 h)⟩
  have hu' : (s.popped p r).setRoute i e.counted = u := hu.symm
  have hus : u.settled := by rw [← hu']; exact (hs.popped p r).setRoute i _
  have hopen : u.gateOpen e.gate = true := by rw [State.gateOpen_iff, hu]; exact hgate
  have delivers (hfree : e.consumer.stopsInHold = true → s.watch.isHeld = false) : s.takeFrame p = u.deliver i e.consumer f := by
    rw [won.takeFrame, hu']
    exact State.routeAction_of_consume hact (fun h => by rw [hfree h.2] at h; exact Bool.false_ne_true h.1) hopen
  have hsamp (a : ArmId) : u.weighUnit a = s.weighUnit a := by rw [hu]; rfl
  have harm (a : ArmId) : u.arm a = s.arm a := by rw [hu]; rfl
  have hcfg : u.cfg = s.cfg := by rw [hu]; rfl
  have hnow : u.now = s.now := by rw [hu]; rfl
  have hbins : u.bins = s.bins := by rw [hu]; rfl
  have hheld : u.watch = s.watch := by rw [hu]; rfl
  -- an operator frame and the command of its code have the same effect and the same end
  have same {c : Instr} {effect : State → State} (hc : c.wellFormed = true) (hfree : s.watch.isHeld = false)
      (hexec : exec c u = run c (fun s => s.unlessHeld effect) u) (h : u.deliver i e.consumer f = effect u) :
      exec (.frameTaken p) s = exec c u := by
    rw [hexec, exec_frameTaken, run_wellFormed rfl, run_wellFormed hc, delivers (fun _ => hfree), h, State.unlessHeld,
      hheld, hfree]
    rfl
  refine ⟨fun a hc => ?_, fun a hc hl hq ht hr => ?_, fun a hfree hc => ?_, fun hfree hc => ?_⟩
  · have hc' : e.consumer = a.weigher := hc
    have htake : s.takeFrame p = u.sampleFrame a f := by
      rw [delivers (by rw [hc', ArmId.weigher_stopsInHold]; exact nofun), hc', State.deliver_weigher]
    refine ⟨fun ho hl => exec_frameTaken_settled (htake.trans ?_) (hus.congr rfl rfl rfl rfl),
      fun hl => exec_frameTaken_settled (htake.trans ?_) (hus.congr rfl rfl rfl rfl)⟩
    · rw [State.sampleFrame_of_live (by rw [hsamp]; exact ho) (by rw [hcfg]; exact hl), hsamp, hcfg, hnow]
    · rw [State.sampleFrame_of_short (by rw [hcfg]; exact hl), hsamp]
      rfl
  · have hc' : e.consumer = a.tagger := hc
    refine exec_frameTaken_settled ((delivers (by rw [hc', ArmId.tagger_stopsInHold]; exact nofun)).trans ?_)
      (hus.congr rfl rfl rfl (State.allPages_setArm (by rw [State.setBins_arm, harm]; rfl)))
    rw [hc', State.deliver_tagger, State.tagFrame_of_valid (by rw [hcfg]; exact hl) (by rw [hcfg]; exact hq)
      (by rw [hcfg]; exact ht) (by rw [hbins]; exact hr), hbins, hcfg, hnow, harm]
    rfl
  · have hc' : e.consumer = a.operator := hc
    have hd : u.deliver i e.consumer f = u.armFrame a f := by rw [hc', State.deliver_operator]
    refine ⟨fun b args hdata c hmem => ?_, fun hbad => ?_⟩
    · have hargs : argsWellFormed args = true := by
        rw [hdata, List.length_cons] at hlen; exact decide_eq_true (by omega)
      simp only [List.mem_cons, Prod.mk.injEq, List.not_mem_nil, or_false] at hmem
      rcases hmem with ⟨hb, rfl⟩ | ⟨hb, rfl⟩ | ⟨hb, rfl⟩ | ⟨hb, rfl⟩ | ⟨hb, rfl⟩ | ⟨hb, rfl⟩ | ⟨hb, rfl⟩
      · exact same hargs hfree (exec_start a args u) (hd.trans (by simp only [State.armFrame, hdata, hb]))
      · exact same rfl hfree (exec_pauseArm a u) (hd.trans (by simp only [State.armFrame, hdata, hb]))
      · exact same rfl hfree (exec_continueArm a u) (hd.trans (by simp only [State.armFrame, hdata, hb]))
      · exact same rfl hfree (exec_abortArm a u) (hd.trans (by simp only [State.armFrame, hdata, hb]))
      · exact same rfl hfree (exec_manualEnter a u) (hd.trans (by simp only [State.armFrame, hdata, hb]))
      · exact same rfl hfree (exec_manualExit a u) (hd.trans (by simp only [State.armFrame, hdata, hb]))
      · exact same rfl hfree (exec_faultClear a u) (hd.trans (by simp only [State.armFrame, hdata, hb]))
    · refine exec_frameTaken_settled ((delivers fun _ => hfree).trans (hd.trans ?_))
        (hus.congr rfl rfl rfl (State.allPages_setArm (by rw [harm]; rfl)))
      rw [State.armFrame_of_bad hbad, State.badArmCommand, harm]
      rfl
  · have hd : u.deliver i e.consumer f = u.chamberFrame f := by rw [hc]; rfl
    refine ⟨fun b args hdata c hmem => ?_, fun hbad => ?_⟩
    · have hargs : argsWellFormed args = true := by
        rw [hdata, List.length_cons] at hlen; exact decide_eq_true (by omega)
      simp only [List.mem_cons, Prod.mk.injEq, List.not_mem_nil, or_false] at hmem
      rcases hmem with ⟨hb, rfl⟩ | ⟨hb, rfl⟩ | ⟨hb, rfl⟩
      · exact same hargs hfree (exec_packNow args u) (hd.trans (by simp only [State.chamberFrame, hdata, hb]))
      · exact same hargs hfree (exec_discharged args u) (hd.trans (by simp only [State.chamberFrame, hdata, hb]))
      · exact same hargs hfree (exec_chamberFaultClear args u) (hd.trans (by simp only [State.chamberFrame, hdata, hb]))
    · refine exec_frameTaken_settled ((delivers fun _ => hfree).trans (hd.trans ?_)) (hus.congr rfl rfl rfl rfl)
      rw [State.chamberFrame_of_bad hbad, hu]
      rfl

end Sys2Proof.Machine
end

section
/-! The statements on port states (R3 to R5), the high-idle request (R77) and the status pages (R167). -/

namespace Sys2Proof.Machine

section
variable {s t : State} {p : PortId}

/-! ## Frames lost by a flush (R4, R5, R164) -/

theorem Port.mem_sendingQueued {x : Port} {q : QFrame} : q ∈ x.sendingQueued ↔ x.transmitter = some (.fromQueue q) := by
  unfold Port.sendingQueued
  split
  · rename_i r h; simp [h, eq_comm]
  · rename_i h; exact ⟨nofun, fun e => absurd e (h q)⟩

/-- The RESET reply is lost when it waits in the queue or is being sent from it (R164). -/
theorem Port.lostReply_iff {x : Port} :
    (x.queue ++ x.sendingQueued).any QFrame.ofReset = true ↔
      ∃ q : QFrame, q.ofReset = true ∧ (q ∈ x.queue ∨ x.transmitter = some (.fromQueue q)) := by
  simp only [List.any_eq_true, List.mem_append, Port.mem_sendingQueued, and_comm]

/-- A flush makes the warm reset due when it was due or the RESET reply is lost. -/
theorem Port.resetDue_iff {x : Port} {b : Bool} :
    (b || (x.queue ++ x.sendingQueued).any QFrame.ofReset) = true ↔
      b = true ∨ ∃ q : QFrame, q.ofReset = true ∧ (q ∈ x.queue ∨ x.transmitter = some (.fromQueue q)) := by
  rw [Bool.or_eq_true, Port.lostReply_iff]

/-! ## Entry to OFF and restart (R4, R5) -/

/-- What a flush makes of the mark of a due warm reset (R164). -/
def State.dueAfterFlush (s : State) (x : Port) : Bool :=
  s.mgmt.resetDue || (x.queue ++ x.sendingQueued).any QFrame.ofReset

/-- Port `p` has become `x`, and the warm reset is due or not. -/
def State.flushed (s : State) (p : PortId) (x : Port) (due : Bool) : State :=
  { s.setPort p x with mgmt := { s.mgmt with resetDue := due } }

@[simp] theorem State.calm_flushed (x : Port) (due : Bool) : (s.flushed p x due).calm ↔ s.calm := .rfl

theorem State.onBodyPort_flushed (x : Port) (due : Bool) : (s.flushed p x due).onBodyPort = s.onBodyPort := rfl

theorem State.noteLeft_flushed (x : Port) (l : List QFrame) :
    (s.setPort p x).noteLeft l = s.flushed p x (s.mgmt.resetDue || l.any QFrame.ofReset) := by
  rw [State.noteLeft_eq]; rfl

theorem State.restartPort_eq : s.restartPort p = s.flushed p (s.port p).restart.1 (s.dueAfterFlush (s.port p)) :=
  State.noteLeft_flushed _ _

theorem Arm.out_of_port {x : Arm} (h : x.state = .idle ∨ x.state = .faulted) :
    (x.inCycle || x.heldManual || decide (x.state = .manual)) = false := by
  rcases h with h | h <;> simp [Arm.inCycle, Arm.heldManual, ArmState.cycling, h]

/-- An arm in IDLE or FAULTED does not act on the loss of port B. -/
theorem State.onBodyPort_eq_nil (h : ∀ a : ArmId, (s.arm a).state = .idle ∨ (s.arm a).state = .faulted) : s.onBodyPort = [] := by
  unfold State.onBodyPort
  rw [List.filter_eq_nil_iff]
  intro a _
  rw [Arm.out_of_port (h a)]
  exact Bool.false_ne_true

theorem State.postAnyOrder_nil : s.postAnyOrder [] = s := State.postAll_nil s

/-- Entry to OFF where no arm acts on it. -/
theorem State.goBusOff_eq (hon : (s.port p).state ≠ .off)
    (h : p = .portB → ∀ a : ArmId, (s.arm a).state = .idle ∨ (s.arm a).state = .faulted) :
    s.goBusOff p = s.flushed p (s.port p).toOff.1 (s.dueAfterFlush (s.port p)) := by
  unfold State.goBusOff
  rw [if_neg hon]
  dsimp only
  rw [State.noteLeft_flushed]
  cases p
  · rfl
  · show State.postAnyOrder _ (List.map _ _) = _
    rw [State.onBodyPort_flushed, State.onBodyPort_eq_nil (h rfl), List.map_nil, State.postAnyOrder_nil]
    rfl

end

/-- Settles O15: each report is one act on the port, followed by status pages alone. -/
theorem portStatesChange : Obligations.PortStatesChange := by
  unfold Obligations.PortStatesChange
  intro p s x hx
  subst hx
  have restarts (hoff : (s.port p).state = .off) (hrun : (s.port p).recovery.running = true) :
      s.recover p = s.flushed p (s.port p).restart.1 (s.dueAfterFlush (s.port p)) := by
    unfold State.recover; rw [if_pos ⟨hoff, hrun⟩, State.restartPort_eq]
  refine ⟨fun hc ha => ?_, fun hc ha => ?_, fun hc hon harms => ?_, fun hs ha => ?_, fun hs ha => ?_, fun hs hoff => ?_,
    fun hc hoff hrun => ?_, fun hs h => ?_⟩
  · rw [exec_errorPassive]
    exact run_afterPages rfl (by rw [Port.toPassive, if_pos ha]; rfl) (by exact hc)
  · rw [exec_returnToActive]
    exact run_afterPages rfl (by rw [Port.toActive, if_pos ha]; rfl) (by exact hc)
  · obtain ⟨t, ht, hp⟩ := run_afterPages (c := .busOff p) rfl (State.goBusOff_eq hon harms) ((State.calm_flushed _ _).2 hc)
    exact ⟨t, _, ht, hp, Port.resetDue_iff⟩
  · rw [exec_errorPassive]
    exact run_settled rfl (by rw [Port.toPassive, if_neg ha, State.setPort_self]) hs
  · rw [exec_returnToActive]
    exact run_settled rfl (by rw [Port.toActive, if_neg ha, State.setPort_self]) hs
  · rw [exec_busOff]
    exact run_settled rfl (by rw [State.goBusOff, if_pos hoff]) hs
  · obtain ⟨t, ht, hp⟩ := run_afterPages (c := .recoveryTimerExpiry p) rfl (restarts hoff hrun) ((State.calm_flushed _ _).2 hc)
    exact ⟨t, _, ht, hp, Port.resetDue_iff⟩
  · rw [exec_recoveryTimerExpiry]
    refine run_settled rfl ?_ hs
    unfold State.recover
    rw [if_neg]
    rintro ⟨hoff, hrun⟩
    rcases h with h | h
    · exact h hoff
    · rw [h] at hrun; exact Bool.false_ne_true hrun

/-! ## The high-idle request -/

theorem State.offerHighIdle_eq {s : State} (h : s.calm) (on : Bool) :
    s.offerHighIdle on = s.offerSlot .portC 0 (highIdleFrame s.cfg.hidleId on) := by
  unfold State.offerHighIdle
  rw [State.offerOwn_of_disarmed h.2]
  rfl

/-- The repeat timer acts while it runs, in ON and in RUN_DOWN. -/
theorem State.repeatHighIdle_eq (s : State) :
    s.repeatHighIdle =
      if s.arbiter.highIdle ≠ .off ∧ s.arbiter.repeatTimer.running = true then
        (s.setArbiter { s.arbiter with repeatTimer := .start 100 }).offerHighIdle true
      else s := by
  unfold State.repeatHighIdle
  dsimp only
  cases s.arbiter.highIdle <;> simp [Config.repeatMs]

/-- The run-down timer acts while it runs, in RUN_DOWN. -/
theorem State.endRunDown_eq (s : State) :
    s.endRunDown =
      if s.arbiter.highIdle = .runDown ∧ s.arbiter.runDownTimer.running = true then
        (s.setArbiter { s.arbiter with highIdle := .off, repeatTimer := .stopped, runDownTimer := .stopped }).offerHighIdle false
      else s := by
  unfold State.endRunDown
  dsimp only
  cases s.arbiter.highIdle <;> simp

/-- Settles O36: the state follows by `State.judgeHighIdle_eq`, and each timer's act offers one frame to port C's slot. -/
theorem highIdleFollowsTheFlow : Obligations.HighIdleFollowsTheFlow := by
  unfold Obligations.HighIdleFollowsTheFlow
  intro s
  refine ⟨fun x use hc huse => ?_, fun hc hi hr => ?_, fun hc hi hr => ?_, fun hs h => ?_, fun hs h => ?_⟩
  · have used : use = true → x.inUse := huse.1
    have unused : use = false → ¬ x.inUse := fun hu hx => by rw [huse.2 hx] at hu; exact Bool.false_ne_true hu.symm
    rw [State.judgeHighIdle_eq hc, State.flowChanged]
    refine ⟨fun hi hu => ?_, fun hi hu => ?_, fun hi hu => ?_, ?_⟩
    · rw [hi]; exact if_pos (used hu)
    · rw [hi]; exact if_neg (unused hu)
    · rw [hi]; exact if_pos (used hu)
    · rintro (⟨hi, hu⟩ | ⟨hi, hu⟩ | ⟨hi, hu⟩) <;> rw [hi]
      · exact if_neg (unused hu)
      · exact if_pos (used hu)
      · exact if_neg (unused hu)
  · rw [exec_repeatTimerExpiry]
    refine run_afterPages rfl (u := (s.setArbiter { s.arbiter with repeatTimer := .start 100 }).offerSlot .portC 0
      (highIdleFrame s.cfg.hidleId true)) ?_ (by exact hc)
    rw [State.repeatHighIdle_eq, if_pos ⟨hi, hr⟩, State.offerHighIdle_eq (by exact hc)]
    rfl
  · rw [exec_runDownTimerExpiry]
    refine run_afterPages rfl (u := (s.setArbiter { s.arbiter with
      highIdle := .off, repeatTimer := .stopped, runDownTimer := .stopped }).offerSlot .portC 0
      (highIdleFrame s.cfg.hidleId false)) ?_ (by exact hc)
    rw [State.endRunDown_eq, if_pos ⟨hi, hr⟩, State.offerHighIdle_eq (by exact hc)]
    rfl
  · rw [exec_repeatTimerExpiry]
    refine run_settled rfl ?_ hs
    rw [State.repeatHighIdle_eq, if_neg fun ⟨hi, hr⟩ => h.elim hi fun h => by rw [h] at hr; cases hr]
  · rw [exec_runDownTimerExpiry]
    refine run_settled rfl ?_ hs
    rw [State.endRunDown_eq, if_neg fun ⟨hi, hr⟩ => h.elim (· hi) fun h => by rw [h] at hr; cases hr]

/-! ## Status pages -/

section
variable {s : State} {p : Nat} {x : PageTimers}

theorem State.pageTimers_eq (h : s.mgmt.pages[p]? = some x) : s.pageTimers p = x := by
  unfold State.pageTimers; rw [List.getD_eq_getElem?_getD, h]; rfl

/-- What the status pages show does not depend on port B's queue, its transmitter, or the page timers and notes. -/
theorem State.allPages_sent {y : Port} {m : Management} (hy : y.pageView = s.ports.snd.pageView) (hm : m.service = s.mgmt.service) :
    ({ s with ports := { s.ports with snd := y }, mgmt := m } : State).allPages = s.allPages := by
  have h2 : ({ s with ports := { s.ports with snd := y }, mgmt := m } : State).page2 = s.page2 := by
    unfold State.page2; rw [hm]; rfl
  show [_, _, _, _] = [_, _, _, _]
  simp only [State.pageBytes, h2, State.page3_congr (s := s) (t := { s with ports := { s.ports with snd := y }, mgmt := m }) rfl hy]

/-- The page sent: its frame joins port B's queue, its timers start and its mark is cleared (R167). -/
def State.pageSent (s : State) (p : Nat) (noted : List (List Byte)) : State :=
  { s with
    ports := { s.ports with
      snd := Port.choose { s.ports.snd with
        queue := joinQueue
          { frame := { id := s.cfg.statBase + BitVec.ofNat 29 p, data := s.pageBytes p }, cls := 2,
            origin := .status, ofReset := false } s.ports.snd.queue } },
    mgmt := { s.mgmt with
      pages := s.mgmt.pages.set p { period := .start 500, spacing := .start 50, mark := false }, noted } }

theorem State.allPages_pageSent (n : List (List Byte)) : (s.pageSent p n).allPages = s.allPages :=
  State.allPages_sent (Port.choose_pageView _) rfl

/-- With room in the queue of a port that is not OFF a send only adds the page's frame. -/
theorem State.sendPage_eq (h : s.unwatched) (hon : s.ports.snd.state ≠ .off) (hroom : s.ports.snd.queue.length < 48) :
    s.sendPage p = s.pageSent p (s.mgmt.noted.set p (s.pageBytes p)) := by
  rw [State.sendPage_of_unwatched h, State.withPage, State.offerQueue_eq]
  simp only [show s.port .portB = s.ports.snd from rfl, Port.offerQueue_of_room hon hroom, List.any_nil, Bool.or_false]
  rfl

/-- Noting a page whose contents are noted already, or are the only ones not noted, leaves the pages noted as they stand. -/
theorem State.noted_set (hp : p < 4) (hl : s.mgmt.noted.length = 4)
    (h : ∀ q < 4, q ≠ p → s.mgmt.noted[q]? = some (s.pageBytes q)) : s.mgmt.noted.set p (s.pageBytes p) = s.allPages := by
  refine List.ext_getElem? fun q => ?_
  have hall : s.allPages[q]? = if q < 4 then some (s.pageBytes q) else none := by
    unfold State.allPages
    by_cases hq : q < 4 <;> simp [hq]
  rw [hall]
  by_cases hq : q < 4
  · rw [if_pos hq]
    by_cases e : p = q
    · subst e; exact List.getElem?_set_self (by omega)
    · rw [List.getElem?_set_ne e]; exact h q hq (Ne.symm e)
  · rw [if_neg hq]
    exact List.getElem?_eq_none (by simp only [List.length_set]; omega)

theorem State.noted_set_of_noted (hp : p < 4) (h : s.mgmt.noted = s.allPages) :
    s.mgmt.noted.set p (s.pageBytes p) = s.allPages := by
  refine State.noted_set hp (by rw [h]; rfl) fun q hq _ => ?_
  rw [h]
  simp [State.allPages, hq]

theorem State.settled_pageSent (h : s.settled) : (s.pageSent p s.allPages).settled :=
  ⟨h.1, (State.allPages_pageSent _).symm⟩

/-- The only page that is not as it was noted is the one that has changed. -/
theorem State.changedPage_eq (ha : s.agenda = []) (hp : p < 4) (hn : s.mgmt.noted[p]? ≠ some (s.pageBytes p))
    (h : ∀ q < 4, q ≠ p → s.mgmt.noted[q]? = some (s.pageBytes q)) : s.changedPage = some p := by
  unfold State.changedPage
  rw [List.find?_range_eq_some]
  refine ⟨by rw [State.pageMoved_of_agenda_nil ha]; exact decide_eq_true hn, List.mem_range.2 hp, fun q hq => ?_⟩
  rw [State.pageMoved_of_agenda_nil ha, decide_eq_false (not_not.2 (h q (by omega) (by omega)))]
  rfl

/-- The change of one page is all that is noted, when the pages are noted after it. -/
theorem State.notePages_of_one {u : State} (hc : s.changedPage = some p) (hu : s.pageChanged p = u)
    (hn : u.mgmt.noted = u.allPages) : s.notePages = u := by
  show noteChanges 32 s = u
  unfold noteChanges
  rw [hc]
  show noteChanges 31 (s.pageChanged p) = u
  rw [hu]
  unfold noteChanges
  rw [State.changedPage_of_noted hn]

end

/-- Settles O48: a send is `State.sendPage_eq`, and noting stops once the one changed page is noted. -/
theorem pageTimersSendThePage : Obligations.PageTimersSendThePage := by
  unfold Obligations.PageTimersSendThePage
  intro s p x u hp hx hu
  have hsent : s.pageSent p s.allPages = u := hu.symm
  have htimers := State.pageTimers_eq hx
  have hwf : decide (p < 4) = true := decide_eq_true hp
  have sends (hs : s.settled) (hon : s.ports.snd.state ≠ .off) (hroom : s.ports.snd.queue.length < 48) : s.sendPage p = u := by
    rw [State.sendPage_eq hs.1.unwatched hon hroom, State.noted_set_of_noted hp hs.2, hsent]
  have hus (hs : s.settled) : u.settled := hsent ▸ State.settled_pageSent hs
  refine ⟨fun hs hon hroom => ⟨fun hr => ?_, fun hr hmark => ?_⟩, fun hs hr hmark => ?_, fun hs hr => ?_, fun hs hr => ?_,
    fun hc hl hn hothers => ⟨fun hr => ?_, fun hr hon hroom => ?_⟩⟩
  · rw [exec_periodTimerExpiry]
    refine run_settled hwf ?_ (hus hs)
    rw [State.periodExpired, htimers, if_pos hr, sends hs hon hroom]
  · rw [exec_spacingTimerExpiry]
    refine run_settled hwf ?_ (hus hs)
    rw [State.spacingExpired, htimers]
    rw [if_pos hr, if_pos hmark, sends hs hon hroom]
  · rw [exec_spacingTimerExpiry]
    refine run_settled hwf (u := s.setPage p { x with spacing := .stopped }) ?_ (hs.congr rfl rfl rfl rfl)
    rw [State.spacingExpired, htimers]
    rw [if_pos hr, hmark]
    exact if_neg Bool.false_ne_true
  · rw [exec_periodTimerExpiry]
    refine run_settled hwf ?_ hs
    rw [State.periodExpired, htimers, hr]
    exact if_neg Bool.false_ne_true
  · rw [exec_spacingTimerExpiry]
    refine run_settled hwf ?_ hs
    rw [State.spacingExpired, htimers]
    rw [hr]
    exact if_neg Bool.false_ne_true
  · rw [State.finish_of_calm hc]
    refine State.notePages_of_one (State.changedPage_eq hc.1 hp hn hothers) ?_ rfl
    rw [State.pageChanged, htimers]
    rw [if_pos hr, ← State.noted_set hp hl hothers]
    rfl
  · rw [State.finish_of_calm hc]
    refine State.notePages_of_one (State.changedPage_eq hc.1 hp hn hothers) ?_ ?_
    · rw [State.pageChanged, htimers]
      rw [hr, if_neg Bool.false_ne_true, State.sendPage_eq hc.unwatched hon hroom, State.noted_set hp hl hothers, hsent]
    · rw [← hsent, State.allPages_pageSent]
      rfl

end Sys2Proof.Machine
end

section
/-! SUPPORT. The Management Unit's part that every request shares: how a request is taken, refused or answered, and the reply's frame;
then the statement on PORT (R165). -/

namespace Sys2Proof.Machine

section
variable {s t u : State} {op : MgmtOp} {q : Request} {status : Nat} {w : Word} {r : Option (MgmtOp × Request)}

/-! ## The frame of a reply (Table 10-6) -/

theorem splitMsb_two (b : BitVec 16) : splitMsb 2 b.toNat = [b.extractLsb' 8 8, b.extractLsb' 0 8] := by
  simp only [splitMsb, List.cons.injEq, and_true]
  constructor <;> apply BitVec.eq_of_toNat_eq <;> simp [BitVec.extractLsb'_toNat, Nat.shiftRight_eq_div_pow]

theorem splitMsb_four (b : Word) :
    splitMsb 4 b.toNat = [b.extractLsb' 24 8, b.extractLsb' 16 8, b.extractLsb' 8 8, b.extractLsb' 0 8] := by
  simp only [splitMsb, List.cons.injEq, and_true]
  refine ⟨?_, ?_, ?_, ?_⟩ <;> apply BitVec.eq_of_toNat_eq <;> simp [BitVec.extractLsb'_toNat, Nat.shiftRight_eq_div_pow]

theorem MgmtOp.code_lt (op : MgmtOp) : op.code < 16 := by cases op <;> decide

theorem replyFrame_eq (s : State) (op : MgmtOp) (status : Nat) (q : Request) (index : BitVec 16) (w : Word) :
    replyFrame s.cfg.mrepBase op.code status q index w = (s.replyTo q op.code status index w).frame := by
  unfold replyFrame State.replyTo
  rw [splitMsb_two, splitMsb_four, Nat.mod_eq_of_lt op.code_lt, Nat.mul_comm]
  rfl

/-- Where own frames are not watched a reply joins port B's queue at class 1. -/
theorem State.reply_eq (h : s.unwatched) (hr : op ≠ .reset ∨ status ≠ 0) (index : BitVec 16) :
    s.reply op status q index w = s.offerQueue .portB (s.replyTo q op.code status index w) := by
  have hno : (decide (op = .reset) && decide (status = statusOk)) = false := by
    rw [Bool.and_eq_false_iff]
    exact hr.imp decide_eq_false decide_eq_false
  unfold State.reply State.offerReply
  rw [State.offerOwn_of_unwatched h, hno, replyFrame_eq]
  rfl

/-! ## Answers -/

/-- An answered request: pages, its reply, and no request in progress. -/
theorem State.answer_afterPages (ha : u.agenda = []) (hu : u.unwatched) (hi : u.mgmt.inProgress = none)
    (hr : op ≠ .reset ∨ status ≠ 0) :
    ∃ v, u.AfterPages v ∧
      (u.inProgressAs r).answer op status q w = v.offerQueue .portB (u.replyTo q op.code status q.index w) := by
  have a : (u.inProgressAs r).AfterPages (u.inProgressAs r).finish := State.finish_afterPages_of_unwatched ha hu
  have b := a.inProgressAs none
  rw [State.inProgressAs_inProgressAs, State.inProgressAs_self hi] at b
  refine ⟨_, b, ?_⟩
  unfold State.answer
  rw [State.reply_eq (a.unwatched hu) hr, State.requestEnds_eq, ← State.offerQueue_inProgressAs]
  unfold State.replyTo
  rw [a.cfg_eq]
  rfl

/-- The same where no page has changed: the reply alone. -/
theorem State.answer_of_noted (ha : u.agenda = []) (hu : u.unwatched) (hn : u.mgmt.noted = u.allPages)
    (hi : u.mgmt.inProgress = none) (hr : op ≠ .reset ∨ status ≠ 0) :
    (u.inProgressAs r).answer op status q w = u.offerQueue .portB (u.replyTo q op.code status q.index w) := by
  have hf : (u.inProgressAs r).finish = u.inProgressAs r := State.finish_of_noted ha hn
  unfold State.answer
  rw [hf, State.reply_eq (by exact hu) hr, State.requestEnds_eq, ← State.offerQueue_inProgressAs, State.inProgressAs_inProgressAs,
    State.inProgressAs_self hi]
  rfl

theorem State.offerQueue_unwatched (h : s.unwatched) (p : PortId) (x : QFrame) : (s.offerQueue p x).unwatched := by
  rw [State.offerQueue_eq]; exact h

theorem State.offerQueue_agenda_nil (h : s.agenda = []) (p : PortId) (x : QFrame) : (s.offerQueue p x).agenda = [] := by
  rw [State.offerQueue_eq]; exact h

/-- A frame offered at the end of a command is followed by pages alone. -/
theorem State.offerQueue_finish (ha : u.agenda = []) (hu : u.unwatched) (p : PortId) (x : QFrame) :
    (u.offerQueue p x).AfterPages (u.offerQueue p x).finish :=
  State.finish_afterPages_of_unwatched (State.offerQueue_agenda_nil ha p x) (State.offerQueue_unwatched hu p x)

/-- A command that answers a request: pages, the reply, pages. -/
theorem run_afterReply {c : Instr} {effect : State → State} (hc : c.wellFormed = true)
    (e : effect s = (u.inProgressAs r).answer op status q w) (ha : u.agenda = []) (hu : u.unwatched)
    (hi : u.mgmt.inProgress = none) (hr : op ≠ .reset ∨ status ≠ 0) :
    ∃ t, run c effect s = .next t ∧ u.AfterReply (u.replyTo q op.code status q.index w) t := by
  obtain ⟨v, hv, hans⟩ := State.answer_afterPages (r := r) (q := q) (w := w) ha hu hi hr
  refine ⟨_, run_wellFormed hc effect s, v, hv, ?_⟩
  rw [e, hans]
  exact State.offerQueue_finish (hv.agenda_eq.trans ha) (hv.unwatched hu) _ _

/-- A command that answers a request and changes no page: the reply, then pages. -/
theorem run_replied {c : Instr} {effect : State → State} (hc : c.wellFormed = true)
    (e : effect s = (u.inProgressAs r).answer op status q w) (ha : u.agenda = []) (hu : u.unwatched)
    (hn : u.mgmt.noted = u.allPages) (hi : u.mgmt.inProgress = none) (hr : op ≠ .reset ∨ status ≠ 0) :
    ∃ t, run c effect s = .next t ∧ (u.offerQueue .portB (u.replyTo q op.code status q.index w)).AfterPages t := by
  refine ⟨_, run_wellFormed hc effect s, ?_⟩
  rw [e, State.answer_of_noted ha hu hn hi hr]
  exact State.offerQueue_finish ha hu _ _

/-! ## The value of a refusal (R161, assumption 5) -/

/-- A free value has been drawn. -/
def State.drawn (s : State) : State := { s with freeCount := s.freeCount + 1 }

theorem State.refusedValue_noSuch : s.refusedValue op q statusNoSuch = (s, allOnes) := if_pos rfl

theorem State.refusedValue_step (h : status = statusBusy ∨ status = statusRange) : s.refusedValue .step q status = (s, 0) := by
  unfold State.refusedValue
  rw [if_neg (by rcases h with rfl | rfl <;> decide), if_pos ⟨rfl, h⟩]

theorem State.refusedValue_word (hs : status ≠ statusNoSuch) (hn : op.namesWord = true)
    (hw : s.readWord q.table q.indexN q.word = some w) : s.refusedValue op q status = (s, w) := by
  unfold State.refusedValue
  rw [if_neg hs, if_neg fun h => by rw [h.1] at hn; cases hn]
  simp only [hn, if_true, hw]

theorem State.refusedValue_free (hs : status ≠ statusNoSuch) (ho : op ≠ .step)
    (hw : op.namesWord = true → s.readWord q.table q.indexN q.word = none) :
    s.refusedValue op q status = (s.drawn, Config.freeReplyValue s.freeCount) := by
  unfold State.refusedValue
  rw [if_neg hs, if_neg fun h => ho h.1]
  cases hn : op.namesWord with
  | true => simp only [if_true, hw hn]; rfl
  | false => simp only [Bool.false_eq_true, if_false]; rfl

theorem State.refuse_eq (h : s.refusedValue op q status = (t, w)) : s.refuse op q status = t.answer op status q w := by
  unfold State.refuse; rw [h]

theorem State.answerBusy_eq (h : s.refusedValue op q statusBusy = (t, w)) :
    s.answerBusy op q = t.reply op statusBusy q q.index w := by
  unfold State.answerBusy; rw [h]

/-! ## A request taken (R160, R161) -/

/-- `op` of `q` is now the request in progress. -/
def State.taking (s : State) (op : MgmtOp) (q : Request) : State := s.inProgressAs (some (op, q))

theorem State.manage_busy (h : s.mgmt.inProgress ≠ none) : s.manage op q = s.answerBusy op q :=
  if_pos (Option.isSome_iff_ne_none.2 h)

theorem State.manage_judged (h : s.mgmt.inProgress = none) (hj : s.judgeRequest op q = some status) :
    s.manage op q = (s.taking op q).refuse op q status := by
  unfold State.manage
  rw [h, if_neg (by simp)]
  have hj' : (s.taking op q).judgeRequest op q = some status := hj
  show (match (s.taking op q).judgeRequest op q with
    | some status => (s.taking op q).refuse op q status
    | none => (s.taking op q).operate op q) = _
  simp only [hj']

theorem State.manage_operates (h : s.mgmt.inProgress = none) (hj : s.judgeRequest op q = none) :
    s.manage op q = (s.taking op q).operate op q := by
  unfold State.manage
  rw [h, if_neg (by simp)]
  have hj' : (s.taking op q).judgeRequest op q = none := hj
  show (match (s.taking op q).judgeRequest op q with
    | some status => (s.taking op q).refuse op q status
    | none => (s.taking op q).operate op q) = _
  simp only [hj']

/-- An operation that names no table needs its level alone. -/
theorem State.judgeRequest_of_level (he : op ≠ .examine) (hd : op ≠ .deposit) (hc : op ≠ .clear)
    (hl : s.levelHolds op q.table = true) : s.judgeRequest op q = none := by
  unfold State.judgeRequest
  dsimp only
  rw [if_neg fun h => h.1.elim he fun h => h.elim hd hc, if_neg fun h => hd h.1, if_neg fun h => hc h.1, if_pos hl]

end

/-! ## PORT (R165) -/

section
variable {s u : State} {q : Request} {p : PortId} {c : Instr}

/-- A PORT request that names a port: the port's act, then the reply. -/
theorem State.manage_port (hi : s.mgmt.inProgress = none) (hs : s.mgmt.service = true)
    (hact : (s.taking .port q).doPort q = (u.taking .port q).answer .port statusOk q 0) :
    s.manage .port q = (u.taking .port q).answer .port statusOk q 0 := by
  rw [State.manage_operates hi (State.judgeRequest_of_level (op := .port) nofun nofun nofun hs)]
  exact hact

theorem portOfIndex_of (h : q.index = (match p with | .portC => 0 | .portB => 1)) : portOfIndex q.indexN = some p := by
  unfold Request.indexN; rw [h]; cases p <;> rfl

theorem State.doPort_clear (h : portOfIndex q.indexN = some p) (hv : q.value = 0) :
    s.doPort q = (s.setPort p (s.port p).clearForward).answer .port statusOk q 0 := by
  unfold State.doPort
  simp only [h, show q.valueN = 0 by unfold Request.valueN; rw [hv]; rfl]

theorem State.doPort_set (h : portOfIndex q.indexN = some p) (hv : q.value = 1) :
    s.doPort q = (s.setPort p (s.port p).setForward).answer .port statusOk q 0 := by
  unfold State.doPort
  simp only [h, show q.valueN = 1 by unfold Request.valueN; rw [hv]; rfl]

theorem State.doPort_restart (h : portOfIndex q.indexN = some p) (hv : q.value = 2) :
    s.doPort q = (s.restartPort p).answer .port statusOk q 0 := by
  unfold State.doPort
  simp only [h, show q.valueN = 2 by unfold Request.valueN; rw [hv]; rfl]

end

/-- Settles O56: each value is one act on the port, answered OK. -/
theorem portRequestActsOnThePort : Obligations.PortRequestActsOnThePort := by
  unfold Obligations.PortRequestActsOnThePort
  intro s q p x hc hi hs hp hx
  subst hx
  have hname := portOfIndex_of hp
  refine ⟨fun hv => ?_, fun hv => ?_, fun hv => ?_⟩
  · obtain ⟨t, ht, hr⟩ := run_afterReply (c := .portClear q) (op := .port) (decide_eq_true hv)
      (State.manage_port (u := s.setPort p (s.port p).clearForward) hi hs (State.doPort_clear hname hv)) hc.1 hc.unwatched hi (.inl nofun)
    exact ⟨t, ht, hr⟩
  · obtain ⟨t, ht, hr⟩ := run_afterReply (c := .portSet q) (op := .port) (decide_eq_true hv)
      (State.manage_port (u := s.setPort p (s.port p).setForward) hi hs (State.doPort_set hname hv)) hc.1 hc.unwatched hi (.inl nofun)
    exact ⟨t, ht, hr⟩
  · have hact : (s.taking .port q).doPort q =
        ((s.flushed p (s.port p).restart.1 (s.dueAfterFlush (s.port p))).taking .port q).answer .port statusOk q 0 := by
      rw [State.doPort_restart hname hv, State.restartPort_eq]
      rfl
    obtain ⟨t, ht, hr⟩ := run_afterReply (c := .portRestart q) (op := .port) (decide_eq_true hv) (State.manage_port hi hs hact)
      ((State.calm_flushed _ _).2 hc).1 ((State.calm_flushed _ _).2 hc).unwatched hi (.inl nofun)
    exact ⟨t, _, ht, hr, Port.resetDue_iff⟩

end Sys2Proof.Machine
end

section
/-! The statement on CLEAR (R163). -/

namespace Sys2Proof.Machine

section
variable {s t u : State} {q : Request} {status : Nat}

/-! ## Where no reader is bound nothing follows an evaluation (R28, R38) -/

theorem State.boundEntry_of_unread (h : s.unread) (r : Role) : s.boundEntry r = none := by
  unfold State.boundEntry
  cases hr : s.cfg.roles[r.index]? with
  | none => rfl
  | some o => exact h.1 o (List.mem_of_getElem? hr)

theorem State.roleView_of_unread (h : s.unread) (r : Role) : s.roleView r = (.lost, none) := by
  have hb : (s.cfg.roles[r.index]?).join = none := State.boundEntry_of_unread h r
  unfold State.roleView
  rw [hb]

theorem State.given_of_unread (h : s.unread) (r : RoleGroup) : s.given r = false := by
  have hg : s.cfg.roleGroups.getD r.index 0 = 0 := by
    rw [List.getD_eq_getElem?_getD]
    cases hr : s.cfg.roleGroups[r.index]? with
    | none => rfl
    | some n => exact h.2.1 n (List.mem_of_getElem? hr)
  unfold State.given State.roleGroupState State.groupState
  rw [hg]
  rfl

theorem State.positionReached_of_unread (h : s.unread) (a : ArmId) : s.positionReached a = false := by
  unfold State.positionReached
  split
  · rfl
  · rw [decide_eq_false fun hr => h.2.2 a hr.1, Bool.false_and]

theorem State.inAnyOrder_nil {α : Type} (s : State) : s.inAnyOrder ([] : List α) = (s, []) := rfl

/-- With nobody bound and no arm RUNNING a change of the tables is handed to nobody. -/
theorem State.settleFrom_of_unread (hs : s.unread) (ht : t.unread) : State.settleFrom s [] t = t := by
  have hg : State.movedGroups s t = [] := by
    unfold State.movedGroups
    rw [List.filter_eq_nil_iff.2, List.map_nil]
    intro r _
    rw [State.given_of_unread hs, State.given_of_unread ht]
    exact Bool.false_ne_true
  have hr : State.movedRoles s t [] = [] := by
    unfold State.movedRoles
    rw [List.filter_eq_nil_iff.2, List.map_nil]
    intro r _
    rw [State.roleMoved, State.roleUpdated, State.boundEntry_of_unread ht, State.roleView_of_unread hs, State.roleView_of_unread ht]
    simp
  unfold State.settleFrom
  simp only [hg, State.inAnyOrder_nil, hr, State.positionReached_of_unread ht, Bool.false_eq_true, if_false, List.append_nil]
  exact State.postAll_nil t

/-- The pages show nothing of the Signal, Term and Group Tables where VEHICLE_SPEED is unbound. -/
theorem State.allPages_of_unread (h : s.unread) (x : List SignalEntry) (y : List TermEntry) (z : List GroupEntry) :
    ({ s with signals := x, terms := y, groups := z } : State).allPages = s.allPages := by
  have h2 : ({ s with signals := x, terms := y, groups := z } : State).page2 = s.page2 := by
    simp only [State.page2, State.roleValue, State.roleView_of_unread h,
      State.roleView_of_unread (s := { s with signals := x, terms := y, groups := z }) h]
  show [_, _, _, _] = [_, _, _, _]
  simp only [State.pageBytes, h2]
  rfl

theorem State.settled_of_unread (hs : s.settled) (h : s.unread) (x : List SignalEntry) (y : List TermEntry) (z : List GroupEntry) :
    ({ s with signals := x, terms := y, groups := z } : State).settled :=
  hs.congr rfl rfl rfl (State.allPages_of_unread h x y z)

/-! ## CLEAR judged and done (R161, R163) -/

theorem State.judgeRequest_clear (h : q.table ≤ 14) :
    s.judgeRequest .clear q =
      if clearable q.table = false then some statusRange else if s.mgmt.service = true then none else some statusLevel := by
  unfold State.judgeRequest
  dsimp only
  rw [if_neg fun h' => absurd h'.2 (by omega), if_neg fun h' => nomatch h'.1]
  simp only [true_and, Bool.not_eq_true]
  rfl

theorem State.doClear_ok (h : s.clearTable q.table = .ok u) : s.doClear q = u.answer .clear statusOk q 0 := by
  unfold State.doClear; rw [h]

theorem State.doClear_error (h : s.clearTable q.table = .error status) : s.doClear q = s.refuse .clear q status := by
  unfold State.doClear; rw [h]

/-- An accepted CLEAR. -/
theorem State.manage_clear (hi : s.mgmt.inProgress = none) (hs : s.mgmt.service = true) (ht : q.table ≤ 14)
    (hk : clearable q.table = true) (h : (s.taking .clear q).clearTable q.table = .ok (u.taking .clear q)) :
    s.manage .clear q = (u.taking .clear q).answer .clear statusOk q 0 := by
  rw [State.manage_operates hi]
  · exact State.doClear_ok h
  · rw [State.judgeRequest_clear ht, hk, if_neg nofun, if_pos hs]

/-- A CLEAR refused by its table's chapter. -/
theorem State.manage_clear_error (hi : s.mgmt.inProgress = none) (hs : s.mgmt.service = true) (ht : q.table ≤ 14)
    (hk : clearable q.table = true) (h : (s.taking .clear q).clearTable q.table = .error status) :
    s.manage .clear q = (s.taking .clear q).refuse .clear q status := by
  rw [State.manage_operates hi]
  · exact State.doClear_error h
  · rw [State.judgeRequest_clear ht, hk, if_neg nofun, if_pos hs]

theorem State.refuse_drawn {op : MgmtOp} (hs : status ≠ statusNoSuch) (ho : op ≠ .step) (hn : op.namesWord = false) :
    (s.taking op q).refuse op q status =
      (s.drawn.taking op q).answer op status q (Config.freeReplyValue s.freeCount) :=
  State.refuse_eq (State.refusedValue_free hs ho fun h => by rw [hn] at h; cases h)

theorem State.anyInCycle_of (h : ∃ a, (s.arm a).inCycle = true) : s.anyInCycle = true := by
  obtain ⟨a, ha⟩ := h
  unfold State.anyInCycle
  cases a <;> rw [ha] <;> simp

theorem State.anyInCycle_of_none (h : ∀ a, (s.arm a).inCycle = false) : s.anyInCycle = false := by
  unfold State.anyInCycle; rw [h, h]; rfl

end

/-- Settles O55: an accepted CLEAR replaces one table and nothing reads it; every refusal keeps the tables and draws a free value. -/
theorem clearEmptiesTheTable : Obligations.ClearEmptiesTheTable := by
  unfold Obligations.ClearEmptiesTheTable
  intro s u q hs hi
  have hun := hs.1.unwatched
  refine ⟨fun hservice h => ?_, fun code h => ?_⟩
  · suffices k : (q.table ≤ 14 ∧ clearable q.table = true) ∧
        (s.taking .clear q).clearTable q.table = .ok (u.taking .clear q) ∧ u.settled ∧ u.mgmt.inProgress = none ∧
          u.cfg = s.cfg by
      obtain ⟨⟨ht, hk⟩, hclear, hu, hui, hcfg⟩ := k
      obtain ⟨t, hrun, hp⟩ := run_replied (c := .clear q) (op := .clear) rfl
        (State.manage_clear hi hservice ht hk hclear) hu.1.1 hu.1.unwatched hu.2 hui (.inl nofun)
      refine ⟨t, hrun, ?_⟩
      have hreply : u.replyTo q 12 0 q.index 0 = s.replyTo q 12 0 q.index 0 := by unfold State.replyTo; rw [hcfg]
      exact hreply ▸ hp
    rcases h with ⟨ht, rfl⟩ | ⟨ht, hr, rfl⟩ | ⟨ht, hr, rfl⟩ | ⟨ht, hr, rfl⟩ | ⟨ht, hc, rfl⟩ | ⟨ht, hc, rfl⟩ | ⟨ht, rfl⟩ |
      ⟨ht, hc, rfl⟩ | ⟨ht, rfl⟩ | ⟨ht, hc, rfl⟩ <;> rw [ht] <;> refine ⟨⟨by omega, rfl⟩, ?_, ?_, hi, rfl⟩
    · rfl
    · exact hs.congr rfl rfl rfl rfl
    · exact congrArg Except.ok (State.settleFrom_of_unread (s := s.taking .clear q) hr hr)
    · exact State.settled_of_unread hs hr _ _ _
    · exact congrArg Except.ok (State.settleFrom_of_unread (s := s.taking .clear q) hr hr)
    · exact State.settled_of_unread hs hr _ _ _
    · exact congrArg Except.ok (State.settleFrom_of_unread (s := s.taking .clear q) hr hr)
    · exact State.settled_of_unread hs hr _ _ _
    · exact if_neg (by rw [show (s.taking .clear q).anyInCycle = false from State.anyInCycle_of_none hc]; nofun)
    · exact hs.congr rfl rfl rfl rfl
    · exact if_neg (by rw [show (s.taking .clear q).anyInCycle = false from State.anyInCycle_of_none hc]; nofun)
    · exact hs.congr rfl rfl rfl rfl
    · rfl
    · exact hs.congr rfl rfl rfl rfl
    · exact if_neg (by show ¬ s.bins.update.isSome = true; rw [hc]; nofun)
    · exact hs.congr rfl rfl rfl rfl
    · rfl
    · exact hs.congr rfl rfl rfl rfl
    · exact if_neg (by show ¬ s.watch.isHeld = true; rw [hc]; nofun)
    · exact ⟨⟨hs.1.1, by simp [WatchEntry.cleared]⟩, hs.2⟩
  · suffices k : code ≠ 3 ∧ s.manage .clear q = (s.taking .clear q).refuse .clear q code by
      obtain ⟨hcode, hman⟩ := k
      obtain ⟨t, hrun, hp⟩ := run_replied (c := .clear q) (op := .clear) rfl
        (hman.trans (State.refuse_drawn hcode nofun rfl)) (u := s.drawn) hs.1.1 hun hs.2 hi (.inl nofun)
      exact ⟨t, _, hrun, hp⟩
    rcases h with ⟨hservice, ht, hc, rfl⟩ | ⟨hservice, ht, hc, rfl⟩ | ⟨hservice, ht, hc, rfl⟩ | ⟨ht, rfl⟩ | ⟨hservice, ht, rfl⟩
    · refine ⟨by decide, State.manage_clear_error hi hservice ?_ ?_ ?_⟩
      · omega
      · rcases ht with ht | ht <;> rw [ht] <;> rfl
      · have hcycle : (s.taking .clear q).anyInCycle = true := State.anyInCycle_of hc
        rcases ht with ht | ht <;> rw [ht] <;> exact if_pos hcycle
    · refine ⟨by decide, State.manage_clear_error hi hservice (by omega) (by rw [ht]; rfl) ?_⟩
      rw [ht]
      exact if_pos hc
    · refine ⟨by decide, State.manage_clear_error hi hservice (by omega) (by rw [ht]; rfl) ?_⟩
      rw [ht]
      exact if_pos (Option.isSome_iff_ne_none.2 hc)
    · refine ⟨by decide, State.manage_judged hi ?_⟩
      rw [State.judgeRequest_clear (by omega), if_pos (by rcases ht with ht | ht | ht | ht | ht <;> rw [ht] <;> rfl)]
      rfl
    · have hk : clearable q.table = true := by
        have : q.table ∈ [1, 2, 3, 4, 5, 6, 7, 8, 10, 12] := by simp; omega
        revert this
        generalize q.table = n
        intro h
        fin_cases h <;> rfl
      refine ⟨by decide, State.manage_judged hi ?_⟩
      rw [State.judgeRequest_clear (by omega), hk, if_neg nofun, hservice]
      rfl

end Sys2Proof.Machine
end

section
/-! The statement on request frames (R13, R160, R161). -/

namespace Sys2Proof.Machine

section
variable {s u : State} {f : Frame} {n : Nat} {op : MgmtOp} {q : Request} {node : BitVec 4}

/-! ## The bytes of a request and of its echo -/

theorem toNat_append_byte {m : Nat} (x : BitVec m) (b : Byte) : (x ++ b).toNat = x.toNat * 256 + b.toNat := by
  rw [BitVec.toNat_append, ← Nat.shiftLeft_add_eq_or_of_lt b.isLt, Nat.shiftLeft_eq]

theorem requestOf_eq (node : BitVec 4) (f : Frame) :
    requestOf node f =
      { node, tableWord := f.byte 1, index := f.byte 2 ++ f.byte 3, value := f.byte 4 ++ f.byte 5 ++ f.byte 6 ++ f.byte 7 } := by
  have two (a b : Byte) : BitVec.ofNat 16 (joinMsb [a, b]) = a ++ b := by
    refine BitVec.eq_of_toNat_eq ?_
    rw [BitVec.toNat_ofNat, toNat_append_byte]
    simp only [joinMsb, List.foldl_cons, List.foldl_nil]
    omega
  have four (a b c d : Byte) : BitVec.ofNat 32 (joinMsb [a, b, c, d]) = a ++ b ++ c ++ d := by
    refine BitVec.eq_of_toNat_eq ?_
    rw [BitVec.toNat_ofNat, toNat_append_byte, toNat_append_byte, toNat_append_byte]
    simp only [joinMsb, List.foldl_cons, List.foldl_nil]
    omega
  unfold requestOf
  rw [two, four]

theorem splitMsb_append_two (a b : Byte) : splitMsb 2 (a ++ b).toNat = [a, b] := by
  simp only [splitMsb, toNat_append_byte, List.cons.injEq, and_true]
  constructor <;> refine BitVec.eq_of_toNat_eq ?_ <;> rw [BitVec.toNat_ofNat] <;> omega

theorem splitMsb_append_four (a b c d : Byte) : splitMsb 4 (a ++ b ++ c ++ d).toNat = [a, b, c, d] := by
  simp only [splitMsb, toNat_append_byte, List.cons.injEq, and_true]
  refine ⟨?_, ?_, ?_, ?_⟩ <;> refine BitVec.eq_of_toNat_eq ?_ <;> rw [BitVec.toNat_ofNat] <;> omega

/-- The reply to a malformed request of node `n` (R160, assumption 26). -/
theorem replyFrame_echo (base : CanId) (f : Frame) (hn : n < 16) (index : BitVec 16) (value : Word)
    (hi : index = f.byte 2 ++ f.byte 3) (hv : value = f.byte 4 ++ f.byte 5 ++ f.byte 6 ++ f.byte 7) :
    replyFrame base (f.byte 0).toNat statusRange { node := BitVec.ofNat 4 n, tableWord := f.byte 1, index, value } index value =
      { id := base + BitVec.ofNat 29 n,
        data := BitVec.ofNat 8 (96 + (f.byte 0).toNat % 16) :: (List.range 7).map (fun k => f.byte (k + 1)) } := by
  have hnode : (BitVec.ofNat 4 n).setWidth 29 = BitVec.ofNat 29 n := by
    refine BitVec.eq_of_toNat_eq ?_
    simp only [BitVec.toNat_setWidth, BitVec.toNat_ofNat]
    omega
  unfold replyFrame
  rw [hi, hv, splitMsb_append_two, splitMsb_append_four, hnode]
  rfl

theorem MgmtOp.ofCode_eq_none {n : Nat} (h : n = 0 ∨ 13 < n) : MgmtOp.ofCode n = none := by
  unfold MgmtOp.ofCode
  split <;> first | omega | rfl

theorem requesterOf_eq {base id : CanId} (hn : n < 16) (h : id.toNat = base.toNat + n) :
    requesterOf base id = some (BitVec.ofNat 4 n) := by
  unfold requesterOf
  rw [if_pos (by omega), h, Nat.add_sub_cancel_left]

/-! ## A request frame taken (R13) -/

theorem State.handleFrame_request (h : requesterOf s.cfg.mreqBase f.id = some node) :
    s.handleFrame .portB f = s.managementFrame node f := by
  unfold State.handleFrame
  simp only [h]

/-- The head of port B's FIFO lies in the management range. -/
theorem State.takeFrame_of_request {r : List Frame} (hf : s.ports.snd.fifo = f :: r) (hn : n < 16)
    (hid : f.id.toNat = s.cfg.mreqBase.toNat + n) :
    s.takeFrame .portB = (s.setPort .portB { s.ports.snd with fifo := r }).managementFrame (BitVec.ofNat 4 n) f := by
  unfold State.takeFrame
  simp only [show (s.port .portB).fifo = f :: r from hf]
  exact State.handleFrame_request (requesterOf_eq hn hid)

theorem State.managementFrame_malformed (h : f.data.length < 8 ∨ f.byte 0 = 0 ∨ 13 < (f.byte 0).toNat) :
    s.managementFrame node f = s.answerMalformed node f := by
  unfold State.managementFrame
  by_cases hl : f.dlc < 8
  · rw [if_pos hl]
  · rw [if_neg hl]
    simp only [MgmtOp.ofCode_eq_none ((h.resolve_left hl).imp_left fun h => by rw [h]; rfl)]

theorem State.managementFrame_wellFormed (h : 8 ≤ f.data.length) (ho : MgmtOp.ofCode (f.byte 0).toNat = some op) :
    s.managementFrame node f = s.manage op (requestOf node f) := by
  unfold State.managementFrame
  rw [if_neg (show ¬ f.dlc < 8 from Nat.not_lt.2 h)]
  simp only [ho]

/-! ## Commands of request frames (Table 10-3) -/

/-- The commands of the operation codes. -/
def requestCommands (q : Request) : List (Nat × Instr) :=
  [(1, .identify q), (2, .examine q), (3, .deposit q), (4, .insertBin q), (5, .removeBin q), (6, .release q), (7, .day q),
   (8, .stepArm q), (9, .watchContinueDiscard q), (9, .watchContinueProcess q), (10, .lock q), (11, .reset q), (12, .clear q),
   (13, .portClear q), (13, .portSet q), (13, .portRestart q)]

/-- Each is its operation, taken by the Management Unit. -/
theorem exec_request {code : Nat} {c : Instr} (h : (code, c) ∈ requestCommands q) :
    ∃ op, MgmtOp.ofCode code = some op ∧ op.code = code ∧ ∀ s, exec c s = run c (fun s => s.manage op q) s := by
  simp only [requestCommands, List.mem_cons, Prod.mk.injEq, List.not_mem_nil, or_false] at h
  rcases h with ⟨rfl, rfl⟩ | ⟨rfl, rfl⟩ | ⟨rfl, rfl⟩ | ⟨rfl, rfl⟩ | ⟨rfl, rfl⟩ | ⟨rfl, rfl⟩ | ⟨rfl, rfl⟩ | ⟨rfl, rfl⟩ |
    ⟨rfl, rfl⟩ | ⟨rfl, rfl⟩ | ⟨rfl, rfl⟩ | ⟨rfl, rfl⟩ | ⟨rfl, rfl⟩ | ⟨rfl, rfl⟩ | ⟨rfl, rfl⟩ | ⟨rfl, rfl⟩ <;>
    exact ⟨_, rfl, rfl, fun _ => rfl⟩

/-- The command that a request frame stands for, with the value its name carries. -/
theorem mem_requestCommands {code : Nat} {c : Instr}
    (h : (code, c) ∈ [(1, Instr.identify q), (2, .examine q), (3, .deposit q), (4, .insertBin q), (5, .removeBin q),
        (6, .release q), (7, .day q), (8, .stepArm q), (10, .lock q), (11, .reset q), (12, .clear q)] ∨
      (code, q.value, c) ∈ [(9, 0, Instr.watchContinueDiscard q), (9, 1, .watchContinueProcess q),
        (13, 0, .portClear q), (13, 1, .portSet q), (13, 2, .portRestart q)]) :
    (code, c) ∈ requestCommands q ∧ c.wellFormed = true := by
  simp only [requestCommands, List.mem_cons, Prod.mk.injEq, List.not_mem_nil, or_false] at h ⊢
  rcases h with (⟨rfl, rfl⟩ | ⟨rfl, rfl⟩ | ⟨rfl, rfl⟩ | ⟨rfl, rfl⟩ | ⟨rfl, rfl⟩ | ⟨rfl, rfl⟩ | ⟨rfl, rfl⟩ | ⟨rfl, rfl⟩ |
    ⟨rfl, rfl⟩ | ⟨rfl, rfl⟩ | ⟨rfl, rfl⟩) | ⟨rfl, hv, rfl⟩ | ⟨rfl, hv, rfl⟩ | ⟨rfl, hv, rfl⟩ | ⟨rfl, hv, rfl⟩ | ⟨rfl, hv, rfl⟩
  all_goals first
    | exact ⟨by simp, rfl⟩
    | exact ⟨by simp, decide_eq_true hv⟩

/-- A command with a free choice to draw from is the frame's command. -/
theorem exec_frameTaken_request {r : List Frame} {c : Instr} (hf : s.ports.snd.fifo = f :: r) (hn : n < 16)
    (hid : f.id.toNat = s.cfg.mreqBase.toNat + n) (hl : 8 ≤ f.data.length) (hq : requestOf (BitVec.ofNat 4 n) f = q)
    (hc : ((f.byte 0).toNat, c) ∈ requestCommands q) (hw : c.wellFormed = true) :
    exec (.frameTaken .portB) s = exec c (s.setPort .portB { s.ports.snd with fifo := r }) := by
  obtain ⟨op, hop, -, hexec⟩ := exec_request hc
  rw [hexec, run_wellFormed hw, exec_frameTaken, run_wellFormed rfl]
  show Host.Outcome.next (s.takeFrame .portB).finish = _
  rw [State.takeFrame_of_request hf hn hid, State.managementFrame_wellFormed hl hop, hq]

/-! ## A WATCH_CONTINUE or PORT request out of range (R157, R165) -/

/-- The operations whose requests can be out of range need SERVICE level and name no table and no word. -/
theorem MgmtOp.of_outOfRange {code : Nat}
    (h : code = 9 ∧ 1 < q.value.toNat ∨ code = 13 ∧ (2 < q.value.toNat ∨ 1 < q.index.toNat)) (hs : s.mgmt.service = true) :
    ∃ op, MgmtOp.ofCode code = some op ∧ op.code = code ∧ s.judgeRequest op q = none ∧ op ≠ .step ∧ op.namesWord = false := by
  rcases h with ⟨rfl, -⟩ | ⟨rfl, -⟩
  · exact ⟨.watchContinue, rfl, rfl, State.judgeRequest_of_level nofun nofun nofun hs, nofun, rfl⟩
  · exact ⟨.port, rfl, rfl, State.judgeRequest_of_level nofun nofun nofun hs, nofun, rfl⟩

theorem State.operate_outOfRange {code : Nat} (ho : MgmtOp.ofCode code = some op)
    (h : code = 9 ∧ 1 < q.value.toNat ∨ code = 13 ∧ (2 < q.value.toNat ∨ 1 < q.index.toNat)) :
    s.operate op q = s.refuse op q statusRange := by
  rcases h with ⟨rfl, hv⟩ | ⟨rfl, hv⟩ <;> cases ho
  · show s.doWatchContinue q = _
    unfold State.doWatchContinue
    rw [if_pos (show 1 < q.valueN from hv)]
  · show s.doPort q = _
    have hnone : 1 < q.index.toNat → portOfIndex q.indexN = none := by
      unfold Request.indexN portOfIndex
      split <;> first | omega | exact fun _ => rfl
    have hno {p : PortId} {k : Nat} (hk : k ≤ 2) (hp : portOfIndex q.indexN = some p) (hval : q.valueN = k) : False := by
      rcases hv with hv | hv
      · unfold Request.valueN at hval; omega
      · rw [hnone hv] at hp; cases hp
    unfold State.doPort
    split
    next hp hval => exact (hno (by decide) hp hval).elim
    next hp hval => exact (hno (by decide) hp hval).elim
    next hp hval => exact (hno (by decide) hp hval).elim
    next => rfl

end

/-- Settles O50: every request frame is answered at once or is its operation's command, and a second request is answered BUSY. -/
theorem requestFramesReachManagement : Obligations.RequestFramesReachManagement := by
  unfold Obligations.RequestFramesReachManagement
  refine ⟨fun s f r n q u hf hn hid hq hu => ?_, fun s q code c hc hi hw hmem => ?_⟩
  · have hreq : requestOf (BitVec.ofNat 4 n) f = q := (requestOf_eq _ _).trans hq.symm
    have htake : s.takeFrame .portB = u.managementFrame (BitVec.ofNat 4 n) f := hu ▸ State.takeFrame_of_request hf hn hid
    refine ⟨fun hc hbad => ?_, fun hl c hmem => ?_, fun hl hs hi hservice code hcode hrange => ?_⟩
    · have hcu : u.calm := hu ▸ hc
      rw [exec_frameTaken]
      refine ⟨_, run_wellFormed rfl _ _, ?_⟩
      rw [htake, State.managementFrame_malformed hbad, State.answerMalformed]
      rw [requestOf_eq, replyFrame_echo _ _ hn _ _ rfl rfl, State.offerReply, State.offerOwn_of_unwatched hcu.unwatched,
        show u.cfg = s.cfg by rw [hu]; rfl]
      exact State.offerQueue_finish hcu.1 hcu.unwatched _ _
    · obtain ⟨hmem, hw⟩ := mem_requestCommands hmem
      rw [hu]
      exact exec_frameTaken_request hf hn hid hl hreq hmem hw
    · have hs' : u.settled := hu ▸ hs.setPort rfl
      have hi' : u.mgmt.inProgress = none := hu ▸ hi
      obtain ⟨op, hop, hopc, hjudge, hstep, hword⟩ := MgmtOp.of_outOfRange (s := u) hrange (hu ▸ hservice)
      have hman : s.takeFrame .portB = (u.drawn.taking op q).answer op statusRange q (Config.freeReplyValue u.freeCount) := by
        rw [htake, State.managementFrame_wellFormed hl (hcode ▸ hop), hreq, State.manage_operates hi' hjudge,
          State.operate_outOfRange hop hrange, State.refuse_drawn (by decide) hstep hword]
      obtain ⟨t, hrun, hp⟩ := run_replied (c := .frameTaken .portB) (effect := fun s => s.takeFrame .portB) (u := u.drawn) rfl hman
        hs'.1.1 hs'.1.unwatched hs'.2 hi' (.inr (by decide))
      rw [hopc] at hp
      subst hu
      exact ⟨t, _, hrun, hp⟩
  · obtain ⟨op, hop, rfl, hexec⟩ := exec_request hmem
    have busy {v : State} {w : Word} (h : s.refusedValue op q statusBusy = (v, w)) (hv : v.calm) :
        ∃ t, exec c s = .next t ∧ (v.offerQueue .portB (v.replyTo q op.code 2 q.index w)).AfterPages t := by
      refine ⟨_, (hexec s).trans (run_wellFormed hw _ s), ?_⟩
      rw [State.manage_busy hi, State.answerBusy_eq h, State.reply_eq hv.unwatched (.inr (by decide))]
      exact State.offerQueue_finish hv.1 hv.unwatched _ _
    refine ⟨fun w h => ?_, fun hstep h => ?_⟩
    · rcases h with ⟨hcode, rfl⟩ | ⟨hcode, hread⟩
      · obtain rfl : op = .step := by cases op <;> first | rfl | exact absurd hcode (by decide)
        exact busy (State.refusedValue_step (.inl rfl)) hc
      · have hn : op.namesWord = true := by cases op <;> first | rfl | exact absurd hcode (by decide)
        exact busy (State.refusedValue_word (by decide) hn hread) hc
    · obtain ⟨t, hrun, hp⟩ := busy (State.refusedValue_free (by decide) (fun he => hstep (by rw [he]; rfl))
        fun hn => h (by cases op <;> first | exact absurd hn (by decide) | decide)) (v := s.drawn) hc
      exact ⟨t, _, hrun, hp⟩

end Sys2Proof.Machine
end

section
/-! The statement on WATCH_CONTINUE (R157). -/

namespace Sys2Proof.Machine

section
variable {s t u w : State} {q : Request} {a : ArmId} {c : Consumer} {d : OwnDest} {f : Frame}

/-! ## The end of a hold that no block takes -/

/-- The hold has ended and the register is empty. -/
def State.released (s : State) : State := s.setWatch { s.watch with isHeld := false, holdEntry := none, register := none }

theorem State.holdEnds_eq_nil (ha : ∀ a, (s.arm a).state ≠ .held) (hc : ∀ c, (s.chamber c).state ≠ .held)
    (hp : ∀ c, (s.chamber c).pending = false) : s.holdEnds = [] := by
  unfold State.holdEnds
  rw [List.filter_eq_nil_iff.2, List.filter_eq_nil_iff.2]
  · rfl
  · intro c _
    simp [hc c, hp c]
  · intro a _
    simp [ha a]

/-- A hold with no block to take its end: the register's frame is settled, and the request is answered. -/
structure Ending (s : State) (q : Request) (h : HeldFrame) : Prop where
  agenda : s.agenda = []
  noted : s.mgmt.noted = s.allPages
  unwatched : s.unwatched
  idle : s.mgmt.inProgress = none
  service : s.mgmt.service = true
  held : s.watch.isHeld = true
  arms : ∀ a, (s.arm a).state ≠ .held
  chambers : ∀ c, (s.chamber c).state ≠ .held
  strokes : ∀ c, (s.chamber c).pending = false
  register : s.watch.register = some h

theorem Ending.manage {h : HeldFrame} (k : Ending s q h) (hq : ¬ 1 < q.valueN)
    (hcomm : (s.released.taking .watchContinue q).settleHeld (decide (q.valueN = 1)) h = w.taking .watchContinue q)
    (ha : w.agenda = []) (hu : w.unwatched) :
    s.manage .watchContinue q = (w.taking .watchContinue q).answer .watchContinue statusOk q 1 := by
  have hends : (s.released.taking .watchContinue q).holdEnds = [] := State.holdEnds_eq_nil k.arms k.chambers k.strokes
  have hend : ((s.released.taking .watchContinue q).handing [.settleHeld (decide (q.valueN = 1)) h]).finish =
      (w.taking .watchContinue q).finish := by
    rw [← hcomm]
    exact State.finish_handing_one (e := .settleHeld _ _) k.agenda k.noted (by rw [handle, hcomm]; exact ha)
      (by rw [handle, hcomm]; exact hu)
  rw [State.manage_operates k.idle (State.judgeRequest_of_level (op := .watchContinue) nofun nofun nofun k.service)]
  show (s.taking .watchContinue q).doWatchContinue q = _
  unfold State.doWatchContinue
  rw [if_neg hq, if_pos (show (s.taking .watchContinue q).watch.isHeld = true from k.held)]
  dsimp only
  rw [show (s.taking .watchContinue q).watch.register = some h from k.register, State.handHoldEnd]
  change ((State.postAnyOrder (s.released.taking .watchContinue q) (s.released.taking .watchContinue q).holdEnds).postAll
    (settleEvents (decide (q.valueN = 1)) (some h))).answer .watchContinue statusOk q 1 = _
  rw [hends, State.postAnyOrder_nil]
  unfold State.answer
  rw [← hend]
  unfold State.postAll
  rw [show (s.released.taking .watchContinue q).agenda = [] from k.agenda]
  rfl

/-! ## The frame settled -/

theorem State.slotStopped_eq_false (h : ∀ c : Consumer, d = .slot .portB c.number → (s.valve c).driving = true) :
    s.slotStopped d = false := by
  unfold State.slotStopped
  split
  next => rw [show s.valves.q0.driving = true from h .armA rfl]; rfl
  next => rw [show s.valves.q1.driving = true from h .armB rfl]; rfl
  next => rw [show s.valves.q2.driving = true from h .packer0 rfl]; rfl
  next => rw [show s.valves.q3.driving = true from h .packer1 rfl]; rfl
  next => rfl

theorem State.slotStopped_valve (h : (s.valve c).driving = false) : s.slotStopped (.slot .portB c.number) = true := by
  cases c <;> exact congrArg (!·) h

theorem State.settleHeld_own_stopped (h : (s.valve c).driving = false) :
    s.settleHeld true (.own (.slot .portB c.number) f) = s.discardHeld :=
  if_pos (State.slotStopped_valve h)

theorem State.settleHeld_own_placed (h : s.slotStopped d = false) : s.settleHeld true (.own d f) = s.placeOwn d f :=
  if_neg (by rw [h]; exact Bool.false_ne_true)

theorem State.settleHeld_received {p : PortId} (e : s.routeFrame false p f = t) (h : t.watch.isHeld = false) :
    s.settleHeld true (.received p f) = t := by
  show (s.routeFrame false p f).holdAgain = t
  rw [e, State.holdAgain, if_neg (by rw [h]; exact Bool.false_ne_true)]

theorem State.placeOwn_inProgressAs (r : Option (MgmtOp × Request)) :
    (s.inProgressAs r).placeOwn d f = (s.placeOwn d f).inProgressAs r := by
  cases d with
  | slot p n => rfl
  | queue p cls origin ofReset => exact State.offerQueue_inProgressAs _ _ _

theorem State.placeOwn_eq (s : State) (d : OwnDest) (f : Frame) :
    ∃ x m, s.placeOwn d f = { s with ports := x, mgmt := m } ∧ m.inProgress = s.mgmt.inProgress := by
  cases d with
  | slot p n => exact ⟨_, s.mgmt, rfl, rfl⟩
  | queue p cls origin ofReset => exact ⟨_, _, State.offerQueue_eq _ _ _, rfl⟩

/-- FAULT_CLEAR as an operator frame, outside FAULTED (R45). -/
theorem State.armFrame_of_ignored (hb : f.byte 0 = 7) (h : (s.arm a).state ≠ .faulted) :
    s.armFrame a f = s.setArm a { s.arm a with cmdIgnored := satInc (s.arm a).cmdIgnored } := by
  cases hd : f.data with
  | nil => rw [show f.byte 0 = 0 by simp [Frame.byte, hd]] at hb; cases hb
  | cons b args =>
    obtain rfl : b = 7 := by simpa [Frame.byte, hd] using hb
    have hcode : s.armFrame a f = s.armFaultClear a := by simp only [State.armFrame, hd]; rfl
    rw [hcode]
    exact if_neg h

/-! ## The command answered -/

theorem State.replyTo_congr (h : t.cfg = s.cfg) (op status : Nat) (w : Word) :
    t.replyTo q op status q.index w = s.replyTo q op status q.index w := by unfold State.replyTo; rw [h]

variable {h : HeldFrame} {i : Instr}

theorem Ending.afterReply (k : Ending s q h) (hi : i.wellFormed = true)
    (hexec : exec i s = run i (fun s => s.manage .watchContinue q) s) (hq : ¬ 1 < q.valueN)
    (hw : (s.released.taking .watchContinue q).settleHeld (decide (q.valueN = 1)) h = w.taking .watchContinue q)
    (ha : w.agenda = []) (hu : w.unwatched) (hp : w.mgmt.inProgress = none) (hc : w.cfg = s.cfg) :
    ∃ t, exec i s = .next t ∧ w.AfterReply (s.replyTo q 9 0 q.index 1) t := by
  rw [hexec, ← State.replyTo_congr hc]
  exact run_afterReply (op := .watchContinue) hi (k.manage hq hw ha hu) ha hu hp (.inl nofun)

/-- A discarded frame is only counted. -/
theorem Ending.discards (k : Ending s q h) (hi : i.wellFormed = true)
    (hexec : exec i s = run i (fun s => s.manage .watchContinue q) s) (hq : ¬ 1 < q.valueN)
    (hw : (s.released.taking .watchContinue q).settleHeld (decide (q.valueN = 1)) h =
      (s.released.taking .watchContinue q).discardHeld) :
    ∃ t, exec i s = .next t ∧ (s.released.discardHeld.offerQueue .portB (s.replyTo q 9 0 q.index 1)).AfterPages t := by
  rw [hexec]
  exact run_replied (op := .watchContinue) (u := s.released.discardHeld) hi
    (k.manage hq (w := s.released.discardHeld) hw k.agenda k.unwatched) k.agenda k.unwatched k.noted k.idle (.inl nofun)

end

/-- Settles O60: nothing takes the end of the hold, so that the register's frame is settled alone, by the Router's lemmas where it was
received. -/
theorem watchContinueEndsTheHold : Obligations.WatchContinueEndsTheHold := by
  unfold Obligations.WatchContinueEndsTheHold
  refine ⟨fun s q hs hi hservice => ⟨fun hfree c hc => ?_, fun hheld harms hchambers hstrokes =>
    ⟨fun h hreg hv => ?_, fun d f hreg hv => ⟨fun hdriving => ?_, fun c hd hstopped => ?_⟩⟩⟩, ?_⟩
  · have hq : ¬ 1 < q.valueN := by
      unfold Request.valueN
      rcases hc with ⟨-, hv⟩ | ⟨-, hv⟩ <;> rw [hv] <;> decide
    have hman : s.manage .watchContinue q = (s.taking .watchContinue q).answer .watchContinue statusOk q 0 := by
      rw [State.manage_operates hi (State.judgeRequest_of_level (op := .watchContinue) nofun nofun nofun hservice)]
      show (s.taking .watchContinue q).doWatchContinue q = _
      unfold State.doWatchContinue
      rw [if_neg hq]
      exact if_neg (by show ¬ s.watch.isHeld = true; rw [hfree]; exact Bool.false_ne_true)
    rcases hc with ⟨rfl, hv⟩ | ⟨rfl, hv⟩
    · rw [exec_watchContinueProcess]
      exact run_replied (op := .watchContinue) (decide_eq_true hv) hman hs.1.1 hs.1.unwatched hs.2 hi (.inl nofun)
    · rw [exec_watchContinueDiscard]
      exact run_replied (op := .watchContinue) (decide_eq_true hv) hman hs.1.1 hs.1.unwatched hs.2 hi (.inl nofun)
  · have k : Ending s q h := ⟨hs.1.1, hs.2, hs.1.unwatched, hi, hservice, hheld, harms, hchambers, hstrokes, hreg⟩
    have hval : q.valueN = 0 := by unfold Request.valueN; rw [hv]; rfl
    refine k.discards (i := .watchContinueDiscard q) (decide_eq_true hv) rfl (by omega) ?_
    rw [hval]
    rfl
  · have k : Ending s q (.own d f) := ⟨hs.1.1, hs.2, hs.1.unwatched, hi, hservice, hheld, harms, hchambers, hstrokes, hreg⟩
    have hval : q.valueN = 1 := by unfold Request.valueN; rw [hv]; rfl
    obtain ⟨x, m, hplace, hm⟩ := s.released.placeOwn_eq d f
    refine k.afterReply (i := .watchContinueProcess q) (w := s.released.placeOwn d f) (decide_eq_true hv) rfl (by omega) ?_
      (by rw [hplace]; exact hs.1.1) (by rw [hplace]; exact hs.1.unwatched) (by rw [hplace]; exact hm.trans hi)
      (by rw [hplace]; rfl)
    rw [hval]
    refine (State.settleHeld_own_placed ?_).trans (State.placeOwn_inProgressAs _)
    exact State.slotStopped_eq_false hdriving
  · have k : Ending s q (.own d f) := ⟨hs.1.1, hs.2, hs.1.unwatched, hi, hservice, hheld, harms, hchambers, hstrokes, hreg⟩
    have hval : q.valueN = 1 := by unfold Request.valueN; rw [hv]; rfl
    refine k.discards (i := .watchContinueProcess q) (decide_eq_true hv) rfl (by omega) ?_
    rw [hval, hd]
    exact State.settleHeld_own_stopped hstopped
  · intro s q p d f u fits hagenda hnoted hun hi hservice hheld harms hchambers hstrokes hreg hv hd hu hfits
    subst hu
    have k : Ending s q (.received p f) := ⟨hagenda, hnoted, hun, hi, hservice, hheld, harms, hchambers, hstrokes, hreg⟩
    have hval : q.valueN = 1 := by unfold Request.valueN; rw [hv]; rfl
    have hfits' (e : RouteEntry) : fits e ↔ e.fitsFrame p f = true := (hfits e).trans RouteEntry.fitsFrame_iff.symm
    have settles {w : State} (hroute : (s.released.taking .watchContinue q).routeFrame false p f = w.taking .watchContinue q)
        (hw : w.watch = s.released.watch) (ha : w.agenda = []) (hp : w.mgmt.inProgress = none) (hc : w.cfg = s.cfg) :
        ∃ t, exec (.watchContinueProcess q) s = .next t ∧ w.AfterReply (s.replyTo q 9 0 q.index 1) t := by
      refine k.afterReply (decide_eq_true hv) rfl (by omega) ?_ ha (by rw [State.unwatched, hw]; exact hun) hp hc
      rw [hval]
      refine State.settleHeld_received hroute ?_
      show w.watch.isHeld = false
      rw [hw]
      rfl
    refine ⟨fun hnone hmiss => ?_, fun i e v hentry hfit hfirst hgate hv w hw => ?_⟩
    · refine settles ?_ rfl hagenda hi rfl
      rw [State.routeFrame_of_miss (s := s.released.taking .watchContinue q) fun e he h => hnone e he ((hfits' e).2 h)]
      exact State.missFrame_of_drop (s := s.released.taking .watchContinue q) (by cases p <;> exact hmiss)
    · have hroute : (s.released.taking .watchContinue q).routeFrame false p f =
          (v.taking .watchContinue q).routeAction false i e p f := by
        rw [hv]
        exact State.routeFrame_of_winner (s := s.released.taking .watchContinue q) hentry ((hfits' e).1 hfit)
          (fun j hj g hg h => hfirst j hj g hg ((hfits' g).2 h)) _
      have hopen : (v.taking .watchContinue q).gateOpen e.gate = true := by rw [State.gateOpen_iff, hgate]; exact .inl rfl
      have hport : (v.taking .watchContinue q).port d = s.port d := by rw [hv]; rfl
      have harm (a : ArmId) : (v.taking .watchContinue q).arm a = s.arm a := by rw [hv]; rfl
      have hvw : v.watch = s.released.watch := by rw [hv]; rfl
      have hva : v.agenda = [] := by rw [hv]; exact hagenda
      have hvi : v.mgmt.inProgress = none := by rw [hv]; exact hi
      have hvc : v.cfg = s.cfg := by rw [hv]; rfl
      rcases hw with ⟨hact, rfl⟩ | ⟨hact, hen, rfl⟩ | ⟨hact, hen, rfl⟩ | ⟨hact, a, hcons, hop⟩
      · exact settles (hroute.trans (State.routeAction_of_drop hact)) hvw hva hvi hvc
      · refine settles (hroute.trans ((State.routeAction_of_forward hact hopen).trans ?_)) hvw hva hvi hvc
        rw [State.forwardFrame_of_disabled hd (by rw [hport, hen]), hport]
        rfl
      · refine settles (hroute.trans ((State.routeAction_of_forward hact hopen).trans ?_)) (by rw [State.offerQueue_eq]; exact hvw)
          (by rw [State.offerQueue_eq]; exact hva) (by rw [State.offerQueue_eq]; exact hvi) (by rw [State.offerQueue_eq]; exact hvc)
        rw [State.forwardFrame_of_enabled hd (by rw [hport, hen])]
        exact State.offerQueue_inProgressAs _ _ _
      · have hcons' : e.consumer = a.operator := hcons
        have hdeliver : (v.taking .watchContinue q).routeAction false i e p f = (v.taking .watchContinue q).armFrame a f := by
          rw [State.routeAction_of_consume hact (fun h => Bool.false_ne_true h.1) hopen, hcons', State.deliver_operator]
        rcases hop with ⟨hb, rfl⟩ | ⟨hb, hstate, rfl⟩
        · refine settles (hroute.trans (hdeliver.trans ?_)) hvw hva hvi hvc
          rw [State.armFrame_of_bad (.inr (.inl hb)), State.badArmCommand, harm]
          rfl
        · refine settles (hroute.trans (hdeliver.trans ?_)) hvw hva hvi hvc
          rw [State.armFrame_of_ignored hb (by rw [harm]; exact hstate), harm]
          rfl

end Sys2Proof.Machine
end

section
/-! The statement on DEPOSIT (R161). -/

namespace Sys2Proof

/-- The Calibration Table's index of an arm. -/
def ArmId.calPlace : ArmId → Nat
  | .armA => 0
  | .armB => 1

end Sys2Proof

namespace Sys2Proof.Machine

section
variable {s u : State} {q : Request} {status i : Nat} {w : Word}

/-! ## A DEPOSIT answered -/

/-- A state in which a DEPOSIT is judged at once and changes no page by itself. -/
structure Quiet (s : State) : Prop where
  agenda : s.agenda = []
  noted : s.mgmt.noted = s.allPages
  unwatched : s.unwatched
  idle : s.mgmt.inProgress = none

/-- The DEPOSIT leaves `u`, answered with `code` and `w`. -/
def Deposited (s : State) (q : Request) (u : State) (code : Nat) (w : Word) : Prop :=
  ∃ t, exec (.deposit q) s = .next t ∧ (u.offerQueue .portB (s.replyTo q 3 code q.index w)).AfterPages t

theorem Quiet.deposited (hu : Quiet u) (hc : u.cfg.mrepBase = s.cfg.mrepBase)
    (h : s.manage .deposit q = (u.taking .deposit q).answer .deposit status q w) : Deposited s q u status w := by
  unfold Deposited
  rw [exec_deposit]
  obtain ⟨t, ht, hp⟩ := run_replied (c := .deposit q) (effect := fun s => s.manage .deposit q) (op := .deposit) rfl h hu.agenda
    hu.unwatched hu.noted hu.idle (.inl nofun)
  have hreply : u.replyTo q 3 status q.index w = s.replyTo q 3 status q.index w := by unfold State.replyTo; rw [hc]
  exact ⟨t, ht, hreply ▸ hp⟩

theorem State.judgeRequest_deposit (h : q.table ≤ 14) :
    s.judgeRequest .deposit q =
      if readOnlyDeposit q.table q.word = true then some statusRange
      else if s.depositAllowed q.table = true then none else some statusLevel := by
  unfold State.judgeRequest
  dsimp only
  rw [if_neg fun h' => absurd h'.2 (by omega)]
  simp only [true_and, if_neg (show ¬ (MgmtOp.deposit = .clear ∧ ¬ clearable q.table = true) from fun h => nomatch h.1)]
  rfl

/-- A DEPOSIT passes the first three steps of R161. -/
def State.takesDeposit (s : State) (q : Request) : Prop :=
  q.table ≤ 14 ∧ readOnlyDeposit q.table q.word = false ∧ s.depositAllowed q.table = true

theorem State.takesDeposit.operates (h : s.takesDeposit q) (hi : s.mgmt.inProgress = none) :
    s.manage .deposit q = (s.taking .deposit q).doDeposit q := by
  obtain ⟨ht, hf, ha⟩ := h
  rw [State.manage_operates hi]
  · rfl
  · rw [State.judgeRequest_deposit ht, hf, ha]
    rfl

theorem State.refuse_word {op : MgmtOp} (hs : status ≠ statusNoSuch) (hn : op.namesWord = true)
    (hw : s.readWord q.table q.indexN q.word = some w) :
    (s.taking op q).refuse op q status = (s.taking op q).answer op status q w :=
  State.refuse_eq (State.refusedValue_word (s := s.taking op q) hs hn hw)

/-- A DEPOSIT refused in the first three steps. -/
theorem Quiet.judged (k : Quiet s) (hj : s.judgeRequest .deposit q = some status) (hs : status ≠ statusNoSuch)
    (hw : s.readWord q.table q.indexN q.word = some w) : Deposited s q s status w := by
  refine k.deposited rfl ?_
  rw [State.manage_judged k.idle hj, State.refuse_word hs rfl hw]

/-- A DEPOSIT refused by its table's chapter. -/
theorem Quiet.refused (k : Quiet s) (hj : s.takesDeposit q) (h : (s.taking .deposit q).depositWord q = .error status)
    (hs : status ≠ statusNoSuch) (hw : s.readWord q.table q.indexN q.word = some w) : Deposited s q s status w := by
  refine k.deposited rfl ?_
  rw [hj.operates k.idle, State.doDeposit]
  simp only [h]
  exact State.refuse_word hs rfl hw

/-- A DEPOSIT of a word that there is not. -/
theorem Quiet.noSuch (k : Quiet s) (hj : s.takesDeposit q)
    (h : (s.taking .deposit q).depositWord q = .error statusNoSuch) : Deposited s q s 3 allOnes := by
  refine k.deposited rfl ?_
  rw [hj.operates k.idle, State.doDeposit]
  simp only [h]
  exact State.refuse_eq State.refusedValue_noSuch

/-- An accepted DEPOSIT. -/
theorem Quiet.accepted {b : Bool} (k : Quiet s) (hj : s.takesDeposit q)
    (h : (s.taking .deposit q).depositWord q = .ok (u.taking .deposit q, b)) (hu : Quiet u)
    (hc : u.cfg.mrepBase = s.cfg.mrepBase) (hw : u.readWord q.table q.indexN q.word = some w) :
    Deposited s q u (if b then 1 else 0) w := by
  refine hu.deposited hc ?_
  have hread : (u.taking .deposit q).readWord q.table q.indexN q.word = some w := hw
  rw [hj.operates k.idle, State.doDeposit]
  simp only [h, hread]
  rfl

/-! ## What the first three steps let pass -/

theorem readOnlyDeposit_iff {table word : Nat} :
    readOnlyDeposit table word = true ↔
      table = 11 ∨ table = 13 ∨ table = 14 ∨ table = 1 ∧ (word = 8 ∨ word = 9) ∨
        table = 2 ∧ (word = 13 ∨ word = 14 ∨ word = 15) ∨ table = 3 ∧ word = 6 ∨ table = 4 ∧ word = 8 ∨
        table = 12 ∧ word = 5 := by
  unfold readOnlyDeposit
  split <;> simp <;> grind

/-- The tables and words at which an accepted deposit is shown. -/
theorem not_readOnlyDeposit {table word : Nat}
    (h : table = 0 ∨ table = 5 ∨ table = 8 ∨ table = 9 ∨ table = 10 ∨ word = 0 ∧ (table = 1 ∨ table = 12)) :
    ¬ readOnlyDeposit table word = true := by
  rw [readOnlyDeposit_iff]; omega

theorem State.depositAllowed_eq_false
    (h : q.table = 9 ∧ s.cal.unlocked = false ∨ q.table ≠ 8 ∧ q.table ≠ 9 ∧ s.mgmt.service = false) :
    s.depositAllowed q.table = false := by
  unfold State.depositAllowed
  split <;> rename_i ht
  · omega
  · exact (h.resolve_right fun h => h.2.1 ht).2
  · exact (h.resolve_left fun h => absurd h.1 ‹_›).2.2

theorem State.depositAllowed_of_service (h : s.mgmt.service = true) (ht : q.table ≠ 9) : s.depositAllowed q.table = true := by
  unfold State.depositAllowed
  split
  · rfl
  · exact absurd ‹_› ht
  · exact h

theorem State.takesDeposit_of (ht : q.table ≤ 14) (hf : ¬ readOnlyDeposit q.table q.word = true)
    (ha : s.depositAllowed q.table = true) : s.takesDeposit q := ⟨ht, Bool.eq_false_iff.2 hf, ha⟩

/-! ## Entries of a table -/

section
variable {α : Type} {l : List α} {f : α → Except Nat (α × Bool)} {put : α → α → State} {e x : α} {b : Bool}

theorem writeEntry_error (h : l[i]? = some e) (hf : f e = .error status) : writeEntry l i f put = .error status := by
  unfold writeEntry; rw [h]; dsimp only; rw [hf]; rfl

theorem writeEntry_ok (h : l[i]? = some e) (hf : f e = .ok (x, b)) : writeEntry l i f put = .ok (put e x, b) := by
  unfold writeEntry; rw [h]; dsimp only; rw [hf]; rfl

theorem writeEntry_none (h : l[i]? = none) : writeEntry l i f put = .error statusNoSuch := by
  unfold writeEntry; rw [h]

/-- The entry written is the one read. -/
theorem getElem?_set_of_some (h : l[i]? = some e) (x : α) : (l.set i x)[i]? = some x :=
  List.getElem?_set_self (List.getElem?_eq_some_iff.1 h).1

end

/-! ## Configured words of a VALID or armed entry are LIVE -/

theorem RouteEntry.write_live {e : RouteEntry} (h : e.valid = true) (h1 : 1 ≤ q.word) (h7 : q.word ≤ 7) :
    e.write q = .error statusLive := by
  unfold RouteEntry.write
  interval_cases q.word <;> exact if_pos h

theorem SignalEntry.write_live {e : SignalEntry} (h : e.valid = true) (h1 : 1 ≤ q.word) (h12 : q.word ≤ 12) :
    e.write q = .error statusLive := by
  unfold SignalEntry.write
  interval_cases q.word <;> exact if_pos h

theorem TermEntry.write_live {e : TermEntry} (h : e.valid = true) (h1 : 1 ≤ q.word) (h5 : q.word ≤ 5) :
    e.write q = .error statusLive := by
  unfold TermEntry.write
  interval_cases q.word <;> exact if_pos h

theorem GroupEntry.write_live {e : GroupEntry} (h : e.valid = true) (h1 : 1 ≤ q.word) (h7 : q.word ≤ 7) :
    e.write q = .error statusLive := by
  unfold GroupEntry.write
  interval_cases q.word <;> exact if_pos h

theorem StepEntry.write_live {e : StepEntry} (h : e.valid = true) (h1 : 1 ≤ q.word) (h10 : q.word ≤ 10) :
    e.write q = .error statusLive := by
  unfold StepEntry.write
  interval_cases q.word <;> exact if_pos h

theorem ProgramEntry.write_live {e : ProgramEntry} (h : e.valid = true) (h1 : 1 ≤ q.word) (h3 : q.word ≤ 3) :
    e.write q = .error statusLive := by
  unfold ProgramEntry.write
  interval_cases q.word <;> exact if_pos h

theorem WatchEntry.write_live {e : WatchEntry} (h : e.armed = true) (h1 : 1 ≤ q.word) (h4 : q.word ≤ 4) :
    e.write q = .error statusLive := by
  unfold WatchEntry.write
  interval_cases q.word <;> exact if_pos h

theorem liveWhenCleared_live {b : Bool} : liveWhenCleared q b (.error statusLive) = .error statusLive := by
  unfold liveWhenCleared; split <;> rfl

theorem liveWhenCleared_inUse {b : Bool} (hw : q.word = 0) (hv : q.value = 0) (hb : b = true) (x : Except Nat (State × Bool)) :
    liveWhenCleared q b x = .error statusLive :=
  if_pos ⟨hw, by unfold Request.valueN; rw [hv]; rfl, hb⟩

theorem liveWhenCleared_ne {b : Bool} (hw : q.word ≠ 0) (x : Except Nat (State × Bool)) : liveWhenCleared q b x = x :=
  if_neg fun h => hw h.1

theorem State.stepInUse_of {a : ArmId} {g : ProgramEntry} (hc : (s.arm a).inCycle = true) (hg : s.programOf a = some g)
    (h1 : g.firstStep ≤ i) (h2 : i < g.firstStep + g.stepCount) : s.stepInUse i = true := by
  unfold State.stepInUse
  cases a <;> simp [hc, hg, h1, h2]

theorem State.programInUse_of {a : ArmId} (hc : (s.arm a).inCycle = true) (hp : (s.arm a).program = some i) :
    s.programInUse i = true := by
  unfold State.programInUse
  cases a <;> simp [hc, hp]

/-- The words that are LIVE (R14, R27, R32, R35, R40, R42, R153). -/
def State.liveWord (s : State) (q : Request) (i : Nat) : Prop :=
  q.table = 1 ∧ (∃ e, s.routes[i]? = some e ∧ e.valid = true) ∧ 1 ≤ q.word ∧ q.word ≤ 7 ∨
  q.table = 2 ∧ (∃ e, s.signals[i]? = some e ∧ e.valid = true) ∧ 1 ≤ q.word ∧ q.word ≤ 12 ∨
  q.table = 3 ∧ (∃ e, s.terms[i]? = some e ∧ e.valid = true) ∧ 1 ≤ q.word ∧ q.word ≤ 5 ∨
  q.table = 4 ∧ 1 ≤ i ∧ i ≤ 32 ∧ (∃ e, s.groups[i - 1]? = some e ∧ e.valid = true) ∧ 1 ≤ q.word ∧ q.word ≤ 7 ∨
  q.table = 5 ∧ (∃ e, s.steps[i]? = some e ∧ e.valid = true) ∧ 1 ≤ q.word ∧ q.word ≤ 10 ∨
  q.table = 6 ∧ (∃ e, s.programs[i]? = some e ∧ e.valid = true) ∧ 1 ≤ q.word ∧ q.word ≤ 3 ∨
  q.table = 12 ∧ (∃ e, s.watch.entries[i]? = some e ∧ e.armed = true) ∧ 1 ≤ q.word ∧ q.word ≤ 4 ∨
  q.table = 5 ∧ (∃ a g, (s.arm a).inCycle = true ∧ s.programOf a = some g ∧ g.firstStep ≤ i ∧
    i < g.firstStep + g.stepCount) ∧ q.word = 0 ∧ q.value = 0 ∨
  q.table = 6 ∧ (∃ a, (s.arm a).inCycle = true ∧ (s.arm a).program = some i) ∧ q.word = 0 ∧ q.value = 0

theorem State.depositWord_live (h : s.liveWord q q.indexN) : s.depositWord q = .error statusLive := by
  rcases h with ⟨ht, ⟨e, he, hv⟩, h1, h2⟩ | ⟨ht, ⟨e, he, hv⟩, h1, h2⟩ | ⟨ht, ⟨e, he, hv⟩, h1, h2⟩ |
    ⟨ht, hi, -, ⟨e, he, hv⟩, h1, h2⟩ | ⟨ht, ⟨e, he, hv⟩, h1, h2⟩ | ⟨ht, ⟨e, he, hv⟩, h1, h2⟩ | ⟨ht, ⟨e, he, hv⟩, h1, h2⟩ |
    ⟨ht, ⟨a, g, hc, hg, h1, h2⟩, hw, hv⟩ | ⟨ht, ⟨a, hc, hp⟩, hw, hv⟩ <;> unfold State.depositWord <;> rw [ht]
  · exact writeEntry_error he (RouteEntry.write_live hv h1 h2)
  · exact writeEntry_error he (SignalEntry.write_live hv h1 h2)
  · exact writeEntry_error he (TermEntry.write_live hv h1 h2)
  · dsimp only
    rw [groupPlace, if_neg (by omega)]
    exact writeEntry_error he (GroupEntry.write_live hv h1 h2)
  · exact (congrArg _ (writeEntry_error he (StepEntry.write_live hv h1 h2))).trans liveWhenCleared_live
  · exact (congrArg _ (writeEntry_error he (ProgramEntry.write_live hv h1 h2))).trans liveWhenCleared_live
  · exact writeEntry_error he (WatchEntry.write_live hv h1 h2)
  · exact liveWhenCleared_inUse hw hv (State.stepInUse_of hc hg h1 h2) _
  · exact liveWhenCleared_inUse hw hv (State.programInUse_of hc hp) _

theorem State.liveWord.takesDeposit (h : s.liveWord q i) (hs : s.mgmt.service = true) : s.takesDeposit q := by
  have ht : q.table ≤ 14 ∧ q.table ≠ 9 := by unfold State.liveWord at h; omega
  refine State.takesDeposit_of ht.1 (fun hf => ?_) (State.depositAllowed_of_service hs ht.2)
  have hf := readOnlyDeposit_iff.1 hf
  unfold State.liveWord at h
  omega

/-! ## Words accepted and refused by their range -/

theorem holdTo_eq {low high x : Int} (h : low ≤ high) : holdTo low high x = max low (min high x) := by
  unfold holdTo; split <;> [omega; split <;> omega]

theorem clampNat_eq {α : Type} {low high : Int} {x : Nat} (h : low ≤ high) (hx : (x : Int) = max low (min high q.value.toInt))
    (f : Nat → α) : clampNat low high q f = .ok (f x, decide (q.value.toInt ≠ x)) := by
  have hold : holdTo low high q.valueI = x := (holdTo_eq h).trans hx.symm
  unfold clampNat
  rw [hold]
  simp only [Int.toNat_natCast, Except.ok.injEq, Prod.mk.injEq, true_and, decide_eq_decide]
  exact ne_comm

theorem wordOf_valueN (q : Request) : wordOf q.valueN = q.value := by
  unfold wordOf Request.valueN; simp

theorem flagOfCode_eq (h : q.value.toNat ≤ 1) : flagOfCode q.valueN = some (decide (q.value = 1)) := by
  have : q.value = 0 ∨ q.value = 1 := by bv_omega
  unfold Request.valueN
  rcases this with h | h <;> rw [h] <;> rfl

theorem flagOfCode_eq_none (h : 2 ≤ q.value.toNat) : flagOfCode q.valueN = none := by
  unfold flagOfCode Request.valueN
  split <;> first | rfl | omega

theorem wordOfFlag_value (h : q.value.toNat ≤ 1) : wordOfFlag (decide (q.value = 1)) = q.value := by
  have : q.value = 0 ∨ q.value = 1 := by bv_omega
  rcases this with h | h <;> rw [h] <;> rfl

theorem Calibration.write_arm {a : ArmId} (hi : q.indexN = a.calPlace) (c : Calibration) :
    c.write q =
      ((c.arms.at a.second).write q c.division).map (fun r => ({ c with arms := c.arms.put a.second r.1 }, r.2)) := by
  unfold Calibration.write
  cases a <;> rw [hi] <;> rfl

theorem Calibration.words_arm (a : ArmId) (c : Calibration) : c.words a.calPlace = (c.arms.at a.second).words := by
  cases a <;> rfl

/-! ## The words at which acceptance is shown -/

theorem State.depositWord_reserve {x : Nat} (ht : q.table = 0) (hi : q.indexN = 13) (hw : q.word = 0)
    (hx : (x : Int) = max 0 (min 64 q.value.toInt)) :
    s.depositWord q = .ok ({ s with cfg := { s.cfg with reserve := x } }, decide (q.value.toInt ≠ x)) := by
  unfold State.depositWord ConfigTable.write
  rw [ht, hi]
  dsimp only
  rw [if_pos hw, clampNat_eq (by decide) hx]
  rfl

theorem State.depositWord_level {e : StepEntry} {x : Nat} (ht : q.table = 5) (hw : q.word = 2)
    (he : s.steps[q.indexN]? = some e) (hv : e.valid = false) (hx : (x : Int) = max 0 (min 1000 q.value.toInt)) :
    s.depositWord q =
      .ok ({ s with steps := s.steps.set q.indexN { e with level := x } }, decide (q.value.toInt ≠ x)) := by
  unfold State.depositWord
  rw [ht]
  dsimp only
  rw [liveWhenCleared_ne (by omega)]
  refine writeEntry_ok he ?_
  unfold StepEntry.write
  rw [hw]
  show unlessLive e.valid (clampNat 0 1000 q fun x => { e with level := x }) = _
  rw [hv, clampNat_eq (by decide) hx]
  rfl

theorem State.depositWord_arm {a : ArmId} (ht : q.table = 9) (hi : q.indexN = a.calPlace) :
    s.depositWord q = ((s.armCal a).write q s.cal.division).map
      (fun r => ({ s with cal := { s.cal with arms := s.cal.arms.put a.second r.1 } }, r.2)) := by
  unfold State.depositWord
  rw [ht]
  show Except.map _ (s.cal.write q) = _
  rw [Calibration.write_arm hi]
  show Except.map _ (Except.map _ ((s.armCal a).write q s.cal.division)) = _
  cases (s.armCal a).write q s.cal.division <;> rfl

theorem State.readWord_arm {a : ArmId} (ht : q.table = 9) (hi : q.indexN = a.calPlace) :
    s.readWord q.table q.indexN q.word = (s.armCal a).words[q.word]? := by
  unfold State.readWord
  rw [ht, hi]
  show (s.cal.words a.calPlace)[q.word]? = _
  rw [Calibration.words_arm]
  rfl

theorem State.armCal_put (a : ArmId) (c : ArmCalibration) :
    ({ s with cal := { s.cal with arms := s.cal.arms.put a.second c } } : State).armCal a = c := by cases a <;> rfl

theorem inRange_pos {α : Type} {b : Bool} (h : b = true) (x : α) : inRange b x = .ok (x, false) := if_pos h

theorem inRange_neg {α : Type} {b : Bool} (h : b = false) (x : α) : inRange b x = .error statusRange :=
  if_neg (by rw [h]; exact Bool.false_ne_true)

theorem State.depositWord_household (ht : q.table = 8) (hi : q.indexN = 0xFFFF) (hw : q.word = 1) :
    s.depositWord q =
      (inRange (decide (1 ≤ q.valueN ∧ q.valueN ≤ 16777215)) { s.bins.staging with household := q.valueN }).map
        (fun r => (s.setBins { s.bins with staging := r.1 }, r.2)) := by
  unfold State.depositWord State.writeStaging BinData.write
  rw [ht, hw]
  exact if_pos hi

theorem State.depositWord_household_ok (ht : q.table = 8) (hi : q.indexN = 0xFFFF) (hw : q.word = 1)
    (h : 1 ≤ q.value.toNat ∧ q.value.toNat ≤ 16777215) :
    s.depositWord q =
      .ok ({ s with bins := { s.bins with staging := { s.bins.staging with household := q.value.toNat } } }, false) := by
  rw [State.depositWord_household ht hi hw, inRange_pos (decide_eq_true (show 1 ≤ q.valueN ∧ q.valueN ≤ 16777215 from h))]
  rfl

theorem State.depositWord_household_range (ht : q.table = 8) (hi : q.indexN = 0xFFFF) (hw : q.word = 1)
    (h : ¬ (1 ≤ q.value.toNat ∧ q.value.toNat ≤ 16777215)) : s.depositWord q = .error statusRange := by
  rw [State.depositWord_household ht hi hw, inRange_neg (decide_eq_false (show ¬ (1 ≤ q.valueN ∧ q.valueN ≤ 16777215) from h))]
  rfl

theorem State.readWord_household (ht : q.table = 8) (hi : q.indexN = 0xFFFF) (hw : q.word = 1) :
    s.readWord q.table q.indexN q.word = some (wordOf s.bins.staging.household) := by
  unfold State.readWord
  rw [ht, hi, hw]
  rfl

theorem ArmCalibration.write_gain {d : Nat} {c : ArmCalibration} (hw : q.word = 1) :
    c.write q d = inRange (decide (1 ≤ q.valueN ∧ q.valueN ≤ 131071)) { c with gain := q.valueN } := by
  unfold ArmCalibration.write; rw [hw]; rfl

theorem ArmCalibration.write_capacity {d : Nat} {c : ArmCalibration} (hw : q.word = 2) :
    c.write q d = inRange (decide (1 ≤ q.valueN ∧ q.valueN ≤ 10 * d)) { c with capacityKg := q.valueN } := by
  unfold ArmCalibration.write; rw [hw]; rfl

/-- The entry with the word that `q` names set to its value. -/
def TariffEntry.withWord (q : Request) (t : TariffEntry) : TariffEntry :=
  if q.word = 0 then { t with rate := q.value.toNat }
  else if q.word = 1 then { t with liftFee := q.value.toNat }
  else { t with unweighedFee := q.value.toNat }

theorem TariffEntry.write_eq (hw : q.word ≤ 2) (t : TariffEntry) :
    t.write q = inRange (decide (q.valueN ≤ 65535)) (t.withWord q) := by
  unfold TariffEntry.write TariffEntry.withWord Request.valueN
  interval_cases q.word <;> rfl

theorem TariffEntry.write_noSuch (hw : 3 ≤ q.word) (t : TariffEntry) : t.write q = .error statusNoSuch := by
  unfold TariffEntry.write
  split <;> first | rfl | omega

theorem TariffEntry.words_getElem (hw : q.word ≤ 2) (t : TariffEntry) :
    t.words[q.word]? =
      some (wordOf (if q.word = 0 then t.rate else if q.word = 1 then t.liftFee else t.unweighedFee)) := by
  unfold TariffEntry.words
  interval_cases q.word <;> rfl

theorem TariffEntry.withWord_words (hw : q.word ≤ 2) (t : TariffEntry) : (t.withWord q).words[q.word]? = some q.value := by
  rw [← wordOf_valueN q]
  unfold TariffEntry.words TariffEntry.withWord Request.valueN
  interval_cases q.word <;> rfl

end

/-- Settles O52: the first three steps of R161 by `State.judgeRequest_deposit`, the fourth by `State.depositWord_live` and the words
shown. -/
theorem depositsAreJudged : Obligations.DepositsAreJudged := by
  unfold Obligations.DepositsAreJudged
  intro s q i answered fixed live hagenda hnoted hun hidle hi hans hfixed hlive
  subst hi
  have k : Quiet s := ⟨hagenda, hnoted, hun, hidle⟩
  have ans {u : State} {code : Nat} {w : Word} (h : Deposited s q u code w) : answered u code w := (hans u code w).2 h
  have hfixed' : fixed ↔ readOnlyDeposit q.table q.word = true := hfixed.trans readOnlyDeposit_iff.symm
  have hlive' : live ↔ s.liveWord q q.indexN := hlive
  have takes (ht : q.table ≤ 14) (hf : ¬ readOnlyDeposit q.table q.word = true) (h9 : q.table ≠ 9) (hs : s.mgmt.service = true) :
      s.takesDeposit q := State.takesDeposit_of ht hf (State.depositAllowed_of_service hs h9)
  have code {x : Nat} : (if decide (q.value.toInt ≠ x) = true then 1 else 0) = if q.value.toInt = x then 0 else 1 := by
    by_cases h : q.value.toInt = x <;> simp [h]
  have zero {n : Nat} (h : q.value = 0 ∨ n < q.value.toNat) : q.value.toNat = 0 ∨ n < q.value.toNat :=
    h.imp_left fun h => by rw [h]; rfl
  refine ⟨fun ht => ?_, fun w hw => ⟨fun hf => ?_, fun hf ht ha => ?_, fun hl hs => ?_, fun ht hu h4 => ?_⟩, fun ht hi hw hs x hx => ?_,
    fun ht hw hs e x he hv hx => ?_, fun ht hu a hi put hput => ?_, fun ht hi hw => ?_, fun ht hw hs e he => ?_,
    fun ht hw hs e he => ?_, fun ht hs => ?_⟩
  · refine ans (k.deposited rfl ?_)
    rw [State.manage_judged (status := statusNoSuch) hidle (if_pos ⟨.inr (.inl rfl), by omega⟩)]
    exact State.refuse_eq State.refusedValue_noSuch
  · have ht : q.table ≤ 14 := by rw [hfixed] at hf; omega
    refine ans (k.judged ?_ (by decide) hw)
    rw [State.judgeRequest_deposit ht, if_pos (hfixed'.1 hf)]
    rfl
  · refine ans (k.judged ?_ (by decide) hw)
    rw [State.judgeRequest_deposit ht, if_neg fun h => hf (hfixed'.2 h), State.depositAllowed_eq_false ha]
    rfl
  · have hl' := hlive'.1 hl
    exact ans (k.refused (hl'.takesDeposit hs) (State.depositWord_live (s := s.taking .deposit q) hl') (by decide) hw)
  · have hj : s.takesDeposit q := State.takesDeposit_of (by omega) (not_readOnlyDeposit (by omega)) (by rw [ht]; exact hu)
    refine ans (k.refused hj ?_ (by decide) hw)
    unfold State.depositWord Calibration.write Request.indexN
    rw [ht, h4]
    rfl
  · rw [← code]
    refine ans (k.accepted (takes (by omega) (not_readOnlyDeposit (by omega)) (by omega) hs)
      (State.depositWord_reserve (s := s.taking .deposit q) ht hi hw hx) ⟨hagenda, hnoted, hun, hidle⟩ rfl ?_)
    unfold State.readWord Request.indexN
    rw [ht, hi, hw]
    rfl
  · rw [← code]
    refine ans (k.accepted (takes (by omega) (not_readOnlyDeposit (by omega)) (by omega) hs)
      (State.depositWord_level (s := s.taking .deposit q) ht hw he hv hx) ⟨hagenda, hnoted, hun, hidle⟩ rfl ?_)
    unfold State.readWord
    rw [ht, hw]
    exact congrArg (Option.bind · _) (getElem?_set_of_some he _)
  · have hi' : q.indexN = a.calPlace := hi.trans (by cases a <;> rfl)
    have hj : s.takesDeposit q := State.takesDeposit_of (by omega) (not_readOnlyDeposit (by omega)) (by rw [ht]; exact hu)
    have hread (t : State) : t.readWord q.table q.indexN q.word = (t.armCal a).words[q.word]? := State.readWord_arm ht hi'
    have refuses {w : Word} (h : (s.armCal a).write q s.cal.division = .error statusRange)
        (hw : (s.armCal a).words[q.word]? = some w) : answered s 6 w := by
      refine ans (k.refused hj ?_ (by decide) ((hread s).trans hw))
      rw [State.depositWord_arm ht hi']
      exact congrArg (Except.map _) h
    have accepts {c : ArmCalibration} (h : (s.armCal a).write q s.cal.division = .ok (c, false))
        (hw : c.words[q.word]? = some q.value) : answered (put c) 0 q.value := by
      rw [hput]
      refine ans (k.accepted (b := false) hj ?_ ⟨hagenda, hnoted, hun, hidle⟩ rfl ?_)
      · rw [State.depositWord_arm ht hi']
        exact congrArg (Except.map _) h
      · rw [hread, State.armCal_put]
        exact hw
    refine ⟨fun hw => ⟨fun hin => ?_, fun hout => ?_⟩, fun hw => ⟨fun hin => ?_, fun hout => ?_⟩⟩
    · refine accepts ((ArmCalibration.write_gain hw).trans (inRange_pos (decide_eq_true hin) _)) ?_
      rw [hw]
      exact congrArg some (wordOf_valueN q)
    · refine refuses ((ArmCalibration.write_gain hw).trans (inRange_neg (decide_eq_false ?_) _)) (by rw [hw]; rfl)
      have := zero hout
      unfold Request.valueN
      omega
    · refine accepts ((ArmCalibration.write_capacity hw).trans (inRange_pos (decide_eq_true hin) _)) ?_
      rw [hw]
      exact congrArg some (wordOf_valueN q)
    · refine refuses ((ArmCalibration.write_capacity hw).trans (inRange_neg (decide_eq_false ?_) _)) (by rw [hw]; rfl)
      have := zero hout
      unfold Request.valueN
      omega
  · have hj : s.takesDeposit q := State.takesDeposit_of (by omega) (not_readOnlyDeposit (by omega)) (by rw [ht]; rfl)
    refine ⟨fun hin => ?_, fun hout => ?_⟩
    · refine ans (k.accepted (b := false) hj (State.depositWord_household_ok (s := s.taking .deposit q) ht hi hw hin)
        ⟨hagenda, hnoted, hun, hidle⟩ rfl ?_)
      rw [State.readWord_household ht hi hw]
      exact congrArg some (wordOf_valueN q)
    · have := zero hout
      exact ans (k.refused hj (State.depositWord_household_range (s := s.taking .deposit q) ht hi hw (by omega)) (by decide)
        (State.readWord_household ht hi hw))
  · have hj : s.takesDeposit q := takes (by omega) (not_readOnlyDeposit (by omega)) (by omega) hs
    have hread {t : State} {x : RouteEntry} (h : t.routes[q.indexN]? = some x) :
        t.readWord q.table q.indexN q.word = some (wordOfFlag x.valid) := by
      unfold State.readWord
      rw [ht, hw]
      exact congrArg (Option.bind · _) h
    refine ⟨fun hv => ?_, fun hv => ans (k.refused hj ?_ (by decide) (hread he))⟩
    · refine ans (k.accepted (b := false) (u := { s with routes := s.routes.set _ { e with valid := decide (q.value = 1) } }) hj ?_
        ⟨hagenda, hnoted, hun, hidle⟩ rfl ?_)
      · unfold State.depositWord
        rw [ht]
        exact writeEntry_ok he (by unfold RouteEntry.write; rw [hw, flagOfCode_eq hv]; rfl)
      · rw [hread (getElem?_set_of_some he _), wordOfFlag_value hv]
    · unfold State.depositWord
      rw [ht]
      exact writeEntry_error he (by unfold RouteEntry.write; rw [hw, flagOfCode_eq_none hv]; rfl)
  · have hj : s.takesDeposit q := takes (by omega) (not_readOnlyDeposit (by omega)) (by omega) hs
    have hread {t : State} {x : WatchEntry} (h : t.watch.entries[q.indexN]? = some x) :
        t.readWord q.table q.indexN q.word = some (wordOfFlag x.armed) := by
      unfold State.readWord
      rw [ht, hw]
      exact congrArg (Option.bind · _) h
    refine ⟨fun hv hsrc => ?_, fun hv => ans (k.refused hj ?_ (by decide) (hread he))⟩
    · refine ans (k.accepted (b := false) (u := s.setWatch { s.watch with
          entries := s.watch.entries.set _ { e with armed := decide (q.value = 1) } }) hj ?_
        ⟨hagenda, hnoted, fun x hx harmed => ?_, hidle⟩ rfl ?_)
      · unfold State.depositWord
        rw [ht]
        exact writeEntry_ok he (by unfold WatchEntry.write; rw [hw, flagOfCode_eq hv]; rfl)
      · rcases List.mem_or_eq_of_mem_set hx with h | rfl
        · exact hun x h harmed
        · exact hsrc
      · rw [hread (getElem?_set_of_some he _), wordOfFlag_value hv]
    · unfold State.depositWord
      rw [ht]
      exact writeEntry_error he (by unfold WatchEntry.write; rw [hw, flagOfCode_eq_none hv]; rfl)
  · have hj : s.takesDeposit q := takes (by omega) (not_readOnlyDeposit (by omega)) (by omega) hs
    have hread {t : State} {f : TariffEntry} (h : t.tariffs[q.indexN]? = some f) :
        t.readWord q.table q.indexN q.word = f.words[q.word]? := by
      unfold State.readWord
      rw [ht]
      exact congrArg (Option.bind · _) h
    have hdep (t : State) : t.depositWord q = writeEntry t.tariffs q.indexN (TariffEntry.write q)
        (fun _ e => { t with tariffs := t.tariffs.set q.indexN e }) := by
      unfold State.depositWord; rw [ht]; rfl
    refine ⟨fun f hf hw => ⟨fun hv => ?_, fun hv => ?_⟩, fun h => ?_⟩
    · refine ans (k.refused hj ((hdep _).trans (writeEntry_error hf ?_)) (by decide)
        ((hread hf).trans (TariffEntry.words_getElem hw f)))
      exact (TariffEntry.write_eq hw f).trans (inRange_neg (decide_eq_false (Nat.not_le.2 hv)) _)
    · refine ans (k.accepted (b := false) hj ((hdep _).trans (writeEntry_ok hf ?_)) ⟨hagenda, hnoted, hun, hidle⟩ rfl
        ((hread (getElem?_set_of_some hf _)).trans (TariffEntry.withWord_words hw f)))
      exact (TariffEntry.write_eq hw f).trans (inRange_pos (decide_eq_true hv) _)
    · refine ans (k.noSuch hj ((hdep _).trans ?_))
      show writeEntry s.tariffs _ _ _ = _
      cases hl : s.tariffs[q.indexN]? with
      | none => exact writeEntry_none hl
      | some f =>
        have hlt := (List.getElem?_eq_some_iff.1 hl).1
        exact writeEntry_error hl (TariffEntry.write_noSuch (h.resolve_left (Nat.not_le.2 hlt)) f)

end Sys2Proof.Machine
end

section
/-! SUPPORT. An arm that leaves its moving state, its cycle's end (R55, R61), and flow claimed and given back beside other changes of
the state. -/

namespace Sys2Proof.Machine

section
variable {s t : State} {a : ArmId} {c : Consumer} {n : Nat} {r : LogRecord} {o : CycleOutcome} {st : ArmState}

/-! ## Groups and flow beside the parts they do not read -/

/-- The arms, Weighing Units, Bin Identification Unit and Log are replaced. -/
def State.withParts (s : State) (x : Duo Arm) (w : Duo WeighUnit) (b : BinUnit) (l : LiftLog) : State :=
  { s with arms := x, weigh := w, bins := b, log := l }

variable {x : Duo Arm} {w : Duo WeighUnit} {b : BinUnit} {l : LiftLog}

theorem State.stopped_withParts : (s.withParts x w b l).stopped c = (s.stopped c).withParts x w b l := by
  unfold State.stopped
  dsimp only
  simp only [apply_ite (State.withParts · x w b l)]
  rfl

theorem State.flowChanged_withParts (y : Arbiter) : (s.withParts x w b l).flowChanged y = (s.flowChanged y).withParts x w b l := by
  unfold State.flowChanged
  split <;> simp only [apply_ite (State.withParts · x w b l)] <;> rfl

theorem State.granted_withParts (d : Nat) : (s.withParts x w b l).granted c d = (s.granted c d).withParts x w b l :=
  State.flowChanged_withParts _

theorem State.driven_withParts (f : FnSet) (k : List Nat) (d : Nat) :
    (s.withParts x w b l).driven c f k d = (s.driven c f k d).withParts x w b l := by
  unfold State.driven
  simp only [apply_ite (State.withParts · x w b l)]
  rfl

/-- What stopping a group leaves as it was. -/
theorem State.stopped_eq (s : State) (c : Consumer) : ∃ v p, s.stopped c = { s with valves := v, ports := p } := by
  unfold State.stopped
  dsimp only
  split
  · exact ⟨_, _, rfl⟩
  · exact ⟨s.valves, s.ports, rfl⟩

/-- What driving a group leaves as it was. -/
theorem State.driven_eq (s : State) (c : Consumer) (f : FnSet) (k : List Nat) (d : Nat) :
    ∃ v p, s.driven c f k d = { s with valves := v, ports := p } := by
  unfold State.driven
  dsimp only
  split
  · exact ⟨_, s.ports, rfl⟩
  · exact ⟨_, _, rfl⟩

/-- What a change of the flow leaves as it was. -/
theorem State.granted_eq (s : State) (c : Consumer) (d : Nat) :
    ∃ y p, s.granted c d = { s with arbiter := y, ports := p } ∧ y.waiting = [] := by
  unfold State.granted State.flowChanged
  split <;> split <;> exact ⟨_, _, rfl, rfl⟩

/-! ## An arm's change of state (R44, R79) -/

/-- An arm without an OPEN window that leaves its moving states. -/
theorem State.setArmState_of_resting (h : s.calm) (hd : st.drives = false) (ho : (s.weighUnit a).isOpen = false) :
    s.setArmState a st = (s.setArm a { s.arm a with state := st }).stopped a.consumer := by
  unfold State.setArmState
  dsimp only
  rw [hd, if_neg Bool.false_ne_true, State.stopGroup_eq (by exact h)]
  split
  · unfold State.stallWindow
    dsimp only
    rw [if_neg]
    obtain ⟨v, p, e⟩ := (s.setArm a { s.arm a with state := st }).stopped_eq a.consumer
    rw [e]
    exact fun hopen => absurd (ho.symm.trans hopen) Bool.false_ne_true
  · rfl

/-! ## Closing a record (R142) -/

theorem State.closedRecord_eq (s : State) (o : CycleOutcome) (r : LogRecord) : s.closedRecord o r = s.closedAs o r := by
  unfold State.closedRecord State.closedAs State.stampRecord State.place
  cases s.roleValue .latitude <;> cases s.roleValue .longitude <;> simp <;> rfl

theorem LiftLog.openRecord_spec {l : LiftLog} (h : l.openRecord n = some r) : r.seq = n ∧ r.closed = false := by
  simpa using List.find?_some h

theorem LiftLog.openRecord_eq_none {l : LiftLog} : l.openRecord n = none ↔ ∀ e ∈ l.records, ¬ (e.seq = n ∧ e.closed = false) := by
  unfold LiftLog.openRecord
  simp

/-- An entry that names no OPEN record is not made. -/
theorem LiftLog.enter_of_none {l : LiftLog} (h : l.openRecord n = none) (f : LogRecord → LogRecord) : l.enter n f = l := by
  have hid : l.records.map (fun e => if e.seq = n ∧ e.closed = false then f e else e) = l.records :=
    (List.map_congr_left fun e he => if_neg (LiftLog.openRecord_eq_none.1 h e he)).trans (List.map_id _)
  unfold LiftLog.enter
  rw [hid]

/-- A record that is not tipped is closed and handed to nobody. -/
theorem State.closeRecord_eq (h : s.log.openRecord n = some r ∧ r.flags.tipped = false ∨ s.log.openRecord n = none) :
    s.closeRecord a n o = s.setLog (s.log.enter n fun _ => s.closedAs o r) := by
  unfold State.closeRecord
  rcases h with ⟨hr, ht⟩ | hr
  · have hc : (s.closedAs o r).flags.tipped = false := ht
    simp only [hr, State.closedRecord_eq, hc, Bool.false_eq_true, false_and, if_false]
    rfl
  · simp only [hr, LiftLog.enter_of_none hr]
    rfl

/-! ## The end of a cycle (R55, R98, R114) -/

theorem State.weighToIdle_eq (hq : (s.weighUnit a).quiet = false) :
    s.weighToIdle a = s.setWeighUnit a (s.weighUnit a).ended := if_pos hq.symm

theorem CycleOutcome.armState_drives (o : CycleOutcome) : o.armState.drives = false := by cases o <;> rfl

theorem State.setArm_withParts (y : Arm) : (s.withParts x w b l).setArm a y = s.withParts (x.put a.second y) w b l := rfl

theorem State.setWeighUnit_withParts (u : WeighUnit) :
    (s.withParts x w b l).setWeighUnit a u = s.withParts x (w.put a.second u) b l := rfl

theorem State.weighUnit_withParts : (s.withParts x w b l).weighUnit a = w.at a.second := rfl

theorem State.setLog_withParts (k : LiftLog) : (s.withParts x w b l).setLog k = s.withParts x w b k := rfl

theorem State.arm_withParts : (s.withParts x w b l).arm a = x.at a.second := rfl

/-- The decision request of an arm withdrawn (R98). -/
def BinUnit.withdrawn (b : BinUnit) (a : ArmId) : BinUnit :=
  { b with requests := b.requests.put a.second .empty, waiting := b.waiting.filter (fun w => w ≠ WaitingLookup.decision a) }

/-- The arm's part of its cycle's end (R55). -/
theorem State.armEnds_eq (h : s.calm) (ho : (s.weighUnit a).isOpen = false) (k : ArmFault) (hd : st.drives = false) (t : State)
    (ht : t = (s.setArm a { s.arm a with fault := k }).withdrawRequest a) :
    (t.setArm a (t.arm a).afterCycle).setArmState a st =
      (s.stopped a.consumer).withParts (s.arms.put a.second ((s.arm a).ended st k)) s.weigh (s.bins.withdrawn a) s.log := by
  have ht' : t = s.withParts (s.arms.put a.second { s.arm a with fault := k }) s.weigh (s.bins.withdrawn a) s.log := ht
  rw [ht', State.setArm_withParts, State.setArmState_of_resting (by exact h) hd (by exact ho), State.setArm_withParts,
    State.arm_withParts, State.arm_withParts, State.stopped_withParts]
  simp only [Duo.at_put_same, Duo.put_put]
  rfl

/-- The cycle's parts when it is over. -/
theorem State.cycleOver_eq (k : ArmFault) :
    s.cycleOver a n r o st k =
      ((s.stopped a.consumer).granted a.consumer 0).withParts (s.arms.put a.second ((s.arm a).ended st k))
        (s.weigh.put a.second (s.weighUnit a).ended)
        (s.bins.withdrawn a) (s.log.enter n fun _ => s.closedAs o r) := by
  rw [← State.granted_withParts, ← State.stopped_withParts]
  rfl

/-- The end of an arm's cycle, its window not OPEN, its record not tipped, with nobody else waiting for flow. -/
theorem State.cycleEnd_eq (h : s.calm) (ho : (s.weighUnit a).isOpen = false) (hq : (s.weighUnit a).quiet = false)
    (hw : s.noneWaitsBut a.consumer) (hn : (s.arm a).openRecord = some n)
    (hl : s.log.openRecord n = some r ∧ r.flags.tipped = false ∨ s.log.openRecord n = none) (k : ArmFault) :
    (s.setArm a { s.arm a with fault := k }).cycleEnd a o = s.cycleOver a n r o o.armState k := by
  obtain ⟨v, p, hv⟩ := s.stopped_eq a.consumer
  obtain ⟨y, p', hy, -⟩ := (s.stopped a.consumer).granted_eq a.consumer 0
  have hseq : ((s.setArm a { s.arm a with fault := k }).arm a).openRecord = some n := by rw [State.setArm_arm]; exact hn
  have hstopped : (s.stopped a.consumer).noneWaitsBut a.consumer := by rw [hv]; exact hw
  have hclosed (z : Duo WeighUnit) :
      (((s.stopped a.consumer).granted a.consumer 0).withParts (s.arms.put a.second ((s.arm a).ended o.armState k)) z
        (s.bins.withdrawn a) s.log).closedAs o r = s.closedAs o r := by
    rw [hy, hv]; rfl
  unfold State.cycleEnd
  dsimp only
  rw [hseq, State.armEnds_eq h ho k o.armState_drives _ rfl, State.weighToIdle_eq (by exact hq), State.setWeighUnit_withParts,
    State.weighUnit_withParts, State.claimNone_eq (by exact (State.calm_stopped a.consumer).2 h) (by exact hstopped),
    State.granted_withParts, State.cycleOver_eq]
  show State.closeRecord _ a n o = _
  rw [State.closeRecord_eq (by exact hl), hclosed]
  rfl

/-! ## Leaving a state with the claim given back (R56, R67) -/

/-- A change of state without an OPEN window, the claim given back with nobody else waiting. -/
theorem State.setArmState_claimNone (h : s.calm) (hd : st.drives = false) (ho : (s.weighUnit a).isOpen = false)
    (hw : s.noneWaitsBut a.consumer) :
    (s.setArmState a st).claimNone a.consumer =
      ((s.setArm a { s.arm a with state := st }).stopped a.consumer).granted a.consumer 0 := by
  have hw' : ((s.setArm a { s.arm a with state := st }).stopped a.consumer).noneWaitsBut a.consumer := by
    obtain ⟨v, p, hv⟩ := (s.setArm a { s.arm a with state := st }).stopped_eq a.consumer
    rw [hv]; exact hw
  rw [State.setArmState_of_resting h hd ho, State.claimNone_eq (by exact (State.calm_stopped a.consumer).2 h) hw']

theorem State.leaveManual_eq (h : s.calm) (hd : st.drives = false) (ho : (s.weighUnit a).isOpen = false)
    (hw : s.noneWaitsBut a.consumer) :
    s.leaveManual a st =
      ((s.setArm a { s.arm a with state := st, manualGranted := false, prior := none, grantedHeld := false }).stopped
        a.consumer).granted a.consumer 0 := by
  unfold State.leaveManual
  rw [State.setArmState_claimNone (by exact h) hd (by exact ho) (by exact hw), State.setArm_arm, State.setArm_setArm]

theorem State.armStop_eq (h : s.calm) (hd : st.drives = false) (ho : (s.weighUnit a).isOpen = false)
    (hw : s.noneWaitsBut a.consumer) :
    s.armStop a st = ((s.setArm a ((s.arm a).stoppedIn st)).stopped a.consumer).granted a.consumer 0 := by
  unfold State.armStop
  rw [State.setArmState_claimNone (by exact h) hd (by exact ho) (by exact hw), State.setArm_arm, State.setArm_setArm]
  rfl

/-! ## A step claimed anew (R49, R50) -/

theorem State.setArmState_running (hs : (s.arm a).state = .suspended) :
    s.setArmState a .running = (s.setArm a { s.arm a with state := .running }).driveGroup a.consumer := by
  unfold State.setArmState
  dsimp only
  rw [hs, if_neg (fun h => nomatch h.1)]
  exact if_pos rfl

theorem State.driven_setArm (y : Arm) (f : FnSet) (k : List Nat) (d : Nat) :
    (s.setArm a y).driven c f k d = (s.driven c f k d).setArm a y := by
  obtain ⟨v, p, e⟩ := s.driven_eq c f k d
  refine (State.driven_withParts (x := s.arms.put a.second y) (w := s.weigh) (b := s.bins) (l := s.log) f k d).trans ?_
  rw [e]
  rfl

theorem State.granted_setArm (y : Arm) (d : Nat) : (s.setArm a y).granted c d = (s.granted c d).setArm a y := by
  obtain ⟨z, p, e, -⟩ := s.granted_eq c d
  refine (State.granted_withParts (x := s.arms.put a.second y) (w := s.weigh) (b := s.bins) (l := s.log) d).trans ?_
  rw [e]
  rfl

/-- A POSITION step whose term is not TRUE, resumed from SUSPENDED with its flow granted at once. -/
theorem State.claimStep_eq {d : StepEntry} (h : s.calm) (hs : (s.arm a).state = .suspended) (hd : s.currentStep a = some d)
    (hk : d.endKind = .position) (ht : s.termTrue d.endParam = false) (hf : s.fits a.consumer d.demand) :
    s.claimStep a =
      ((s.setArm a { s.arm a with
        state := .running, stepTimer := { (s.arm a).stepTimer with running := true }, keptEnd := false }).granted
          a.consumer d.demand).driven a.consumer d.functions (List.replicate 6 d.level) d.ramp := by
  obtain ⟨y, p, hg, -⟩ := s.granted_eq a.consumer d.demand
  have hcalm : (s.granted a.consumer d.demand).calm := (State.calm_granted _ _).2 h
  have harm : (s.granted a.consumer d.demand).arm a = s.arm a := by rw [hg]; rfl
  have hcur : (s.granted a.consumer d.demand).currentStep a = some d := by rw [hg]; exact hd
  have hclaim : d.claimed = d.demand := by unfold StepEntry.claimed; rw [hk]; rfl
  have hset : d.driven = d.functions := by unfold StepEntry.driven; rw [hk]; rfl
  have hlevel : d.target = d.level := by unfold StepEntry.target; rw [hk]; rfl
  have hterms : ((s.granted a.consumer d.demand).driven a.consumer d.functions (List.replicate 6 d.level) d.ramp).terms =
      s.terms := by
    obtain ⟨v, p', hv⟩ := (s.granted a.consumer d.demand).driven_eq a.consumer d.functions (List.replicate 6 d.level) d.ramp
    rw [hv, hg]
  have hends {z : State} (hz : z.terms = s.terms) (k : Arm) : (z.setArm a k).endsAtEntry a d = false := by
    unfold State.endsAtEntry
    rw [hk]
    show State.termTrue _ _ = false
    unfold State.termTrue
    rw [show (z.setArm a k).terms = s.terms from hz]
    exact ht
  have htell (z : State) : z.tellBlock a d.endKind = z := by simp only [State.tellBlock, hk]
  unfold State.claimStep
  simp only [hd, hclaim, State.claim_eq h hf]
  unfold State.enterRunning
  simp only [hcur, hset, hlevel]
  rw [State.setArmState_running (by rw [harm]; exact hs), State.driveGroup_setTargets_eq (by exact hcalm), harm,
    State.driven_setArm, State.setArm_arm, State.setArm_setArm, State.granted_setArm, State.driven_setArm, htell,
    hends hterms, if_neg Bool.false_ne_true, State.setArm_arm, State.setArm_setArm, if_neg (by rw [hk]; nofun)]
  rfl

end

end Sys2Proof.Machine
end

section
/-! The statement on what an arm loses (R60, R61, R67). -/

namespace Sys2Proof.Machine

section
variable {s v : State} {a : ArmId} {n : Nat} {r : LogRecord}

/-! ## An arm's own acts -/

theorem State.armFault_eq (h : s.calm) (hc : (s.arm a).inCycle = true) (ho : (s.weighUnit a).isOpen = false)
    (hq : (s.weighUnit a).quiet = false) (hw : s.noneWaitsBut a.consumer) (hn : (s.arm a).openRecord = some n)
    (hl : s.log.openRecord n = some r ∧ r.flags.tipped = false ∨ s.log.openRecord n = none) (k : ArmFault) :
    s.armFault a k = s.cycleOver a n r .faulted .faulted k := by
  unfold State.armFault
  rw [if_pos hc]
  exact State.cycleEnd_eq h ho hq hw hn hl k

/-- An arm that port B's loss has taken from MANUAL to FAULTED. -/
def Arm.manualFaulted (x : Arm) : Arm :=
  { x with state := .faulted, fault := .bodyPortOff, manualGranted := false, prior := none, grantedHeld := false }

/-- An arm leaves MANUAL, or HELD from it, for FAULTED. -/
def State.manualFaulted (s : State) (a : ArmId) : State :=
  ((s.setArm a (s.arm a).manualFaulted).stopped a.consumer).granted a.consumer 0

theorem State.bodyPortOff_of_cycle (hc : (s.arm a).inCycle = true) : s.bodyPortOff a = s.armFault a .bodyPortOff := by
  unfold State.bodyPortOff; dsimp only; rw [if_pos hc]

theorem Arm.heldManual_iff {x : Arm} : x.heldManual = true ↔ x.state = .held ∧ x.prior = some .manual := decide_eq_true_iff

theorem State.bodyPortOff_of_manual (h : s.calm) (hc : (s.arm a).inCycle = false)
    (hm : (s.arm a).state = .manual ∨ (s.arm a).state = .held ∧ (s.arm a).prior = some .manual)
    (ho : (s.weighUnit a).isOpen = false) (hw : s.noneWaitsBut a.consumer) : s.bodyPortOff a = s.manualFaulted a := by
  unfold State.bodyPortOff
  dsimp only
  rw [if_neg (by rw [hc]; exact Bool.false_ne_true), if_pos (hm.imp_right Arm.heldManual_iff.2),
    State.leaveManual_eq (by exact h) rfl (by exact ho) (by exact hw), State.setArm_arm, State.setArm_setArm]
  rfl

/-! ## The loss of port B handed to the arms in a free order -/

/-- Entering or leaving of record `n` alone leaves the OPEN record `m` as it was, or closes it. -/
theorem LiftLog.openRecord_enter {l : LiftLog} {c k : LogRecord} {m : Nat} (hc : c.closed = true)
    (h : l.openRecord m = some k ∨ l.openRecord m = none) :
    (l.enter n fun _ => c).openRecord m = some k ∨ (l.enter n fun _ => c).openRecord m = none := by
  by_cases hm : m = n
  · right
    subst hm
    refine LiftLog.openRecord_eq_none.2 fun e he hopen => ?_
    obtain ⟨d, -, rfl⟩ := List.mem_map.1 he
    by_cases hd : d.seq = m ∧ d.closed = false
    · rw [if_pos hd, hc] at hopen; cases hopen.2
    · rw [if_neg hd] at hopen; exact hd hopen
  · have hsame : (fun e : LogRecord => decide (e.seq = m) && !e.closed) ∘
        (fun e => if e.seq = n ∧ e.closed = false then c else e) = fun e => decide (e.seq = m) && !e.closed := by
      funext e
      by_cases he : e.seq = n ∧ e.closed = false
      · simp [he, hc, Ne.symm hm]
      · simp [he]
    have hfind : (l.enter n fun _ => c).openRecord m =
        (l.openRecord m).map fun e => if e.seq = n ∧ e.closed = false then c else e := by
      unfold LiftLog.openRecord LiftLog.enter
      dsimp only
      rw [List.find?_map, hsame]
    rw [hfind]
    refine h.imp (fun hk => ?_) (fun hk => by rw [hk]; rfl)
    have hseq := (LiftLog.openRecord_spec hk).1
    rw [hk]
    simp [hseq, hm]

/-- The arms whose loss of port B waits in the agenda stand as they stood in `s`, the record of one that is in cycle OPEN still or closed
by the other arm. -/
structure Losing (s : State) (loses : ArmId → Bool) (es : List Ev) (v : State) : Prop where
  nodup : es.Nodup
  kind : ∀ e ∈ es, ∃ a, e = .portOff a ∧ loses a = true
  watch : v.watch = s.watch
  arm : ∀ a, .portOff a ∈ es → v.arm a = s.arm a
  unit : ∀ a, .portOff a ∈ es → v.weighUnit a = s.weighUnit a
  flow : ∀ a, .portOff a ∈ es → v.noneWaitsBut a.consumer
  records : ∀ m k, s.log.openRecord m = some k → v.log.openRecord m = some k ∨ v.log.openRecord m = none

theorem Losing.pages {loses : ArmId → Bool} {es : List Ev} {w : State} (k : Losing s loses es v) (h : v.AfterPages w) :
    Losing s loses es w := by
  obtain ⟨x, m, rfl, -⟩ := h.shape
  exact ⟨k.nodup, k.kind, k.watch, k.arm, k.unit, k.flow, k.records⟩

/-- The first arm has taken its loss: what it changes of the arms and Weighing Units is its own. -/
theorem Losing.next {loses : ArmId → Bool} {es : List Ev} (k : Losing s loses (.portOff a :: es) v) (y : Arm) {w : Duo WeighUnit}
    {b : BinUnit} {l : LiftLog} (hw : ∀ i, i ≠ a → w.at i.second = v.weighUnit i)
    (hl : ∀ m k, v.log.openRecord m = some k ∨ v.log.openRecord m = none → l.openRecord m = some k ∨ l.openRecord m = none) :
    Losing s loses es (((v.stopped a.consumer).granted a.consumer 0).withParts (v.arms.put a.second y) w b l) := by
  obtain ⟨g, p, hg⟩ := v.stopped_eq a.consumer
  obtain ⟨z, p', hz, hz'⟩ := (v.stopped a.consumer).granted_eq a.consumer 0
  rw [hz, hg]
  have hne {i : ArmId} (hi : .portOff i ∈ es) : i ≠ a := fun he => (List.nodup_cons.1 k.nodup).1 (he ▸ hi)
  have hmem {e : Ev} (h : e ∈ es) : e ∈ .portOff a :: es := List.mem_cons_of_mem _ h
  refine ⟨(List.nodup_cons.1 k.nodup).2, fun e he => k.kind e (hmem he), k.watch, fun i hi => ?_, fun i hi => ?_, fun i hi => ?_,
    fun m r hr => hl m r (k.records m r hr)⟩
  · rw [← k.arm i (hmem hi)]
    exact Duo.at_put_ne v.arms (ArmId.second_ne (hne hi)) y
  · rw [← k.unit i (hmem hi)]
    exact hw i (hne hi)
  · show ∀ e ∈ z.waiting, e.1 = i.consumer
    rw [hz']
    exact nofun

/-- What each arm does at its loss of port B. -/
def portLoss (lose : ArmId → State → State) : Ev → Option (State → State)
  | .portOff a => some (lose a)
  | _ => none

/-- An arm that loses port B is in cycle, or in MANUAL or HELD from it, its window not OPEN and its quiet request not raised. -/
theorem takesEach_losing {loses : ArmId → Bool} {lose : ArmId → State → State} (hs : s.calm)
    (hloses : ∀ a, loses a = true ↔ (s.arm a).inCycle = true ∨ (s.arm a).state = .manual ∨
      (s.arm a).state = .held ∧ (s.arm a).prior = some .manual)
    (hunit : ∀ a, loses a = true → (s.weighUnit a).isOpen = false ∧ (s.weighUnit a).quiet = false)
    (hcycle : ∀ a v, (s.arm a).inCycle = true → ∃ n r, (s.arm a).openRecord = some n ∧ s.log.openRecord n = some r ∧
      r.flags.tipped = false ∧ lose a v = v.cycleOver a n r .faulted .faulted .bodyPortOff)
    (hmanual : ∀ a v, (s.arm a).inCycle = false → lose a v = v.manualFaulted a) :
    TakesEach (portLoss lose) (Losing s loses) where
  pages := Losing.pages
  step := by
    intro e es v k hagenda hun
    obtain ⟨a, rfl, ha⟩ := k.kind e List.mem_cons_self
    have hcalm : v.calm := ⟨hagenda, by rw [k.watch]; exact hs.2⟩
    have harm := k.arm a List.mem_cons_self
    have hwu := k.unit a List.mem_cons_self
    obtain ⟨ho, hq⟩ := hunit a ha
    rw [← hwu] at ho hq
    have hflow := k.flow a List.mem_cons_self
    have done {y : Arm} {w : Duo WeighUnit} {b : BinUnit} {l : LiftLog}
        (h : v.bodyPortOff a = lose a v)
        (he : lose a v = ((v.stopped a.consumer).granted a.consumer 0).withParts (v.arms.put a.second y) w b l)
        (hw : ∀ i, i ≠ a → w.at i.second = v.weighUnit i)
        (hl : ∀ m k, v.log.openRecord m = some k ∨ v.log.openRecord m = none → l.openRecord m = some k ∨ l.openRecord m = none) :
        handle (.portOff a) v = lose a v ∧ (lose a v).agenda = [] ∧ (lose a v).unwatched ∧ Losing s loses es (lose a v) := by
      have hafter : (((v.stopped a.consumer).granted a.consumer 0).withParts (v.arms.put a.second y) w b l).calm :=
        (State.calm_granted _ _).2 ((State.calm_stopped _).2 hcalm)
      refine ⟨h, ?_, ?_, ?_⟩
      · rw [he]; exact hafter.1
      · rw [he]; exact hafter.unwatched
      · rw [he]; exact k.next y hw hl
    cases hc : (s.arm a).inCycle with
    | true =>
      obtain ⟨n, r, hn, hr, ht, hlose⟩ := hcycle a v hc
      rw [← harm] at hc hn
      refine done ?_ (hlose.trans (State.cycleOver_eq _)) (fun i hi => ?_) fun m k' h => LiftLog.openRecord_enter rfl h
      · rw [State.bodyPortOff_of_cycle hc, hlose]
        exact State.armFault_eq hcalm hc ho hq hflow hn ((k.records n r hr).imp_left fun h => ⟨h, ht⟩) _
      · exact Duo.at_put_ne v.weigh (ArmId.second_ne hi) _
    | false =>
      have hm := ((hloses a).1 ha).resolve_left (by rw [hc]; exact Bool.false_ne_true)
      have hlose := hmanual a v hc
      rw [← harm] at hc hm
      refine done (y := (v.arm a).manualFaulted) (w := v.weigh) (b := v.bins) (l := v.log) ?_ (hlose.trans ?_) (fun _ _ => rfl) fun _ _ h => h
      · rw [State.bodyPortOff_of_manual hcalm hc hm ho hflow, hlose]
      · rw [← State.granted_withParts, ← State.stopped_withParts]
        rfl

theorem State.onBodyPort_eq {loses : ArmId → Bool}
    (hloses : ∀ a, loses a = true ↔ (s.arm a).inCycle = true ∨ (s.arm a).state = .manual ∨
      (s.arm a).state = .held ∧ (s.arm a).prior = some .manual) : s.onBodyPort = [ArmId.armA, .armB].filter loses := by
  unfold State.onBodyPort
  refine List.filter_congr fun a _ => ?_
  rw [Bool.eq_iff_iff, hloses, Bool.or_eq_true, Bool.or_eq_true, Arm.heldManual_iff, decide_eq_true_iff]
  tauto

end

/-- Settles O30: the arms take the loss of port B one after another (`takesEach_losing`); each other loss is one act of the arm. -/
theorem armsAnswerLoss : Obligations.ArmsAnswerLoss := by
  unfold Obligations.ArmsAnswerLoss
  refine ⟨fun s loses lose x hs hx hon hloses hunit hcycle hmanual => ?_, fun s a x hs hx ho hq hw => ?_⟩
  · subst hx
    have hbody : s.onBodyPort = [ArmId.armA, .armB].filter loses := State.onBodyPort_eq hloses
    obtain ⟨l, k, hperm, hpost⟩ := State.postAnyOrder_spec (([ArmId.armA, .armB].filter loses).map Ev.portOff)
      (s.flushed .portB s.ports.snd.toOff.1 (s.dueAfterFlush s.ports.snd))
    have hoff : s.goBusOff .portB =
        (State.handing { s.flushed .portB s.ports.snd.toOff.1 (s.dueAfterFlush s.ports.snd) with freeCount := k } l) := by
      unfold State.goBusOff
      rw [if_neg (show ¬ (s.port .portB).state = .off from hon)]
      dsimp only
      rw [State.noteLeft_flushed, State.onBodyPort_flushed, hbody]
      refine hpost.trans ?_
      rw [show (s.flushed .portB s.ports.snd.toOff.1 (s.dueAfterFlush s.ports.snd)).agenda = [] from hs.1]
      rfl
    have hmem {e : Ev} (he : e ∈ l) : ∃ a, e = .portOff a ∧ loses a = true := by
      obtain ⟨a, ha, rfl⟩ := List.mem_map.1 (hperm.mem_iff.1 he)
      exact ⟨a, rfl, (List.mem_filter.1 ha).2⟩
    have hloss {a : ArmId} (ha : .portOff a ∈ l) : loses a = true := by
      obtain ⟨b, hb, hl⟩ := hmem ha
      cases hb
      exact hl
    have hnodup : l.Nodup := by
      refine hperm.nodup_iff.2 (List.Nodup.map (fun a b h => by cases h; rfl) (List.Nodup.filter _ (by decide)))
    have hlen : l.length ≤ 16 := by
      rw [hperm.length_eq, List.length_map]
      exact (List.length_filter_le _ _).trans (by decide)
    have hP : Losing s loses l { s.flushed .portB s.ports.snd.toOff.1 (s.dueAfterFlush s.ports.snd) with freeCount := k } :=
      ⟨hnodup, fun e he => hmem he, rfl, fun _ _ => rfl, fun _ _ => rfl, fun a ha => (hunit a (hloss ha)).2.2, fun _ _ h => .inl h⟩
    have takes := takesEach_losing hs hloses (fun a ha => ⟨(hunit a ha).1, (hunit a ha).2.1⟩) hcycle hmanual
    have hend := takes.finish hlen hP hs.1 hs.unwatched
    refine ⟨_, _, k, l.filterMap (portLoss lose), ?_, ?_, hend, Port.resetDue_iff⟩
    · rw [exec_busOff, run_wellFormed rfl]
      show Host.Outcome.next (s.goBusOff .portB).finish = _
      rw [hoff]
    · refine (hperm.filterMap _).trans (List.Perm.of_eq ?_)
      rw [List.filterMap_map]
      exact congrFun List.filterMap_eq_map' _
  · subst hx
    refine ⟨fun hpos => ⟨fun hc n r hn hr ht => ?_, fun hm => ?_, fun hi => ?_⟩, fun hg => ⟨fun hr => ?_, fun h1 h2 => ?_⟩,
      fun hg => ⟨fun hns => ?_, fun d hsus hd hk ht hf => ?_⟩, fun u hu => ⟨fun hm => ⟨?_, fun hp => ?_, fun hp => ?_⟩, fun hm => ⟨?_, ?_⟩⟩⟩
    · unfold State.positionEvent
      simp only [hpos, hc, if_true]
      exact State.armFault_eq hs hc ho hq hw hn (.inl ⟨hr, ht⟩) _
    · have hc : (s.arm a).inCycle = false := by
        rcases hm with hm | ⟨hm, hp⟩
        · simp only [Arm.inCycle, hm]; rfl
        · simp only [Arm.inCycle, hm, hp]; rfl
      unfold State.positionEvent
      simp only [hpos, hc, Bool.false_eq_true, if_false]
      exact if_pos (hm.imp_right Arm.heldManual_iff.2)
    · have hc : (s.arm a).inCycle = false := by
        rcases hi with hi | hi <;> simp only [Arm.inCycle, hi] <;> rfl
      unfold State.positionEvent
      simp only [hpos, hc, Bool.false_eq_true, if_false]
      refine if_neg ?_
      rw [Arm.heldManual_iff]
      rcases hi with hi | hi <;> rw [hi] <;> simp
    · have hstop : s.guardChange a = s.armStop a .suspended := by
        unfold State.guardChange
        rcases hr with hr | hr <;> rw [hr] <;> simp [hg]
      rw [hstop, State.armStop_eq hs rfl ho hw]
    · unfold State.guardChange
      split
      · exact absurd ‹_› h1
      · exact absurd ‹_› h2
      · exact if_neg (by rw [hg]; exact Bool.false_ne_true)
      all_goals rfl
    · unfold State.guardChange
      split
      · exact if_pos hg
      · exact if_pos hg
      · exact absurd ‹_› hns
      all_goals rfl
    · have hclaim : s.guardChange a = s.claimStep a := by
        unfold State.guardChange
        rw [hsus]
        exact if_pos hg
      rw [hclaim, State.claimStep_eq hs hsus hd hk ht hf]
    · rw [State.fullEvent, if_pos hm, hu, State.leaveManual_eq hs rfl ho hw]
    · rw [State.manualPermitChange, if_pos ⟨hm, by rw [hp]; exact Bool.false_ne_true⟩, hu, State.leaveManual_eq hs rfl ho hw]
    · rw [State.manualPermitChange, if_neg (fun h => h.2 hp)]
    · rw [State.fullEvent, if_neg hm]
    · rw [State.manualPermitChange, if_neg (fun h => hm h.1)]

end Sys2Proof.Machine
end

section
/-! The statement on Frame Watch's hold (R63, R108, R130, R155, R156). -/

namespace Sys2Proof.Machine

section
variable {s v : State} {a : ArmId} {c : ChamberId} {f : Frame} {i : Nat} {e : WatchEntry}

/-! ## The match that makes the hold (R154, R155) -/

/-- The only armed entry is the only one that can match. -/
theorem Watch.hits_of_only {w : Watch} {p : PortId} (he : w.entries[i]? = some e) (hit : e.hit (some p) f = true)
    (h : ∀ j d, j ≠ i → w.entries[j]? = some d → d.armed = false) : w.hits (some p) f = [i] := by
  have hi : i < w.entries.length := (List.getElem?_eq_some_iff.1 he).1
  unfold Watch.hits
  refine (List.filter_congr (q := (· == i)) fun j _ => ?_).trans ?_
  · by_cases hji : j = i
    · subst hji; simp [he, hit]
    · cases hd : w.entries[j]? with
      | none => simp [hji]
      | some d => simp [WatchEntry.hit, h j d hji hd, hji]
  · rw [List.filter_beq, List.count_eq_one_of_mem List.nodup_range (List.mem_range.2 hi)]
    rfl

/-- The entry has counted a hit (R154). -/
def WatchEntry.counted (e : WatchEntry) : WatchEntry := { e with hits := satInc e.hits }

/-- A frame that a hold entry alone matches, Frame Watch FREE (R155). -/
theorem State.watchTest_of_hold {p : PortId} {before : Bool} (he : s.watch.entries[i]? = some e)
    (hits : s.watch.hits (some p) f = [i]) (hfree : s.watch.isHeld = false)
    (hk : e.kind = if before = true then .holdBefore else .holdAfter) :
    s.watchTest (some p) p f =
      (s.setWatch { s.watch with entries := s.watch.entries.set i e.counted }, some (i, before)) := by
  obtain ⟨w, hw⟩ : ∃ w : Watch, w = { s.watch with entries := s.watch.entries.set i e.counted } := ⟨_, rfl⟩
  have hcount : s.watch.countHits [i] = w := by
    unfold Watch.countHits
    rw [List.foldl_cons, List.foldl_nil, List.modify_eq_set_getElem?, he, hw]
    rfl
  have hget : w.entries[i]? = some e.counted := by rw [hw]; exact getElem?_set_of_some he _
  have hheld : w.isHeld = false := by rw [hw]; exact hfree
  have hkind : e.counted.kind = if before = true then .holdBefore else .holdAfter := hk
  have hmirror : (w.entries[i]?.map WatchEntry.kind == some .mirror) = false := by
    rw [hget]
    show (some e.counted.kind == some WatchKind.mirror) = false
    rw [hkind]
    cases before <;> rfl
  have hmatch : w.holdMatch [i] = some (i, before) := by
    unfold Watch.holdMatch
    simp only [hget, hkind]
    cases before <;> rfl
  unfold State.watchTest
  dsimp only
  rw [hits, hcount, ← hw]
  simp only [State.setWatch_watch, List.filter_cons, hmirror, Bool.false_eq_true, if_false, List.filter_nil, List.foldl_nil, hmatch,
    hheld]

/-! ## The windows stall (R108) -/

/-- A Weighing Unit whose OPEN window has stalled. -/
def WeighUnit.stalled (u : WeighUnit) : WeighUnit :=
  if u.isOpen = true then { u with window := [], isOpen := false, gapTimer := .stopped, quiet := false } else u

theorem WeighUnit.stalled_isOpen (u : WeighUnit) : u.stalled.isOpen = false := by
  unfold WeighUnit.stalled
  split
  · rfl
  · exact Bool.eq_false_iff.2 ‹_›

/-- Hand-overs of a dropped quiet request alone, and none where no request was raised. -/
def quietOnly (raised : Bool) (l : List Ev) : Prop := l.length ≤ 2 ∧ ∀ e ∈ l, (∃ c, e = .quietChanged c) ∧ raised = true

theorem State.stallWindow_spec (s : State) (a : ArmId) :
    ∃ l k, quietOnly (s.weighUnit a).quiet l ∧
      s.stallWindow a =
        { s.setWeighUnit a (s.weighUnit a).stalled with agenda := s.agenda ++ l, freeCount := k } := by
  unfold State.stallWindow WeighUnit.stalled
  dsimp only
  split
  · unfold State.putWeigh
    dsimp only
    split
    · exact ⟨[], s.freeCount, ⟨by decide, nofun⟩, by rw [List.append_nil]; rfl⟩
    · rename_i hq
      have hraised : (s.weighUnit a).quiet = true := by
        cases h : (s.weighUnit a).quiet with
        | true => rfl
        | false => exact absurd h.symm hq
      obtain ⟨l, k, hp, e⟩ := State.postAnyOrder_spec [.quietChanged .chamber0, .quietChanged .chamber1]
        (s.setWeighUnit a { s.weighUnit a with window := [], isOpen := false, gapTimer := .stopped, quiet := false })
      refine ⟨l, k, ⟨by rw [hp.length_eq]; decide, fun x hx => ⟨?_, hraised⟩⟩, e⟩
      have := hp.mem_iff.1 hx
      simp only [List.mem_cons, List.not_mem_nil, or_false] at this
      exact this.elim (fun h => ⟨_, h⟩) fun h => ⟨_, h⟩
  · exact ⟨[], s.freeCount, ⟨by decide, nofun⟩, by rw [List.append_nil, State.setWeighUnit_self]⟩

/-- Both Weighing Units have stalled. -/
def State.weighStalled (s : State) : State :=
  { s with weigh := { fst := s.weigh.fst.stalled, snd := s.weigh.snd.stalled } }

theorem State.holdWeighing_spec (s : State) :
    ∃ l k, l.length ≤ 4 ∧ (∀ e ∈ l, (∃ c, e = .quietChanged c) ∧ s.quietRaised = true) ∧
      s.holdWeighing = { s.weighStalled with agenda := s.agenda ++ l, freeCount := k } := by
  obtain ⟨l, k, ⟨hlen, hl⟩, e⟩ := s.stallWindow_spec .armA
  obtain ⟨l', k', ⟨hlen', hl'⟩, e'⟩ := (s.stallWindow .armA).stallWindow_spec .armB
  have hB : (s.stallWindow .armA).weighUnit .armB = s.weigh.snd := by rw [e]; rfl
  rw [hB] at e' hl'
  refine ⟨l ++ l', k', by rw [List.length_append]; omega, fun x hx => ?_, ?_⟩
  · unfold State.quietRaised
    rcases List.mem_append.1 hx with h | h
    · exact ⟨(hl x h).1, by rw [show s.weigh.fst.quiet = true from (hl x h).2]; rfl⟩
    · exact ⟨(hl' x h).1, by rw [(hl' x h).2, Bool.or_true]⟩
  · unfold State.holdWeighing
    rw [e', e]
    simp only [List.append_assoc]
    rfl

/-! ## The blocks take the hold (R63, R79, R130) -/

/-- An arm that a hold stops (R63). -/
def Arm.onHold (x : Arm) : Arm :=
  if x.state = .running ∨ x.state = .waitSupply ∨ x.state = .suspended ∨ x.state = .manual then
    { x.stoppedIn .held with prior := some x.state }
  else x

/-- A Compaction Controller that a hold stops (R130). -/
def Chamber.onHold (x : Chamber) : Chamber :=
  if x.state = .idle ∨ x.state = .held ∨ x.state = .faulted then x
  else { x with
    state := .held, prior := some x.state, phaseTimer := { x.phaseTimer with running := false },
    quietTimer := { x.quietTimer with running := false } }

/-- While the hold is taken: nothing watches, no window is OPEN, a group is DRIVING for a moving owner alone, and no chamber acts on a
dropped quiet request. -/
structure Holding (es : List Ev) (v : State) : Prop where
  disarmed : ∀ e ∈ v.watch.entries, e.armed = false
  windows : ∀ a, (v.weighUnit a).isOpen = false
  arms : ∀ a : ArmId, (v.valve a.consumer).driving = true → (v.arm a).state = .running ∨ (v.arm a).state = .manual
  chambers : ∀ c : ChamberId, (v.valve c.consumer).driving = true →
    (v.chamber c).state = .sweep ∨ (v.chamber c).state = .pack ∨ (v.chamber c).state = .ret
  kind : ∀ e ∈ es, (∃ a, e = .holdArm a) ∨ (∃ c, e = .holdChamber c) ∨
    (∃ c, e = .quietChanged c) ∧
      ∀ c, (v.chamber c).state = .faulted ∨ (v.chamber c).state = .idle ∧ (v.chamber c).pending = false

theorem Holding.pages {es : List Ev} {w : State} (k : Holding es v) (h : v.AfterPages w) : Holding es w := by
  obtain ⟨x, m, rfl, -⟩ := h.shape
  exact ⟨k.disarmed, k.windows, k.arms, k.chambers, k.kind⟩

theorem Holding.tail {x : Ev} {es : List Ev} (k : Holding (x :: es) v) : Holding es v :=
  ⟨k.disarmed, k.windows, k.arms, k.chambers, fun e he => k.kind e (List.mem_cons_of_mem _ he)⟩

theorem State.stopped_of_still {c : Consumer} (h : (s.valve c).driving = false) : s.stopped c = s := by
  unfold State.stopped
  dsimp only
  rw [h]
  exact if_neg Bool.false_ne_true

/-- A stopped group does not drive, and the others are as they were. -/
theorem State.stopped_driving {c d : Consumer} (h : ((s.stopped c).valve d).driving = true) :
    d ≠ c ∧ (s.valve d).driving = true := by
  unfold State.stopped at h
  dsimp only at h
  split at h
  · change ((s.valves.put c _).at d).driving = true at h
    by_cases hd : d = c
    · subst hd
      rw [Quad.at_put_same] at h
      cases h
    · rw [Quad.at_put_ne _ hd] at h
      exact ⟨hd, h⟩
  · exact ⟨fun hd => by subst hd; exact absurd h ‹_›, h⟩

theorem State.holdArm_eq {es : List Ev} (k : Holding es v) (h : v.calm) :
    v.holdArm a = (v.setArm a (v.arm a).onHold).stopped a.consumer := by
  by_cases hm : (v.arm a).state = .running ∨ (v.arm a).state = .waitSupply ∨ (v.arm a).state = .suspended ∨ (v.arm a).state = .manual
  · have hact : v.holdArm a =
        (v.setArm a { (v.arm a).pauseTimers with prior := some (v.arm a).state }).setArmState a .held := by
      unfold State.holdArm
      dsimp only
      rcases hm with hm | hm | hm | hm <;> simp only [hm]
    rw [hact, State.setArmState_of_resting (by exact h) rfl (by exact k.windows a), State.setArm_arm, State.setArm_setArm,
      Arm.onHold, if_pos hm]
    rfl
  · have hact : v.holdArm a = v := by
      unfold State.holdArm
      dsimp only
      split <;> first | rfl | (exfalso; tauto)
    have hstill : (v.valve a.consumer).driving = false := Bool.eq_false_iff.2 fun hd => hm ((k.arms a hd).imp_right fun h => .inr (.inr h))
    rw [hact, Arm.onHold, if_neg hm, State.setArm_self, State.stopped_of_still hstill]

theorem State.setChamberState_held (h : v.calm) (c : ChamberId) :
    v.setChamberState c .held = (v.setChamber c { v.chamber c with state := .held }).stopped c.consumer := by
  unfold State.setChamberState
  exact State.stopGroup_eq (by exact h) _

theorem State.holdChamber_eq {es : List Ev} (k : Holding es v) (h : v.calm) :
    v.holdChamber c = (v.setChamber c (v.chamber c).onHold).stopped c.consumer := by
  by_cases hm : (v.chamber c).state = .idle ∨ (v.chamber c).state = .held ∨ (v.chamber c).state = .faulted
  · have hact : v.holdChamber c = v := by
      unfold State.holdChamber
      dsimp only
      rcases hm with hm | hm | hm <;> simp only [hm]
    have hstill : (v.valve c.consumer).driving = false := Bool.eq_false_iff.2 fun hd => by
      rcases k.chambers c hd with hs | hs | hs <;> rcases hm with hm | hm | hm <;> exact absurd (hs.symm.trans hm) (by decide)
    rw [hact, Chamber.onHold, if_pos hm, State.setChamber_self, State.stopped_of_still hstill]
  · have hact : v.holdChamber c =
        (v.setChamber c { v.chamber c with
          prior := some (v.chamber c).state, phaseTimer := (v.chamber c).phaseTimer.pause,
          quietTimer := (v.chamber c).quietTimer.pause }).setChamberState c .held := by
      unfold State.holdChamber
      dsimp only
      split <;> first | rfl | (exfalso; tauto)
    rw [hact, State.setChamberState_held (by exact h), State.setChamber_chamber, State.setChamber_setChamber, Chamber.onHold,
      if_neg hm]
    rfl

/-- A chamber that rests does not act on a dropped quiet request. -/
theorem State.quietEvent_of_resting (h : (v.chamber c).state = .faulted ∨ (v.chamber c).state = .idle ∧ (v.chamber c).pending = false) :
    v.quietEvent c = v := by
  unfold State.quietEvent State.quietTest State.strokeTest
  dsimp only
  rcases h with h | ⟨h, hp⟩
  · simp [h, ChamberState.isPhase]
  · simp [h, hp, ChamberState.isPhase]

theorem ArmId.consumer_ne {a b : ArmId} (h : b.consumer ≠ a.consumer) : b ≠ a := fun e => h (e ▸ rfl)
theorem ChamberId.consumer_ne {a b : ChamberId} (h : b.consumer ≠ a.consumer) : b ≠ a := fun e => h (e ▸ rfl)

theorem Holding.afterArm {es : List Ev} (k : Holding es v) (a : ArmId) (y : Arm) :
    Holding es ((v.setArm a y).stopped a.consumer) := by
  have hdrives {d : Consumer} (h : (((v.setArm a y).stopped a.consumer).valve d).driving = true) :
      d ≠ a.consumer ∧ (v.valve d).driving = true := State.stopped_driving (s := v.setArm a y) h
  obtain ⟨g, p, e⟩ := (v.setArm a y).stopped_eq a.consumer
  have harm (b : ArmId) (hb : b ≠ a) : ((v.setArm a y).stopped a.consumer).arm b = v.arm b := by
    rw [e]; exact State.setArm_arm_ne v hb y
  have hchamber (c : ChamberId) : ((v.setArm a y).stopped a.consumer).chamber c = v.chamber c := by rw [e]; rfl
  refine ⟨by rw [e]; exact k.disarmed, fun b => by rw [e]; exact k.windows b, fun b hb => ?_, fun c hc => ?_, fun x hx => ?_⟩
  · obtain ⟨hne, hd⟩ := hdrives hb
    rw [harm b (ArmId.consumer_ne hne)]
    exact k.arms b hd
  · rw [hchamber]
    exact k.chambers c (hdrives hc).2
  · simp only [hchamber]
    exact k.kind x hx

theorem Holding.afterChamber {es : List Ev} (k : Holding es v) (c : ChamberId) :
    Holding es ((v.setChamber c (v.chamber c).onHold).stopped c.consumer) := by
  have hdrives {d : Consumer} (h : (((v.setChamber c (v.chamber c).onHold).stopped c.consumer).valve d).driving = true) :
      d ≠ c.consumer ∧ (v.valve d).driving = true := State.stopped_driving (s := v.setChamber c (v.chamber c).onHold) h
  obtain ⟨g, p, e⟩ := (v.setChamber c (v.chamber c).onHold).stopped_eq c.consumer
  have harm (a : ArmId) : ((v.setChamber c (v.chamber c).onHold).stopped c.consumer).arm a = v.arm a := by rw [e]; rfl
  have hchamber (d : ChamberId) (hd : d ≠ c) :
      ((v.setChamber c (v.chamber c).onHold).stopped c.consumer).chamber d = v.chamber d := by
    rw [e]; exact State.setChamber_chamber_ne v hd _
  have hsame : ((v.setChamber c (v.chamber c).onHold).stopped c.consumer).chamber c = (v.chamber c).onHold := by
    rw [e]; exact State.setChamber_chamber v c _
  refine ⟨by rw [e]; exact k.disarmed, fun b => by rw [e]; exact k.windows b, fun b hb => ?_, fun d hd => ?_, fun x hx => ?_⟩
  · rw [harm]
    exact k.arms b (hdrives hb).2
  · obtain ⟨hne, hd'⟩ := hdrives hd
    rw [hchamber d (ChamberId.consumer_ne hne)]
    exact k.chambers d hd'
  · refine (k.kind x hx).imp_right (Or.imp_right fun ⟨hq, hrest⟩ => ⟨hq, fun d => ?_⟩)
    by_cases hd : d = c
    · subst hd
      have hstay : (v.chamber d).onHold = v.chamber d := by
        unfold Chamber.onHold
        exact if_pos ((hrest d).elim (fun h => .inr (.inr h)) fun h => .inl h.1)
      rw [hsame, hstay]
      exact hrest d
    · rw [hchamber d hd]
      exact hrest d

/-- What each hand-over of a hold does. -/
def holdAct (holdArm : ArmId → State → State) (holdChamber : ChamberId → State → State) : Ev → Option (State → State)
  | .holdArm a => some (holdArm a)
  | .holdChamber c => some (holdChamber c)
  | _ => none

theorem takesEach_holding {holdArm : ArmId → State → State} {holdChamber : ChamberId → State → State}
    (harm : ∀ a v, holdArm a v = (v.setArm a (v.arm a).onHold).stopped a.consumer)
    (hchamber : ∀ c v, holdChamber c v = (v.setChamber c (v.chamber c).onHold).stopped c.consumer) :
    TakesEach (holdAct holdArm holdChamber) Holding where
  pages := Holding.pages
  step := by
    intro e es v k hagenda hun
    have hcalm : v.calm := ⟨hagenda, k.disarmed⟩
    rcases k.kind e List.mem_cons_self with ⟨a, rfl⟩ | ⟨c, rfl⟩ | ⟨⟨c, rfl⟩, hrest⟩
    · show v.holdArm a = holdArm a v ∧ (holdArm a v).agenda = [] ∧ (holdArm a v).unwatched ∧ Holding es (holdArm a v)
      have hafter : ((v.setArm a (v.arm a).onHold).stopped a.consumer).calm := (State.calm_stopped _).2 hcalm
      rw [harm]
      exact ⟨State.holdArm_eq k hcalm, hafter.1, hafter.unwatched, k.tail.afterArm a _⟩
    · show v.holdChamber c = holdChamber c v ∧ (holdChamber c v).agenda = [] ∧ (holdChamber c v).unwatched ∧
        Holding es (holdChamber c v)
      have hafter : ((v.setChamber c (v.chamber c).onHold).stopped c.consumer).calm := (State.calm_stopped _).2 hcalm
      rw [hchamber]
      exact ⟨State.holdChamber_eq k hcalm, hafter.1, hafter.unwatched, k.tail.afterChamber c⟩
    · show v.quietEvent c = v ∧ v.agenda = [] ∧ v.unwatched ∧ Holding es v
      exact ⟨State.quietEvent_of_resting (hrest c), hagenda, hun, k.tail⟩

end

/-! ## Entry to HELD by a received frame -/

section
variable {s : State} {f : Frame} {r : List Frame} {i : Nat} {e : WatchEntry}

/-- Frame Watch HELD by entry `i`, which has counted its hit and is disarmed. -/
def Watch.heldBy (w : Watch) (i : Nat) (e : WatchEntry) (register : Option HeldFrame) : Watch :=
  { w with entries := w.entries.set i { e.counted with armed := false }, isHeld := true, holdEntry := some i, register }

/-- The head of port C's FIFO has been taken and the hold made. -/
def State.heldBy (s : State) (r : List Frame) (i : Nat) (e : WatchEntry) (miss : Nat) (register : Option HeldFrame) : State :=
  { s with
    ports := { s.ports with fst := { s.ports.fst with fifo := r, counters := { s.ports.fst.counters with miss } } },
    watch := s.watch.heldBy i e register }

theorem State.postFirst_eq {t : State} (h : t.agenda = []) (es : List Ev) : t.postFirst es = t.handing es := by
  unfold State.postFirst State.handing
  rw [h, List.append_nil]

/-- The entry that has counted its hit is disarmed (R155). -/
theorem State.enterHeld_eq (ha : s.agenda = []) (he : s.watch.entries[i]? = some e) (register : Option HeldFrame) :
    (s.setWatch { s.watch with entries := s.watch.entries.set i e.counted, register }).enterHeld i =
      (s.setWatch (s.watch.heldBy i e register)).handing [.holdEntered] := by
  have hmod : (s.watch.entries.set i e.counted).modify i (fun e => { e with armed := false }) =
      s.watch.entries.set i { e.counted with armed := false } := by
    rw [List.modify_eq_set_getElem?, getElem?_set_of_some he]
    exact List.set_set _
  unfold State.enterHeld
  rw [State.postFirst_eq (by exact ha)]
  simp only [State.setWatch_watch, hmod]
  rfl

/-- A frame of port C that a hold entry alone matches makes the hold, before it is handled or after it has been missed and dropped. -/
theorem State.takeFrame_of_hold {miss : Nat} {register : Option HeldFrame} (hagenda : s.agenda = []) (hnoted : s.mgmt.noted = s.allPages)
    (hfree : s.watch.isHeld = false) (hfifo : s.ports.fst.fifo = f :: r) (he : s.watch.entries[i]? = some e)
    (hits : s.watch.hits (some .portC) f = [i])
    (hk : e.kind = .holdBefore ∧ miss = s.ports.fst.counters.miss ∧ register = some (.received .portC f) ∨
      e.kind = .holdAfter ∧ winner s.routes .portC f = none ∧ s.cfg.miss.fst = .drop ∧
        miss = min (s.ports.fst.counters.miss + 1) 65535 ∧ register = s.watch.register) :
    s.takeFrame .portC = (s.heldBy r i e miss register).handing [.holdEntered] := by
  have htake : s.takeFrame .portC = (s.popped .portC r).watchedFrame .portC f :=
    State.takeFrame_eq_watchedFrame (p := .portC) hfifo nofun
  rcases hk with ⟨hk, rfl, rfl⟩ | ⟨hk, hw, hdrop, rfl, rfl⟩
  · rw [htake, State.watchedFrame, State.watchTest_of_hold (before := true) (s := s.popped .portC r) he hits hfree hk]
    exact State.enterHeld_eq (s := s.popped .portC r) hagenda he _
  · rw [htake, State.watchedFrame, State.watchTest_of_hold (before := false) (s := s.popped .portC r) he hits hfree hk]
    obtain ⟨z, hz⟩ : ∃ z, z = (s.popped .portC r).setPort .portC ((s.popped .portC r).port .portC).missed := ⟨_, rfl⟩
    obtain ⟨w, hwatch⟩ : ∃ w : Watch, w = { s.watch with entries := s.watch.entries.set i e.counted } := ⟨_, rfl⟩
    have hroute (held : Bool) : ((s.popped .portC r).setWatch w).routeFrame held .portC f = z.setWatch w := by
      unfold State.routeFrame
      rw [show winner ((s.popped .portC r).setWatch w).routes .portC f = none from hw, hz]
      exact State.missFrame_of_drop (s := (s.popped .portC r).setWatch w) hdrop
    have hpages : (z.setWatch w).allPages = s.allPages := by
      have hfirst : (s.popped .portC r).allPages = s.allPages := State.allPages_setPort rfl
      have hsecond : z.allPages = (s.popped .portC r).allPages := by rw [hz]; exact State.allPages_setPort rfl
      exact hsecond.trans hfirst
    have hza : z.agenda = [] := by rw [hz]; exact hagenda
    have hzw : z.watch = s.watch := by rw [hz]; rfl
    have hfinish : (z.setWatch w).finish = z.setWatch w :=
      State.finish_of_noted hza (by rw [hpages, hz]; exact hnoted)
    have henter : (z.setWatch w).enterHeld i = (z.setWatch (z.watch.heldBy i e z.watch.register)).handing [.holdEntered] := by
      rw [hwatch, ← hzw]
      exact State.enterHeld_eq hza (by rw [hzw]; exact he) _
    show (((s.popped .portC r).setWatch { s.watch with entries := s.watch.entries.set i e.counted }).routeFrame _ .portC f).holdAfter i = _
    rw [← hwatch, hroute, State.holdAfter]
    dsimp only
    rw [hfinish, if_neg (by rw [hwatch]; show ¬ s.watch.isHeld = true; rw [hfree]; exact Bool.false_ne_true), henter, hz]
    rfl

end

/-- Settles O58: an operator command is dropped, and the four blocks take the hold one after another (`takesEach_holding`). -/
theorem holdStopsTheBlocks : Obligations.HoldStopsTheBlocks := by
  unfold Obligations.HoldStopsTheBlocks
  intro s
  refine ⟨fun a args hs hheld hargs c hc => ?_, ?_⟩
  · have drops {c : Instr} {effect : State → State} (hw : c.wellFormed = true)
        (hexec : exec c s = run c (fun s => s.unlessHeld effect) s) :
        exec c s = .next (s.setWatch { s.watch with heldDropped := min (s.watch.heldDropped + 1) 65535 }) := by
      rw [hexec]
      exact run_settled hw (if_pos hheld) (hs.congr rfl rfl rfl rfl)
    have hwf : argsWellFormed args = true := decide_eq_true hargs
    simp only [List.mem_cons, List.not_mem_nil, or_false] at hc
    rcases hc with rfl | rfl | rfl | rfl | rfl | rfl | rfl | rfl | rfl | rfl
    · exact drops hwf (exec_start a args s)
    · exact drops rfl (exec_pauseArm a s)
    · exact drops rfl (exec_continueArm a s)
    · exact drops rfl (exec_abortArm a s)
    · exact drops rfl (exec_manualEnter a s)
    · exact drops rfl (exec_manualExit a s)
    · exact drops rfl (exec_faultClear a s)
    · exact drops hwf (exec_packNow args s)
    · exact drops hwf (exec_discharged args s)
    · exact drops hwf (exec_chamberFaultClear args s)
  · intro f r i e miss register arm chamber unit holdArm holdChamber hagenda hnoted hgroups hfree hfifo he harmed hsrc hid honly hkind
      hquiet hrest harm hchamber hunit hholdArm hholdChamber
    obtain rfl : arm = Arm.onHold := funext harm
    obtain rfl : chamber = Chamber.onHold := funext hchamber
    obtain rfl : unit = WeighUnit.stalled := funext hunit
    have hhit : e.hit (some .portC) f = true := by
      unfold WatchEntry.hit
      rw [harmed, decide_eq_true hid]
      rcases hsrc with h | h <;> rw [h] <;> rfl
    have htake := State.takeFrame_of_hold hagenda hnoted hfree hfifo he (Watch.hits_of_only he hhit honly) hkind
    obtain ⟨u, hu⟩ : ∃ u, u = s.heldBy r i e miss register := ⟨_, rfl⟩
    rw [← hu] at htake
    have hua : u.agenda = [] := by rw [hu]; exact hagenda
    have hun : u.mgmt.noted = u.allPages := by
      have hpages : u.allPages = s.allPages := by
        rw [hu]
        exact State.allPages_setPort (p := .portC) (x := (s.heldBy r i e miss register).ports.fst) rfl
      rw [hpages, hu]
      exact hnoted
    obtain ⟨l, k, hperm, htaken⟩ := u.takeHold_spec
    obtain ⟨l', k', hlen', hl', hstalled⟩ := u.holdWeighing_spec
    obtain ⟨q, hq⟩ : ∃ q : State, q = { u.weighStalled with freeCount := k } := ⟨_, rfl⟩
    have hhold : u.takeHold = q.handing (l ++ l') := by
      rw [htaken, hstalled, hq, hua]
      rfl
    have hlen : (l ++ l').length ≤ 10 := by
      rw [List.length_append, hperm.length_eq, List.length_append]
      have : (if u.quietRaised then [Ev.quietChanged .chamber0, .quietChanged .chamber1] else []).length ≤ 2 := by
        split <;> decide
      have : holdTakers.length = 4 := rfl
      omega
    have hP : Holding (l ++ l') q := by
      have hchambers (hr : u.quietRaised = true) (c : ChamberId) :
          (q.chamber c).state = .faulted ∨ (q.chamber c).state = .idle ∧ (q.chamber c).pending = false := by
        have hsame : q.chamber c = s.chamber c := by rw [hq, hu]; rfl
        rw [hsame]
        refine hrest.resolve_left (fun hno => ?_) c
        have hraised : s.quietRaised = true := by rw [hu] at hr; exact hr
        have hnone : s.quietRaised = false := by
          unfold State.quietRaised
          rw [show s.weigh.fst.quiet = false from hno .armA, show s.weigh.snd.quiet = false from hno .armB]
          rfl
        rw [hnone] at hraised
        exact Bool.false_ne_true hraised
      obtain ⟨harms, hpackers, -⟩ := hgroups
      refine ⟨?_, fun a => ?_, fun a => ?_, fun c => ?_, fun x hx => ?_⟩
      · rw [hq, hu]
        show ∀ x ∈ s.watch.entries.set i { e.counted with armed := false }, x.armed = false
        intro x hx
        obtain ⟨j, hj⟩ := List.mem_iff_getElem?.1 hx
        by_cases hji : i = j
        · subst hji
          rw [getElem?_set_of_some he] at hj
          cases hj
          rfl
        · rw [List.getElem?_set_ne hji] at hj
          exact honly j x (Ne.symm hji) hj
      · rw [hq]
        cases a
        · exact WeighUnit.stalled_isOpen u.weigh.fst
        · exact WeighUnit.stalled_isOpen u.weigh.snd
      · rw [hq, hu]
        intro hd
        exact of_decide_eq_true ((harms a).symm.trans hd)
      · rw [hq, hu]
        intro hd
        exact of_decide_eq_true ((hpackers c).symm.trans hd)
      · rcases List.mem_append.1 hx with hx | hx
        · rcases List.mem_append.1 (hperm.mem_iff.1 hx) with hx | hx
          · cases hr : u.quietRaised with
            | false => rw [hr] at hx; cases hx
            | true =>
              rw [hr] at hx
              simp only [if_true, List.mem_cons, List.not_mem_nil, or_false] at hx
              exact .inr (.inr ⟨hx.elim (fun h => ⟨_, h⟩) fun h => ⟨_, h⟩, hchambers hr⟩)
          · simp only [holdTakers, List.mem_cons, List.not_mem_nil, or_false] at hx
            rcases hx with rfl | rfl | rfl | rfl
            · exact .inl ⟨_, rfl⟩
            · exact .inl ⟨_, rfl⟩
            · exact .inr (.inl ⟨_, rfl⟩)
            · exact .inr (.inl ⟨_, rfl⟩)
        · obtain ⟨hc, hr⟩ := hl' x hx
          exact .inr (.inr ⟨hc, hchambers hr⟩)
    have takes := takesEach_holding hholdArm hholdChamber
    have hqa : q.agenda = [] := by rw [hq]; exact hua
    obtain ⟨w, hw, hnotes⟩ := State.notePages_handing (State.unwatched_of_disarmed hP.disarmed) hqa (l ++ l')
    obtain ⟨n, hn⟩ := cascadeBudget_eq
    have hend := takes.drain (n := n + 15) (by omega) hP hqa (State.unwatched_of_disarmed hP.disarmed) hw
    have hfin : (s.takeFrame .portC).finish = drain (n + 15) (w.handing (l ++ l')) := by
      have hhead : (u.handing [.holdEntered]).takeHead .holdEntered [] = w.handing (l ++ l') := by
        unfold State.takeHead
        rw [show ({ u.handing [.holdEntered] with agenda := [] } : State) = u from State.handing_self hua, State.postAll_nil, ← hnotes,
          ← hhold]
        rfl
      rw [htake, State.finish, State.notePages_of_noted (s := u.handing [.holdEntered]) hun, hn]
      exact (drain_cons (s := u.handing [.holdEntered]) rfl (n + 15)).trans (by rw [hhead])
    refine ⟨drain (n + 15) (w.handing (l ++ l')), k, (l ++ l').filterMap (holdAct holdArm holdChamber), ?_, ?_, ?_⟩
    · rw [exec_frameTaken, run_wellFormed rfl, hfin]
    · have hnothing : l'.filterMap (holdAct holdArm holdChamber) = [] := by
        refine List.filterMap_eq_nil_iff.2 fun x hx => ?_
        obtain ⟨⟨c, rfl⟩, -⟩ := hl' x hx
        rfl
      rw [List.filterMap_append, hnothing, List.append_nil]
      refine (hperm.filterMap _).trans (List.Perm.of_eq ?_)
      cases u.quietRaised <;> rfl
    · rw [hq, hu] at hend
      exact hend

end Sys2Proof.Machine
end

section
/-! The statement on POWER_ON and WARM_RESET. -/

namespace Sys2Proof.Machine

section
variable {s t u : State} {p : Nat}

/-! ## The first frames (R78) -/

/-- The state of every block afresh, each chamber's load and pending request judged (R121). -/
def State.started (s : State) : State := (s.volatileFresh.judgeAtStart .chamber0).judgeAtStart .chamber1

theorem State.calm_started (s : State) : s.started.calm := by
  refine ⟨rfl, fun e he => ?_⟩
  obtain ⟨d, -, rfl⟩ := List.mem_map.1 (show e ∈ s.watch.entries.map (fun e => { e with armed := false, hits := 0 }) from he)
  rfl

/-- The first frame of a valve group. -/
def State.firstFrame (s : State) (c : Consumer) : Frame := s.commandFrame c .fresh

/-- Every valve group has placed its first frame, and port B's transmitter has taken the first. -/
def State.framed (s : State) : State :=
  { s with
    ports := { s.ports with snd := { Port.fresh s.cfg.bitRate.snd 4 with
      transmitter := some (.fromSlot 0 (s.firstFrame .armA)),
      slots := [none, some (s.firstFrame .armB), some (s.firstFrame .packer0), some (s.firstFrame .packer1)] } },
    valves :=
      { q0 := { ValveGroup.fresh with alive := 1 }, q1 := { ValveGroup.fresh with alive := 1 },
        q2 := { ValveGroup.fresh with alive := 1 }, q3 := { ValveGroup.fresh with alive := 1 } } }

theorem Port.fresh_offerSlots (n : Nat) (f0 f1 f2 f3 : Frame) :
    ((((Port.fresh n 4).offerSlot 0 f0).offerSlot 1 f1).offerSlot 2 f2).offerSlot 3 f3 =
      { Port.fresh n 4 with transmitter := some (.fromSlot 0 f0), slots := [none, some f1, some f2, some f3] } := rfl

theorem State.firstFrames_eq (h : s.calm) :
    s.firstFrames =
      (((s.placed .armA (s.valve .armA)).placed .armB (s.valve .armB)).placed .packer0 (s.valve .packer0)).placed .packer1
        (s.valve .packer1) := by
  have hA := (State.calm_placed .armA (s.valve .armA)).2 h
  have hB := (State.calm_placed .armB (s.valve .armB)).2 hA
  have h0 := (State.calm_placed .packer0 (s.valve .packer0)).2 hB
  unfold State.firstFrames
  rw [State.placeValveFrame_eq h]
  rw [State.placeValveFrame_eq hA, show (s.placed .armA (s.valve .armA)).valve .armB = s.valve .armB from rfl]
  rw [State.placeValveFrame_eq hB]
  rw [show ((s.placed .armA (s.valve .armA)).placed .armB (s.valve .armB)).valve .packer0 = s.valve .packer0 from rfl]
  rw [State.placeValveFrame_eq h0]
  rfl

theorem State.firstFrames_of_fresh (h : s.calm) (hv : s.valves = { q0 := .fresh, q1 := .fresh, q2 := .fresh, q3 := .fresh })
    (hp : s.ports.snd = .fresh s.cfg.bitRate.snd 4) : s.firstFrames = s.framed := by
  have hvalve (c : Consumer) : s.valve c = .fresh := by
    unfold State.valve; rw [hv]; cases c <;> rfl
  rw [State.firstFrames_eq h]
  simp only [hvalve]
  unfold State.framed
  rw [← Port.fresh_offerSlots, ← hp]
  simp only [State.placed, hv]
  rfl

/-! ## The first pages (R167) -/

/-- The frame of a status page as it stands. -/
def State.pageFrame (s : State) (p : Nat) : QFrame :=
  { frame := { id := s.cfg.statBase + BitVec.ofNat 29 p, data := s.pageBytes p }, cls := 2, origin := .status, ofReset := false }

/-- The first `n` pages are sent, over fresh page timers and an empty queue. -/
def State.pagesSent (s : State) (n : Nat) : State :=
  { s with
    ports := { s.ports with snd := { s.ports.snd with queue := (List.range n).map s.pageFrame } },
    mgmt := { s.mgmt with
      pages := List.replicate n { period := .start 500, spacing := .start 50, mark := false } ++ List.replicate (4 - n) .fresh,
      noted := (List.range n).map s.pageBytes ++ List.replicate (4 - n) [] } }

theorem State.pageBytes_of_allPages (h : t.allPages = s.allPages) (hp : p < 4) : t.pageBytes p = s.pageBytes p :=
  (List.map_inj_left.1 h) p (List.mem_range.2 hp)

theorem State.allPages_pagesSent (n : Nat) : (s.pagesSent n).allPages = s.allPages := State.allPages_sent rfl rfl

/-- A frame joins behind those of its own class. -/
theorem joinQueue_of_le {q : QFrame} {l : List QFrame} (h : ∀ e ∈ l, e.cls ≤ q.cls) : joinQueue q l = l ++ [q] := by
  unfold joinQueue
  rw [List.takeWhile_eq_self_iff.2 fun e he => decide_eq_true (h e he), List.dropWhile_eq_nil_iff.2 fun e he => decide_eq_true (h e he)]

theorem set_append_replicate {α : Type} (l : List α) (x y : α) (k : Nat) :
    (l ++ List.replicate (k + 1) x).set l.length y = l ++ [y] ++ List.replicate k x := by
  rw [List.set_append_right _ _ (Nat.le_refl _), Nat.sub_self, List.append_assoc]
  rfl

theorem State.sendPage_pagesSent (hw : s.unwatched) (hon : s.ports.snd.state ≠ .off) (hbusy : s.ports.snd.transmitter ≠ none)
    (hp : p < 4) : (s.pagesSent p).sendPage p = s.pagesSent (p + 1) := by
  have hbytes : (s.pagesSent p).pageBytes p = s.pageBytes p := State.pageBytes_of_allPages (State.allPages_pagesSent p) hp
  obtain ⟨k, hk, hk'⟩ : ∃ k, 4 - p = k + 1 ∧ 4 - (p + 1) = k := ⟨3 - p, by omega, by omega⟩
  have hroom : (s.pagesSent p).ports.snd.queue.length < 48 := by
    show ((List.range p).map s.pageFrame).length < 48
    rw [List.length_map, List.length_range]
    omega
  have hqueue : Port.choose { (s.pagesSent p).ports.snd with queue := joinQueue (s.pageFrame p) (s.pagesSent p).ports.snd.queue } =
      (s.pagesSent (p + 1)).ports.snd := by
    have hjoin : joinQueue (s.pageFrame p) ((List.range p).map s.pageFrame) = (List.range (p + 1)).map s.pageFrame := by
      rw [joinQueue_of_le, List.range_succ, List.map_append]
      · rfl
      · intro e he
        obtain ⟨q, -, rfl⟩ := List.mem_map.1 he
        exact Nat.le_refl _
    have hchoose (l : List QFrame) : Port.choose { s.ports.snd with queue := l } = { s.ports.snd with queue := l } :=
      Port.choose_of_busy (.inr hbusy)
    refine (hchoose _).trans ?_
    show ({ s.ports.snd with queue := joinQueue (s.pageFrame p) ((List.range p).map s.pageFrame) } : Port) = _
    rw [hjoin]
    rfl
  have hpages : (s.pagesSent p).mgmt.pages.set p { period := .start 500, spacing := .start 50, mark := false } =
      (s.pagesSent (p + 1)).mgmt.pages := by
    have h := set_append_replicate (List.replicate p ({ period := .start 500, spacing := .start 50, mark := false } : PageTimers))
      .fresh { period := .start 500, spacing := .start 50, mark := false } k
    rw [List.length_replicate, ← List.replicate_succ'] at h
    show (List.replicate p _ ++ List.replicate (4 - p) _).set p _ = List.replicate (p + 1) _ ++ List.replicate (4 - (p + 1)) _
    rw [hk, hk']
    exact h
  have hnoted : (s.pagesSent p).mgmt.noted.set p (s.pageBytes p) = (s.pagesSent (p + 1)).mgmt.noted := by
    have h := set_append_replicate ((List.range p).map s.pageBytes) [] (s.pageBytes p) k
    rw [List.length_map, List.length_range] at h
    show ((List.range p).map s.pageBytes ++ List.replicate (4 - p) []).set p (s.pageBytes p) =
      (List.range (p + 1)).map s.pageBytes ++ List.replicate (4 - (p + 1)) []
    rw [hk, hk', List.range_succ, List.map_append]
    exact h
  have parts {x : Port} {l : List PageTimers} {n : List (List Byte)} (hx : x = (s.pagesSent (p + 1)).ports.snd)
      (hl : l = (s.pagesSent (p + 1)).mgmt.pages) (hn : n = (s.pagesSent (p + 1)).mgmt.noted) :
      ({ s.pagesSent p with
        ports := { (s.pagesSent p).ports with snd := x },
        mgmt := { (s.pagesSent p).mgmt with pages := l, noted := n } } : State) = s.pagesSent (p + 1) := by
    subst hx hl hn; rfl
  rw [State.sendPage_eq (s := s.pagesSent p) hw hon hroom, hbytes, State.pageSent, hbytes]
  exact parts hqueue hpages hnoted

/-- The first pages are sent over the first frames. -/
theorem State.firstPages_eq (hw : s.unwatched) (hon : s.ports.snd.state ≠ .off) (hbusy : s.ports.snd.transmitter ≠ none)
    (hq : s.ports.snd.queue = []) (hm : s.mgmt = .fresh) : s.firstPages = s.pagesSent 4 := by
  have h0 : s = s.pagesSent 0 := by
    unfold State.pagesSent
    rw [List.range_zero, List.map_nil, List.map_nil, ← hq, hm]
    exact congrArg (fun m => { s with mgmt := m }) hm
  unfold State.firstPages
  conv => lhs; rw [h0]
  rw [State.sendPage_pagesSent hw hon hbusy (by decide), State.sendPage_pagesSent hw hon hbusy (by decide),
    State.sendPage_pagesSent hw hon hbusy (by decide), State.sendPage_pagesSent hw hon hbusy (by decide)]

/-! ## The scan and the chambers (R121, R149, R150) -/

theorem LogRecord.scanned_eq (r : LogRecord) :
    r.scanned = if r.closed = true then { r with damaged := r.damaged || decide (r.check ≠ r.crc) } else r.interrupted := by
  have hword : decide (r.checkWord ≠ r.check) = decide (r.check ≠ r.crc) := decide_eq_decide.2 ne_comm
  unfold LogRecord.scanned
  rw [hword]

/-- A Compaction Controller at a start, over its retained counts. -/
def Chamber.atStart (k : ChamberSettings) (x : Chamber) : Chamber :=
  { x.restarted with load := loadOf k x.fill x.mass, pending := decide (k.autoPack ≤ x.tipCounter) }

theorem State.started_eq (s : State) :
    s.started = { s.volatileFresh with
      chambers :=
        { fst := s.chambers.fst.atStart (s.chamberSettings .chamber0), snd := s.chambers.snd.atStart (s.chamberSettings .chamber1) } } :=
  rfl

/-- What both starts make of the state. -/
theorem State.startUp_eq (s : State) : s.startUp = s.started.framed.pagesSent 4 := by
  have hframes : s.started.firstFrames = s.started.framed := State.firstFrames_of_fresh s.calm_started rfl rfl
  show s.started.firstFrames.firstPages = _
  rw [hframes]
  exact State.firstPages_eq (by exact s.calm_started.unwatched) nofun nofun rfl rfl

theorem State.allPages_startUp (s : State) : s.startUp.allPages = s.started.framed.allPages := by
  rw [State.startUp_eq, State.allPages_pagesSent]

end

/-- Settles O4: the blocks begin afresh, then the frames are placed (`State.firstFrames_of_fresh`) and the pages sent
(`State.firstPages_eq`). -/
theorem resetKeepsRetainedState : Obligations.ResetKeepsRetainedState := by
  unfold Obligations.ResetKeepsRetainedState
  intro s c cal first chamber scan hscan hc hfirst hchamber
  obtain ⟨v, hv⟩ : ∃ v : State, v = { s with cal } := ⟨_, rfl⟩
  have hexec : exec c s = .next v.startUp := by
    rcases hc with ⟨rfl, rfl⟩ | ⟨rfl, rfl⟩ | ⟨rfl, rfl⟩ <;> rw [hv] <;> rfl
  have hscan' : scan = LogRecord.scanned := funext fun r => (hscan r).trans r.scanned_eq.symm
  have hfirst' (k : Consumer) : v.started.firstFrame k = first k := by rw [hfirst, hv]; rfl
  have hchamber' (k : ChamberId) : (v.chamber k).atStart (v.chamberSettings k) = chamber k := by rw [hchamber, hv]; rfl
  refine ⟨v.startUp, hexec, ?_⟩
  obtain ⟨t, ht⟩ : ∃ t, t = v.startUp := ⟨_, rfl⟩
  have hall : v.started.framed.allPages = t.allPages := by rw [ht]; exact v.allPages_startUp.symm
  have hqueue : (List.range 4).map v.started.framed.pageFrame = (List.range 4).map (fun p =>
      { frame := { id := s.cfg.statBase + BitVec.ofNat 29 p, data := t.pageBytes p }, cls := 2, origin := .status,
        ofReset := false }) := by
    refine List.map_congr_left fun p hp => ?_
    rw [State.pageFrame, State.pageBytes_of_allPages hall (List.mem_range.1 hp), hv]
    rfl
  rw [← ht]
  have hparts : t = v.started.framed.pagesSent 4 := ht.trans v.startUp_eq
  have hnoted : (List.range 4).map v.started.framed.pageBytes ++ List.replicate (4 - 4) [] = t.allPages :=
    (List.append_nil _).trans hall
  refine hparts.trans ?_
  unfold State.pagesSent
  rw [hqueue, hnoted]
  unfold State.framed
  simp only [hfirst']
  rw [State.started_eq, show v.chambers.fst.atStart (v.chamberSettings .chamber0) = chamber .chamber0 from hchamber' .chamber0,
    show v.chambers.snd.atStart (v.chamberSettings .chamber1) = chamber .chamber1 from hchamber' .chamber1, hscan', hv]
  rfl

end Sys2Proof.Machine
end

section
/-! SUPPORT. Rounding half away from zero and the bits of joined bytes, with the statements on scaling and on a signal entry's frame
(R23 to R26). -/

namespace Sys2Proof.Machine

/-! ## Rounding half away from zero (00_scope.md section 4.3) -/

section
variable {q x y : Int}

theorem Rounds.neg (h : Rounds q x y) : Rounds (-q) (-x) y := by
  obtain ⟨hnear, htie⟩ := h
  have hdist : 2 * (-q * y - -x) = -(2 * (q * y - x)) := by ring
  unfold Rounds
  rw [hdist, abs_neg, abs_neg, neg_mul, abs_neg]
  exact ⟨hnear, htie⟩

theorem roundDiv_of_nonneg (hx : 0 ≤ x) : roundDiv x y = (2 * x + y) / (2 * y) := if_pos hx

theorem roundDiv_of_neg (hx : x < 0) : roundDiv x y = -roundDiv (-x) y := by
  rw [roundDiv_of_nonneg (x := -x) (by omega)]
  exact if_neg (by omega)

/-- A numerator of 0 or more lies above `q * y - y / 2`, so a tie is rounded up. -/
theorem roundDiv_rounds_of_nonneg (hy : 0 < y) (hx : 0 ≤ x) : Rounds (roundDiv x y) x y := by
  rw [roundDiv_of_nonneg hx]
  obtain ⟨q, hq⟩ : ∃ q, q = (2 * x + y) / (2 * y) := ⟨_, rfl⟩
  have hlow : 2 * (q * y) ≤ 2 * x + y := by
    rw [hq, show ∀ q : Int, 2 * (q * y) = q * (2 * y) from fun q => by ring]
    exact Int.ediv_mul_le _ (by omega)
  have hhigh : 2 * x + y < 2 * (q * y) + 2 * y := by
    rw [hq, show ∀ q : Int, 2 * (q * y) + 2 * y = (q + 1) * (2 * y) from fun q => by ring]
    exact Int.lt_ediv_add_one_mul_self _ (by omega)
  rw [← hq]
  refine ⟨abs_le.2 ⟨by omega, by omega⟩, fun htie => ?_⟩
  have hup : 2 * (q * y - x) = y := by rcases eq_or_eq_neg_of_abs_eq htie with h | h <;> omega
  rw [abs_of_nonneg hx, abs_of_nonneg (by omega)]
  omega

theorem roundDiv_rounds (hy : 0 < y) (x : Int) : Rounds (roundDiv x y) x y := by
  rcases le_or_gt 0 x with hx | hx
  · exact roundDiv_rounds_of_nonneg hy hx
  · have h := (roundDiv_rounds_of_nonneg hy (x := -x) (by omega)).neg
    rwa [neg_neg, ← roundDiv_of_neg hx] at h

end

/-- Settles O18: the model's divider rounds (`roundDiv_rounds`), and a field of one bit or more is read by its sign. -/
theorem scalingRoundsHalfAway : Obligations.ScalingRoundsHalfAway := by
  unfold Obligations.ScalingRoundsHalfAway
  intro e f hden hwidth _
  have rounds (raw : Int) := roundDiv_rounds (y := e.denominator) (by omega) (raw * e.numerator)
  refine ⟨_, _, rfl, ?_, (rounds _).1, (rounds _).2⟩
  cases hs : e.isSigned with
  | false => simp
  | true => simp [twosComplement, show e.width ≠ 0 by omega]

/-! ## The bits of joined bytes (R23) -/

theorem joinLsb_cons (b : Byte) (l : List Byte) : joinLsb (b :: l) = 2 ^ 8 * joinLsb l + b.toNat := by
  unfold joinLsb joinMsb
  rw [List.reverse_cons, List.foldl_append, List.foldl_cons, List.foldl_nil, Nat.mul_comm]
  rfl

theorem testBit_joinLsb (l : List Byte) (i : Nat) : (joinLsb l).testBit i = (l.getD (i / 8) 0).getLsbD (i % 8) := by
  induction l generalizing i with
  | nil => simp [joinLsb, joinMsb]
  | cons b l ih =>
    rw [joinLsb_cons, Nat.testBit_two_pow_mul_add _ b.isLt]
    by_cases hi : i < 8
    · rw [if_pos hi, Nat.div_eq_of_lt hi, Nat.mod_eq_of_lt hi]
      rfl
    · have hdiv : i / 8 = (i - 8) / 8 + 1 := by omega
      have hmod : i % 8 = (i - 8) % 8 := by omega
      rw [if_neg hi, ih, hdiv, hmod]
      rfl

/-- Counted down from the top, the bits of bytes joined with the first as the most significant. -/
theorem testBit_joinMsb (l : List Byte) {k : Nat} (hk : k < 8 * l.length) :
    (joinMsb l).testBit (8 * l.length - 1 - k) = (l.getD (k / 8) 0).getLsbD (7 - k % 8) := by
  have hdiv : (8 * l.length - 1 - k) / 8 = l.length - 1 - k / 8 := by omega
  have hmod : (8 * l.length - 1 - k) % 8 = 7 - k % 8 := by omega
  have hback : l.length - 1 - (l.length - 1 - k / 8) = k / 8 := by omega
  rw [show joinMsb l = joinLsb l.reverse by rw [joinLsb, List.reverse_reverse], testBit_joinLsb, hdiv, hmod,
    List.getD_eq_getElem?_getD, List.getElem?_reverse (by omega), hback, List.getD_eq_getElem?_getD]

/-! ## A signal entry and a frame (R23 to R26) -/

section
variable {e : SignalEntry} {f : Frame} {j : Nat}

/-- The bytes of the frame that the field touches. -/
def SignalEntry.span (e : SignalEntry) (f : Frame) : List Byte := (f.data.drop e.spanStart).take e.spanLength

theorem SignalEntry.rawField_of_lsbFirst (h : e.order = .lsbFirst) :
    e.rawField f = joinLsb (e.span f) / 2 ^ (e.startBit % 8) % 2 ^ e.width := by
  unfold SignalEntry.rawField
  rw [h]
  rfl

theorem SignalEntry.rawField_of_msbFirst (h : e.order = .msbFirst) :
    e.rawField f = joinMsb (e.span f) / 2 ^ (8 * e.spanLength - e.width - e.startBit % 8) % 2 ^ e.width := by
  unfold SignalEntry.rawField
  rw [h]
  rfl

theorem SignalEntry.rawField_lt (e : SignalEntry) (f : Frame) : e.rawField f < 2 ^ e.width := by
  cases h : e.order
  · rw [SignalEntry.rawField_of_lsbFirst h]; exact Nat.mod_lt _ (Nat.two_pow_pos _)
  · rw [SignalEntry.rawField_of_msbFirst h]; exact Nat.mod_lt _ (Nat.two_pow_pos _)

/-- The byte of bit `j` of the field is the span's as it is the frame's. -/
theorem SignalEntry.span_getD (hj : j < e.width) :
    (e.span f).getD ((e.startBit % 8 + j) / 8) 0 = f.byte ((e.startBit + j) / 8) := by
  have hin : (e.startBit % 8 + j) / 8 < e.spanLength := by unfold SignalEntry.spanLength; omega
  have hplace : e.spanStart + (e.startBit % 8 + j) / 8 = (e.startBit + j) / 8 := by unfold SignalEntry.spanStart; omega
  rw [SignalEntry.span, Frame.byte, List.getD_eq_getElem?_getD, List.getElem?_take_of_lt hin, List.getElem?_drop, hplace,
    List.getD_eq_getElem?_getD]

theorem SignalEntry.span_length (hw : 1 ≤ e.width) (hfit : e.startBit + e.width ≤ 8 * f.data.length) :
    (e.span f).length = e.spanLength := by
  unfold SignalEntry.span SignalEntry.spanStart SignalEntry.spanLength
  rw [List.length_take, List.length_drop]
  omega

theorem SignalEntry.testBit_rawField_lsbFirst (h : e.order = .lsbFirst) (hj : j < e.width) :
    (e.rawField f).testBit j = (f.byte ((e.startBit + j) / 8)).getLsbD ((e.startBit + j) % 8) := by
  have hmod : (e.startBit % 8 + j) % 8 = (e.startBit + j) % 8 := by omega
  rw [SignalEntry.rawField_of_lsbFirst h, Nat.testBit_mod_two_pow, decide_eq_true hj, Bool.true_and, Nat.testBit_div_two_pow,
    testBit_joinLsb, Nat.add_comm j, SignalEntry.span_getD hj, hmod]

theorem SignalEntry.testBit_rawField_msbFirst (h : e.order = .msbFirst) (hj : j < e.width)
    (hfit : e.startBit + e.width ≤ 8 * f.data.length) :
    (e.rawField f).testBit (e.width - 1 - j) = (f.byte ((e.startBit + j) / 8)).getLsbD (7 - (e.startBit + j) % 8) := by
  have hlen := SignalEntry.span_length (by omega) hfit
  have hcover : e.startBit % 8 + e.width ≤ 8 * e.spanLength := by unfold SignalEntry.spanLength; omega
  have hbit : e.width - 1 - j + (8 * e.spanLength - e.width - e.startBit % 8) =
      8 * (e.span f).length - 1 - (e.startBit % 8 + j) := by omega
  have hmod : (e.startBit % 8 + j) % 8 = (e.startBit + j) % 8 := by omega
  rw [SignalEntry.rawField_of_msbFirst h, Nat.testBit_mod_two_pow, decide_eq_true (by omega), Bool.true_and,
    Nat.testBit_div_two_pow, hbit, testBit_joinMsb _ (by omega), SignalEntry.span_getD hj, hmod]

theorem SignalEntry.isShort_eq_false (h : e.startBit + e.width ≤ 8 * f.data.length) : e.isShort f = false :=
  decide_eq_false (Nat.not_lt.2 h)

theorem SignalEntry.take_of_short (h : 8 * f.data.length < e.startBit + e.width) :
    e.take f = { e with shortFrames := satInc e.shortFrames } := if_pos (decide_eq_true h)

theorem SignalEntry.take_of_fits (h : e.startBit + e.width ≤ 8 * f.data.length) :
    e.take f =
      { e with
        value := some (e.clampValue (e.scaled f)), clamped := e.adjusted (e.scaled f), state := .fresh, timer := e.freshTimer } :=
  if_neg (by rw [SignalEntry.isShort_eq_false h]; exact Bool.false_ne_true)

/-- Raising, then lowering, with the value that each adjustment met (R25). -/
theorem SignalEntry.clamp_eq {v x y : Int} (hx : x = if v < e.clampLow then e.clampLow else v)
    (hy : y = if e.clampHigh < x then e.clampHigh else x) :
    e.clampValue v = y ∧ e.adjusted v = decide (x ≠ v ∨ y ≠ x) := by
  have hraised : max v e.clampLow = x := by rw [hx]; split <;> omega
  refine ⟨?_, ?_⟩
  · rw [SignalEntry.clampValue, hraised, hy]
    split <;> omega
  · rw [SignalEntry.adjusted, hraised, ← Bool.decide_or, decide_eq_decide]
    have hraise : v < e.clampLow ↔ x ≠ v := by rw [hx]; split <;> omega
    have hlower : e.clampHigh < x ↔ y ≠ x := by rw [hy]; split <;> omega
    rw [hraise, hlower]

end

/-- Settles O19: `SignalEntry.clamp_eq` for the adjustments, `testBit_joinLsb` and `testBit_joinMsb` for the raw field. -/
theorem signalEntryTakesAFrame : Obligations.SignalEntryTakesAFrame := by
  unfold Obligations.SignalEntryTakesAFrame
  intro e f
  refine ⟨SignalEntry.take_of_short, fun hfit => ⟨fun x y hx hy => ?_, fun _ => ?_⟩⟩
  · obtain ⟨hvalue, hclamped⟩ := SignalEntry.clamp_eq hx hy
    have htake := SignalEntry.take_of_fits hfit
    rw [hvalue, hclamped] at htake
    refine ⟨htake, fun hcross => ?_⟩
    have hlow : e.clampLow ≤ x := by rw [hx]; split <;> omega
    have hhigh : y = e.clampHigh := hy.trans (if_pos (by omega))
    rw [htake]
    exact ⟨hhigh, decide_eq_true (.inr (by omega))⟩
  · exact ⟨e.rawField_lt f, fun j hj =>
      ⟨fun h => SignalEntry.testBit_rawField_lsbFirst h hj, fun h => SignalEntry.testBit_rawField_msbFirst h hj hfit⟩⟩

end Sys2Proof.Machine
end

section
/-! SUPPORT. The result of a term and the state of a group after evaluation, with their statements (R33 to R37). -/

namespace Sys2Proof.Machine

/-! ## Terms (R33, R34) -/

section
variable {t : TermEntry} {signals : List SignalEntry} {e : SignalEntry} {v a : Int}

/-- A value is available exactly in FRESH and HELD (Table 2-2). -/
theorem SignalEntry.available_eq_some : e.available = some v ↔ (e.state = .fresh ∨ e.state = .held) ∧ e.value = some v := by
  unfold SignalEntry.available
  cases e.state <;> simp

theorem TermEntry.evaluate_result (ht : t.valid = true) (he : signals[t.signal]? = some e) (hv : e.available = some v) :
    (t.evaluate signals).result = t.compare v := by
  unfold TermEntry.evaluate
  simp only [ht, he, Option.bind_some, hv, Bool.true_and]

theorem shareBit_iff : shareBit v a = true ↔ ∃ i, (BitVec.ofInt 32 v).getLsbD i = true ∧ (BitVec.ofInt 32 a).getLsbD i = true := by
  unfold shareBit
  rw [decide_eq_true_iff, Ne, ← not_iff_not, not_not]
  constructor
  · rintro h ⟨i, hv, ha⟩
    have := congrArg (fun b => b.getLsbD i) h
    simp [hv, ha] at this
  · refine fun h => BitVec.eq_of_getLsbD_eq fun i _ => ?_
    rw [BitVec.getLsbD_and, show (0 : BitVec 32).getLsbD i = false from BitVec.getLsbD_zero, ← Bool.not_eq_true, Bool.and_eq_true]
    exact fun hboth => h ⟨i, hboth⟩

theorem shareBit_zero (v : Int) : shareBit v 0 = false := by
  unfold shareBit
  simp

end

/-- Settles O20: row by row of the table, from either previous result. -/
theorem termComparisonTable : Obligations.TermComparisonTable := by
  unfold Obligations.TermComparisonTable
  intro t signals e v ht he hst hv
  rw [TermEntry.evaluate_result ht he (SignalEntry.available_eq_some.2 ⟨hst, hv⟩)]
  unfold TermEntry.compare
  refine ⟨fun hres => ?_, fun hres => ?_, fun hres hc hcross => ?_, fun hc hzero => ?_⟩
  · cases t.comparison <;> simp [hres, shareBit_iff]
  · cases t.comparison with
    | bitSet =>
      dsimp only
      rw [← Bool.not_eq_true, shareBit_iff, not_exists]
    | inBand => simp only [hres, if_true, Bool.not_eq_false', decide_eq_true_iff, gt_iff_lt]
    | _ => simp [hres]
  · rw [hc]
    dsimp only
    rw [hres]
    exact decide_eq_false (by omega)
  · rw [hc, hzero]
    exact shareBit_zero v

/-! ## Groups (R36, R37) -/

section
variable {s : State} {g : GroupEntry} {r : GroupRef}

theorem State.refSatisfied_iff :
    s.refSatisfied r = true ↔ ∃ t e v, s.terms[r.term]? = some t ∧ t.valid = true ∧ s.signals[t.signal]? = some e ∧
      (e.state = .fresh ∨ e.state = .held) ∧ e.value = some v ∧ (t.result = true ↔ r.negate = false) := by
  have sense (x n : Bool) : (if n = true then !x else x) = true ↔ (x = true ↔ n = false) := by cases x <;> cases n <;> decide
  unfold State.refSatisfied
  cases ht : s.terms[r.term]? with
  | none => simp
  | some t =>
    simp only [Bool.and_eq_true, Option.isSome_iff_exists, Option.bind_eq_some_iff, SignalEntry.available_eq_some, sense,
      Option.some.injEq]
    constructor
    · rintro ⟨⟨hvalid, v, e, he, hst, hv⟩, hsense⟩
      exact ⟨t, e, v, rfl, hvalid, he, hst, hv, hsense⟩
    · rintro ⟨_, e, v, rfl, hvalid, he, hst, hv, hsense⟩
      exact ⟨⟨hvalid, v, e, he, hst, hv⟩, hsense⟩

theorem State.groupSatisfied_iff :
    s.groupSatisfied g = true ↔ (∃ r, some r ∈ g.refs) ∧ ∀ r, some r ∈ g.refs → s.refSatisfied r = true := by
  have hmem (r : GroupRef) : r ∈ g.refs.filterMap id ↔ some r ∈ g.refs := by simp
  unfold State.groupSatisfied
  dsimp only
  simp only [Bool.and_eq_true, Bool.not_eq_true', List.isEmpty_eq_false_iff_exists_mem, List.all_eq_true, hmem]

theorem State.evaluateGroup_of_satisfied (hv : g.valid = true) (hs : s.groupSatisfied g = true) :
    s.evaluateGroup g =
      if g.state = .isFalse then
        if g.trueDelay = 0 then { g with state := .isTrue, timer := .stopped }
        else { g with state := .pending, timer := .start g.trueDelay }
      else g := by
  unfold State.evaluateGroup
  rw [hv, hs]
  cases g.state <;> rfl

theorem State.evaluateGroup_of_not (h : ¬ (g.valid = true ∧ s.groupSatisfied g = true)) :
    s.evaluateGroup g = { g with state := .isFalse, timer := .stopped } :=
  if_neg (by rwa [Bool.and_eq_true])

end

/-- Settles O21: `State.groupSatisfied_iff` decides between the two ways a group goes. -/
theorem groupsFollowTheirTerms : Obligations.GroupsFollowTheirTerms := by
  unfold Obligations.GroupsFollowTheirTerms
  intro s g ok hok
  have href (r : GroupRef) : s.refSatisfied r = true ↔ ok r := State.refSatisfied_iff.trans (hok r).symm
  have hsat : s.groupSatisfied g = true ↔ (∃ r, some r ∈ g.refs) ∧ ∀ r, some r ∈ g.refs → ok r := by
    simp only [State.groupSatisfied_iff, href]
  refine ⟨fun hvalid hsome hall => ?_, fun hout => State.evaluateGroup_of_not fun ⟨hvalid, h⟩ => ?_⟩
  · have heval := State.evaluateGroup_of_satisfied hvalid (hsat.2 ⟨hsome, hall⟩)
    refine ⟨fun hst hd => ?_, fun hst hd => ?_, fun hst => ?_⟩
    · rw [heval, if_pos hst, if_pos hd]
    · rw [heval, if_pos hst, if_neg (by omega)]
      rfl
    · rw [heval, if_neg hst]
  · obtain ⟨⟨r, hr⟩, hall⟩ := hsat.1 h
    rcases hout with hinvalid | hnone | ⟨r', hr', hbad⟩
    · rw [hinvalid] at hvalid; cases hvalid
    · exact hnone r hr
    · exact hbad (hall r' hr')

end Sys2Proof.Machine
end

section
/-! SUPPORT. Events of the Signal and Interlock Units where no reader is bound, with the statements on their timers and on a frame won
for SIGNALS (R22, R26, R31, R37, R38). -/

namespace Sys2Proof.Machine

/-! ## Events that nobody reads (R28, R38) -/

section
variable {s t : State} {e : SignalEntry} {f : Frame} {i g : Nat}

/-- With no role bound an updated entry moves no role more than a changed one. -/
theorem State.movedRoles_of_unread (ht : t.unread) (l : List Nat) : State.movedRoles s t l = State.movedRoles s t [] := by
  unfold State.movedRoles State.roleMoved State.roleUpdated
  simp only [State.boundEntry_of_unread ht]

/-- With nobody bound and no arm RUNNING an update is handed to nobody. -/
theorem State.settleFrom_updated_of_unread (hs : s.unread) (ht : t.unread) (l : List Nat) : State.settleFrom s l t = t := by
  have hnone : State.settleFrom s l t = State.settleFrom s [] t := by
    unfold State.settleFrom
    rw [State.movedRoles_of_unread ht l]
  rw [hnone, State.settleFrom_of_unread hs ht]

theorem modify_eq_set_of_some {α : Type} {l : List α} {i : Nat} {x : α} (h : l[i]? = some x) (k : α → α) :
    l.modify i k = l.set i (k x) := by
  rw [List.modify_eq_set_getElem?, h]
  rfl

theorem State.changeSignal_of_unread (hs : s.unread) (he : s.signals[i]? = some e) (k : SignalEntry → SignalEntry) :
    s.changeSignal i k = { s with signals := s.signals.set i (k e) }.evaluateOn [i] := by
  unfold State.changeSignal
  rw [modify_eq_set_of_some he]
  exact State.settleFrom_of_unread hs hs

/-! ## Timers (R26, R31, R37) -/

theorem State.freshnessExpired_eq (he : s.signals[i]? = some e) :
    s.freshnessExpired i =
      if e.valid = true ∧ e.state = .fresh ∧ e.timer.running = true then s.changeSignal i SignalEntry.limitReached else s := by
  unfold State.freshnessExpired
  rw [he]

theorem State.holdExpired_eq (he : s.signals[i]? = some e) :
    s.holdExpired i =
      if e.valid = true ∧ e.state = .held ∧ e.timer.running = true then s.changeSignal i SignalEntry.holdPassed else s := by
  unfold State.holdExpired
  rw [he]

theorem State.delayExpired_eq {d : GroupEntry} (hd : s.groups[g]? = some d) :
    s.delayExpired (g + 1) =
      if d.valid = true ∧ d.state = .pending ∧ d.timer.running = true then
        State.settleFrom s [] { s with groups := s.groups.set g d.delayRun }
      else s := by
  unfold State.delayExpired
  rw [Nat.add_sub_cancel, hd]
  dsimp only
  rw [modify_eq_set_of_some hd]
  simp only [Nat.succ_ne_zero, ne_eq, not_false_eq_true, true_and]

/-- The pages show whether the route clock is set, not its count. -/
theorem State.settled.setClock (h : s.settled) {c : Clock} (hc : c.isSet = s.clock.isSet) : ({ s with clock := c } : State).settled := by
  refine h.congr rfl rfl rfl ?_
  have h2 : ({ s with clock := c } : State).page2 = s.page2 := by
    unfold State.page2
    rw [hc]
    rfl
  show [_, _, _, _] = [_, _, _, _]
  simp only [State.pageBytes, h2]
  rfl

/-! ## A frame won for SIGNALS (R22) -/

theorem State.routeFrame_of_won {p : PortId} {d : RouteEntry} (hw : winner s.routes p f = some i) (hd : s.routes[i]? = some d)
    (held : Bool) : s.routeFrame held p f = (s.setRoute i d.counted).routeAction held i d p f := by
  unfold State.routeFrame
  rw [hw]
  dsimp only
  rw [hd]
  dsimp only
  rw [State.countRoute_eq hd]
  rfl

theorem State.updatedBy_eq (s : State) (i : Nat) (f : Frame) :
    s.updatedBy i f = (List.range s.signals.length).filter (fun k =>
      match s.signals[k]? with
      | some d => d.valid && decide (d.source = i) && decide (d.startBit + d.width ≤ 8 * f.data.length)
      | none => false) := by
  unfold State.updatedBy State.signalsFrom
  rw [List.filter_filter]
  refine List.filter_congr fun k _ => ?_
  cases s.signals[k]? with
  | none => rfl
  | some d =>
    have hfits : (!d.isShort f) = decide (d.startBit + d.width ≤ 8 * f.data.length) := by
      unfold SignalEntry.isShort Frame.dlc
      rw [← decide_not, decide_eq_decide, Nat.not_lt]
    dsimp only
    rw [hfits, Bool.and_comm]

theorem State.takeSignals_eq (s : State) (i : Nat) (f : Frame) :
    s.takeSignals i f =
      { s with signals := s.signals.map (fun d : SignalEntry => if d.valid = true ∧ d.source = i then d.take f else d) } := by
  unfold State.takeSignals
  simp only [Bool.and_eq_true, decide_eq_true_iff]

theorem State.signalFrame_of_unread (hs : s.unread) (i : Nat) (f : Frame) :
    s.signalFrame i f = (s.takeSignals i f).evaluateOn (s.updatedBy i f) :=
  State.settleFrom_updated_of_unread hs (by exact hs) _

end

/-- Settles O22: each timer's own act, which nobody reads (`State.settleFrom_of_unread`). -/
theorem signalUnitTimersExpire : Obligations.SignalUnitTimersExpire := by
  unfold Obligations.SignalUnitTimersExpire
  intro s
  refine ⟨fun i e hi he => ?_, fun hs hrun => ?_, fun hs hstop => ?_, fun g e hg he => ?_⟩
  · have hwf : decide (i < 64) = true := decide_eq_true hi
    rw [exec_freshnessLimitExpiry, exec_holdTimeExpiry]
    refine ⟨fun hcalm hread hvalid hrun => ?_, fun hs hnot => ?_, fun hs hnot => ?_⟩
    · have limit (hst : e.state = .fresh) {x : SignalEntry} (hx : e.limitReached = x) :
          s.freshnessExpired i = { s with signals := s.signals.set i x }.evaluateOn [i] := by
        rw [State.freshnessExpired_eq he, if_pos ⟨hvalid, hst, hrun⟩, State.changeSignal_of_unread hread he, hx]
      refine ⟨fun hst hhold => ?_, fun hst hhold => ?_, fun hst => ?_⟩
      · exact run_afterPages hwf (limit hst (if_neg (by omega))) hcalm
      · exact run_afterPages hwf (limit hst (if_pos hhold)) hcalm
      · refine run_afterPages hwf ?_ hcalm
        rw [State.holdExpired_eq he, if_pos ⟨hvalid, hst, hrun⟩, State.changeSignal_of_unread hread he]
        rfl
    · refine run_settled hwf ((State.freshnessExpired_eq he).trans (if_neg ?_)) hs
      rintro ⟨hvalid, hst, hrun⟩
      simp [hvalid, hst, hrun] at hnot
    · refine run_settled hwf ((State.holdExpired_eq he).trans (if_neg ?_)) hs
      rintro ⟨hvalid, hst, hrun⟩
      simp [hvalid, hst, hrun] at hnot
  · rw [exec_oneSecondTimerExpiry]
    exact run_settled rfl (if_pos hrun) (hs.setClock rfl)
  · rw [exec_oneSecondTimerExpiry]
    exact run_settled rfl (if_neg (by rw [hstop]; exact Bool.false_ne_true)) hs
  · have hwf : decide (1 ≤ g + 1 ∧ g + 1 ≤ 32) = true := decide_eq_true ⟨by omega, by omega⟩
    rw [exec_trueDelayExpiry]
    refine ⟨fun hcalm hread hvalid hst hrun => ?_, fun hs hnot => ?_⟩
    · refine run_afterPages hwf ?_ hcalm
      rw [State.delayExpired_eq he, if_pos ⟨hvalid, hst, hrun⟩]
      exact State.settleFrom_of_unread hread hread
    · refine run_settled hwf ((State.delayExpired_eq he).trans (if_neg ?_)) hs
      rintro ⟨hvalid, hst, hrun⟩
      simp [hvalid, hst, hrun] at hnot

/-- Settles O23: the frame goes to the Router, which delivers it by `State.signalFrame`. -/
theorem signalFrameUpdatesItsEntries : Obligations.SignalFrameUpdatesItsEntries := by
  unfold Obligations.SignalFrameUpdatesItsEntries
  intro s f r i e hcalm hread hfifo hwin he hact hcons hgate
  obtain ⟨u, hu⟩ : ∃ u, u = (s.popped .portC r).setRoute i e.counted := ⟨_, rfl⟩
  have huread : u.unread := by rw [hu]; exact hread
  have htake : s.takeFrame .portC = (u.takeSignals i f).evaluateOn (u.updatedBy i f) := by
    rw [State.takeFrame_eq_routeFrame (p := .portC) hcalm hfifo nofun, State.routeFrame_of_won (s := s.popped .portC r) hwin he, ← hu,
      State.routeAction_of_consume hact (by rw [hcons]; exact fun h => nomatch h.2) (State.gateOpen_iff.2 (.inl hgate)), hcons]
    exact State.signalFrame_of_unread huread i f
  rw [State.takeSignals_eq, State.updatedBy_eq, hu] at htake
  exact exec_frameTaken_afterPages htake hcalm

end Sys2Proof.Machine
end

section
/-! SUPPORT. A valve group drives exactly while its owner moves (R79), and every operation of the model keeps it so: one lemma for each
operation, the two that turn a group (`State.setArmState`, `State.setChamberState`) being the only ones that have something to show. -/

namespace Sys2Proof.Machine

/-! ## The invariant, group by group -/

section
variable {s t : State}

/-- The owner of a valve group is in a moving state (R79). -/
def State.ownerMoves (s : State) : Consumer → Bool
  | .armA => (s.arm .armA).state.drives
  | .armB => (s.arm .armB).state.drives
  | .packer0 => (s.chamber .chamber0).state.isPhase
  | .packer1 => (s.chamber .chamber1).state.isPhase

/-- A group is DRIVING exactly when it should, and still when STOPPED. -/
def ValveGroup.obeys (g : ValveGroup) (moves : Bool) : Prop := g.driving = moves ∧ (g.driving = false → g.still)

theorem ArmState.drives_eq (k : ArmState) : k.drives = decide (k = .running ∨ k = .manual) := by cases k <;> rfl
theorem ChamberState.isPhase_eq (k : ChamberState) : k.isPhase = decide (k = .sweep ∨ k = .pack ∨ k = .ret) := by
  cases k <;> rfl

theorem State.ownerMoves_arm (a : ArmId) : s.ownerMoves a.consumer = (s.arm a).state.drives := by cases a <;> rfl
theorem State.ownerMoves_chamber (c : ChamberId) : s.ownerMoves c.consumer = (s.chamber c).state.isPhase := by cases c <;> rfl

theorem State.follows_iff : s.groupsFollowOwners ↔ ∀ c, (s.valve c).obeys (s.ownerMoves c) := by
  unfold State.groupsFollowOwners
  simp only [← ArmState.drives_eq, ← ChamberState.isPhase_eq, ← State.ownerMoves_arm, ← State.ownerMoves_chamber]
  refine ⟨fun ⟨ha, hc, hstill⟩ c => ⟨?_, hstill c⟩, fun h => ⟨fun a => (h _).1, fun c => (h _).1, fun c => (h c).2⟩⟩
  cases c
  · exact ha .armA
  · exact ha .armB
  · exact hc .chamber0
  · exact hc .chamber1

/-- What `obeys` reads of a group. -/
def ValveGroup.drive (g : ValveGroup) : Bool × FnSet × List Nat × List Nat := (g.driving, g.functions, g.targets, g.levels)

theorem ValveGroup.obeys_congr {g k : ValveGroup} (h : k.drive = g.drive) (b : Bool) : k.obeys b ↔ g.obeys b := by
  simp only [ValveGroup.drive, Prod.mk.injEq] at h
  obtain ⟨h1, h2, h3, h4⟩ := h
  rw [ValveGroup.obeys, ValveGroup.obeys, ValveGroup.still, ValveGroup.still, h1, h2, h3, h4]

theorem State.follows_congr (hm : ∀ c, t.ownerMoves c = s.ownerMoves c) (hv : ∀ c, (t.valve c).drive = (s.valve c).drive) :
    t.groupsFollowOwners ↔ s.groupsFollowOwners := by
  simp only [State.follows_iff, hm, ValveGroup.obeys_congr (hv _)]

/-- One group and its owner are turned together; the others stand. -/
theorem State.follows_of_turned (h : s.groupsFollowOwners) (c : Consumer) (hm : ∀ d, d ≠ c → t.ownerMoves d = s.ownerMoves d)
    (hv : ∀ d, d ≠ c → t.valve d = s.valve d) (hc : (t.valve c).obeys (t.ownerMoves c)) : t.groupsFollowOwners := by
  refine State.follows_iff.2 fun d => ?_
  by_cases hd : d = c
  · subst hd; exact hc
  · rw [hm d hd, hv d hd]; exact State.follows_iff.1 h d

theorem State.ownerMoves_setArm_ne (a : ArmId) (x : Arm) {d : Consumer} (hd : d ≠ a.consumer) :
    (s.setArm a x).ownerMoves d = s.ownerMoves d := by
  cases a <;> cases d <;> first | rfl | exact absurd rfl hd

theorem State.ownerMoves_setChamber_ne (c : ChamberId) (x : Chamber) {d : Consumer} (hd : d ≠ c.consumer) :
    (s.setChamber c x).ownerMoves d = s.ownerMoves d := by
  cases c <;> cases d <;> first | rfl | exact absurd rfl hd

end

/-! ## Updates -/

section
variable {s : State}

@[simp] theorem State.follows_setArm {a : ArmId} {x : Arm} (hx : x.state = (s.arm a).state) :
    (s.setArm a x).groupsFollowOwners ↔ s.groupsFollowOwners := by
  refine State.follows_congr (fun d => ?_) fun _ => rfl
  by_cases hd : d = a.consumer
  · subst hd
    rw [State.ownerMoves_arm, State.ownerMoves_arm, State.setArm_arm, hx]
  · exact State.ownerMoves_setArm_ne a x hd

@[simp] theorem State.follows_setChamber {c : ChamberId} {x : Chamber} (hx : x.state = (s.chamber c).state) :
    (s.setChamber c x).groupsFollowOwners ↔ s.groupsFollowOwners := by
  refine State.follows_congr (fun d => ?_) fun _ => rfl
  by_cases hd : d = c.consumer
  · subst hd
    rw [State.ownerMoves_chamber, State.ownerMoves_chamber, State.setChamber_chamber, hx]
  · exact State.ownerMoves_setChamber_ne c x hd

/-- A group that is DRIVING may be given anything but its drive state. -/
theorem State.follows_setValve_of_driving {c : Consumer} {x : ValveGroup} (hd :
    (s.valve c).driving = true) (hx : x.driving = true) :
    (s.setValve c x).groupsFollowOwners ↔ s.groupsFollowOwners := by
  rw [State.follows_iff, State.follows_iff]
  refine forall_congr' fun d => ?_
  by_cases hdc : d = c
  · subst hdc
    simp only [State.setValve_valve, ValveGroup.obeys, hx, hd, Bool.true_eq_false, false_imp_iff]
    rfl
  · rw [State.setValve_valve_ne s hdc]
    rfl

@[simp] theorem State.follows_setPort (p : PortId) (x : Port) : (s.setPort p x).groupsFollowOwners ↔ s.groupsFollowOwners := .rfl
@[simp] theorem State.follows_setWeighUnit (a : ArmId) (x : WeighUnit) :
    (s.setWeighUnit a x).groupsFollowOwners ↔ s.groupsFollowOwners := .rfl
@[simp] theorem State.follows_setLog (x : LiftLog) : (s.setLog x).groupsFollowOwners ↔ s.groupsFollowOwners := .rfl
@[simp] theorem State.follows_setWatch (x : Watch) : (s.setWatch x).groupsFollowOwners ↔ s.groupsFollowOwners := .rfl
@[simp] theorem State.follows_setMgmt (x : Management) : (s.setMgmt x).groupsFollowOwners ↔ s.groupsFollowOwners := .rfl
@[simp] theorem State.follows_setArbiter (x : Arbiter) : (s.setArbiter x).groupsFollowOwners ↔ s.groupsFollowOwners := .rfl
@[simp] theorem State.follows_post (e : Ev) : (s.post e).groupsFollowOwners ↔ s.groupsFollowOwners := .rfl
@[simp] theorem State.follows_postAll (es : List Ev) : (s.postAll es).groupsFollowOwners ↔ s.groupsFollowOwners := .rfl
@[simp] theorem State.follows_postNext (e : Ev) : (s.postNext e).groupsFollowOwners ↔ s.groupsFollowOwners := .rfl
@[simp] theorem State.follows_postFirst (es : List Ev) : (s.postFirst es).groupsFollowOwners ↔ s.groupsFollowOwners := .rfl
@[simp] theorem State.follows_touchPage (page : Nat) : (s.touchPage page).groupsFollowOwners ↔ s.groupsFollowOwners := .rfl
@[simp] theorem State.follows_resetReplyLeft : s.resetReplyLeft.groupsFollowOwners ↔ s.groupsFollowOwners := .rfl
@[simp] theorem State.follows_freePick (n : Nat) : (s.freePick n).1.groupsFollowOwners ↔ s.groupsFollowOwners := .rfl
@[simp] theorem State.follows_eitherFirst : s.eitherFirst.1.groupsFollowOwners ↔ s.groupsFollowOwners := .rfl

@[simp] theorem State.follows_permuted {α : Type} (n : Nat) (l : List α) :
    (State.permuted n l s).1.groupsFollowOwners ↔ s.groupsFollowOwners := by
  obtain ⟨-, k, hk⟩ := State.permuted_spec n l s
  rw [hk]
  rfl

@[simp] theorem State.follows_inAnyOrder {α : Type} (l : List α) :
    (s.inAnyOrder l).1.groupsFollowOwners ↔ s.groupsFollowOwners := State.follows_permuted _ l

@[simp] theorem State.follows_putAnywhere {α : Type} (x : α) (l : List α) :
    (s.putAnywhere x l).1.groupsFollowOwners ↔ s.groupsFollowOwners := by
  cases l <;> exact .rfl

@[simp] theorem State.follows_postAnyOrder (es : List Ev) : (s.postAnyOrder es).groupsFollowOwners ↔ s.groupsFollowOwners := by
  simp [State.postAnyOrder]
@[simp] theorem State.follows_agenda (l : List Ev) :
    ({ s with agenda := l } : State).groupsFollowOwners ↔ s.groupsFollowOwners := .rfl
@[simp] theorem State.follows_routes (l : List RouteEntry) :
    ({ s with routes := l } : State).groupsFollowOwners ↔ s.groupsFollowOwners := .rfl
@[simp] theorem State.follows_signals (l : List SignalEntry) :
    ({ s with signals := l } : State).groupsFollowOwners ↔ s.groupsFollowOwners := .rfl
@[simp] theorem State.follows_terms (l : List TermEntry) :
    ({ s with terms := l } : State).groupsFollowOwners ↔ s.groupsFollowOwners := .rfl
@[simp] theorem State.follows_groups (l : List GroupEntry) :
    ({ s with groups := l } : State).groupsFollowOwners ↔ s.groupsFollowOwners := .rfl
@[simp] theorem State.follows_clock (x : Clock) :
    ({ s with clock := x } : State).groupsFollowOwners ↔ s.groupsFollowOwners := .rfl
@[simp] theorem State.follows_chbCmdBad (n : Nat) :
    ({ s with chbCmdBad := n } : State).groupsFollowOwners ↔ s.groupsFollowOwners := .rfl

@[simp] theorem State.follows_setBins (x : BinUnit) : (s.setBins x).groupsFollowOwners ↔ s.groupsFollowOwners := .rfl

end

/-! ## Ports and Frame Watch -/

section
variable {s : State}

@[simp] theorem State.follows_noteLeft (l : List QFrame) : (s.noteLeft l).groupsFollowOwners ↔ s.groupsFollowOwners := by
  unfold State.noteLeft; split <;> simp

@[simp] theorem State.follows_offerQueue (p : PortId) (q : QFrame) :
    (s.offerQueue p q).groupsFollowOwners ↔ s.groupsFollowOwners := by
  simp [State.offerQueue]

@[simp] theorem State.follows_offerSlot (p : PortId) (n : Nat) (f : Frame) :
    (s.offerSlot p n f).groupsFollowOwners ↔ s.groupsFollowOwners := by
  simp [State.offerSlot]

@[simp] theorem State.follows_restartPort (p : PortId) :
    (s.restartPort p).groupsFollowOwners ↔ s.groupsFollowOwners := by simp [State.restartPort]

@[simp] theorem State.follows_forwardFrame (p : PortId) (cls : Nat) (f : Frame) :
    (s.forwardFrame p cls f).groupsFollowOwners ↔ s.groupsFollowOwners := by
  unfold State.forwardFrame; dsimp only; split <;> simp

@[simp] theorem State.follows_mirrorReport (i : Nat) (own : Bool) (p : PortId) (f : Frame) :
    (s.mirrorReport i own p f).groupsFollowOwners ↔ s.groupsFollowOwners := by
  unfold State.mirrorReport; dsimp only; split <;> simp

theorem State.follows_mirrors (own : Bool) (p : PortId) (f : Frame) (l : List Nat) :
    (l.foldl (fun s i => s.mirrorReport i own p f) s).groupsFollowOwners ↔ s.groupsFollowOwners := by
  induction l generalizing s with
  | nil => exact .rfl
  | cons i r ih => rw [List.foldl_cons, ih, State.follows_mirrorReport]

@[simp] theorem State.follows_watchTest (r : Option PortId) (p : PortId) (f : Frame) :
    (s.watchTest r p f).1.groupsFollowOwners ↔ s.groupsFollowOwners := by
  unfold State.watchTest; dsimp only
  repeat' split
  all_goals simp [State.follows_mirrors]

@[simp] theorem State.follows_enterHeld (i : Nat) :
    (s.enterHeld i).groupsFollowOwners ↔ s.groupsFollowOwners := by simp [State.enterHeld]

@[simp] theorem State.follows_placeOwn (d : OwnDest) (f : Frame) :
    (s.placeOwn d f).groupsFollowOwners ↔ s.groupsFollowOwners := by
  cases d <;> simp [State.placeOwn]

@[simp] theorem State.follows_offerOwn (d : OwnDest) (f : Frame) :
    (s.offerOwn d f).groupsFollowOwners ↔ s.groupsFollowOwners := by
  rw [← State.follows_watchTest (s := s) none d.port f]
  unfold State.offerOwn
  repeat' split
  all_goals simp [*]

/-! ## Valves and supply -/

@[simp] theorem State.follows_placeValveFrame (c : Consumer) :
    (s.placeValveFrame c).groupsFollowOwners ↔ s.groupsFollowOwners := by
  unfold State.placeValveFrame; dsimp only
  rw [State.follows_offerOwn]
  exact State.follows_congr (fun _ => rfl) (fun d => by cases c <;> cases d <;> rfl)

@[simp] theorem State.follows_setTargets (c : Consumer) (set : FnSet) (l : List Nat) (ramp : Nat) :
    (s.setTargets c set l ramp).groupsFollowOwners ↔ s.groupsFollowOwners := by
  unfold State.setTargets; dsimp only
  split
  · rename_i hd
    split
    · exact State.follows_setValve_of_driving hd hd
    · rw [State.follows_placeValveFrame]
      exact State.follows_setValve_of_driving hd hd
  · rfl

/-- The tick ramps a DRIVING group alone (R81). -/
@[simp] theorem State.follows_tickGroup (c : Consumer) : (s.tickGroup c).groupsFollowOwners ↔ s.groupsFollowOwners := by
  have k : (s.setValve c (s.valve c).ramped).groupsFollowOwners ↔ s.groupsFollowOwners := by
    unfold ValveGroup.ramped
    split
    · rename_i hd
      exact State.follows_setValve_of_driving hd hd
    · rw [State.setValve_self]
  unfold State.tickGroup; dsimp only
  split
  · rw [State.follows_placeValveFrame, k]
  · exact k

@[simp] theorem State.follows_stillFrame (c : Consumer) : (s.stillFrame c).groupsFollowOwners ↔ s.groupsFollowOwners := by
  unfold State.stillFrame; repeat' split
  all_goals simp

@[simp] theorem State.follows_offerHighIdle (on : Bool) : (s.offerHighIdle on).groupsFollowOwners ↔ s.groupsFollowOwners := by
  simp [State.offerHighIdle]

@[simp] theorem State.follows_judgeHighIdle : s.judgeHighIdle.groupsFollowOwners ↔ s.groupsFollowOwners := by
  unfold State.judgeHighIdle; dsimp only; split <;> simp

@[simp] theorem State.follows_claim (c : Consumer) (d : Nat) : (s.claim c d).1.groupsFollowOwners ↔ s.groupsFollowOwners := by
  simp [State.claim]

@[simp] theorem State.follows_claimNone (c : Consumer) :
    (s.claimNone c).groupsFollowOwners ↔ s.groupsFollowOwners := by simp [State.claimNone]

@[simp] theorem State.follows_putCapacity (n : Nat) : (s.putCapacity n).groupsFollowOwners ↔ s.groupsFollowOwners := by
  unfold State.putCapacity; dsimp only; split <;> simp

/-! ## Signals -/

@[simp] theorem State.follows_evaluateTermsOn (l : List Nat) :
    (s.evaluateTermsOn l).groupsFollowOwners ↔ s.groupsFollowOwners := .rfl
@[simp] theorem State.follows_evaluateGroupsOn (p : Nat → Bool) :
    (s.evaluateGroupsOn p).groupsFollowOwners ↔ s.groupsFollowOwners := .rfl
@[simp] theorem State.follows_evaluateOn (l : List Nat) : (s.evaluateOn l).groupsFollowOwners ↔ s.groupsFollowOwners := .rfl
@[simp] theorem State.follows_takeSignals (i : Nat) (f : Frame) :
    (s.takeSignals i f).groupsFollowOwners ↔ s.groupsFollowOwners := .rfl

/-! ## Log and bins -/

@[simp] theorem State.follows_openLift (a : ArmId) (n : Nat) : (s.openLift a n).groupsFollowOwners ↔ s.groupsFollowOwners := .rfl
@[simp] theorem State.follows_enterRecord (n : Nat) (f : LogRecord → LogRecord) :
    (s.enterRecord n f).groupsFollowOwners ↔ s.groupsFollowOwners := .rfl
@[simp] theorem State.follows_placeClosed (r : LogRecord) : (s.placeClosed r).groupsFollowOwners ↔ s.groupsFollowOwners := .rfl

@[simp] theorem State.follows_writeManualTip (a : ArmId) (t : Option Nat) (b : Option BinData) :
    (s.writeManualTip a t b).groupsFollowOwners ↔ s.groupsFollowOwners := by
  unfold State.writeManualTip; split <;> simp

@[simp] theorem State.follows_setRequest (a : ArmId) (q : DecisionRequest) :
    (s.setRequest a q).groupsFollowOwners ↔ s.groupsFollowOwners := .rfl
@[simp] theorem State.follows_dropLastTag (a : ArmId) :
    (s.dropLastTag a).groupsFollowOwners ↔ s.groupsFollowOwners := State.follows_setArm rfl

@[simp] theorem State.follows_decideByTag (a : ArmId) (t : Nat) :
    (s.decideByTag a t).groupsFollowOwners ↔ s.groupsFollowOwners := by
  simp [State.decideByTag]

@[simp] theorem State.follows_decideNoTag (a : ArmId) : (s.decideNoTag a).groupsFollowOwners ↔ s.groupsFollowOwners := by
  simp [State.decideNoTag]

@[simp] theorem State.follows_lookUp (a : ArmId) (t : Nat) : (s.lookUp a t).groupsFollowOwners ↔ s.groupsFollowOwners := by
  unfold State.lookUp; dsimp only; split <;> simp

@[simp] theorem State.follows_askDecision (a : ArmId) (n k : Nat) :
    (s.askDecision a n k).groupsFollowOwners ↔ s.groupsFollowOwners := by
  unfold State.askDecision; dsimp only; split <;> simp

@[simp] theorem State.follows_withdrawRequest (a : ArmId) :
    (s.withdrawRequest a).groupsFollowOwners ↔ s.groupsFollowOwners := .rfl

@[simp] theorem State.follows_tagTimeLimit (a : ArmId) : (s.tagTimeLimit a).groupsFollowOwners ↔ s.groupsFollowOwners := by
  unfold State.tagTimeLimit; split <;> simp

@[simp] theorem State.follows_tagFrame (a : ArmId) (f : Frame) : (s.tagFrame a f).groupsFollowOwners ↔ s.groupsFollowOwners := by
  unfold State.tagFrame; dsimp only; repeat' split
  · exact .rfl
  · exact .rfl
  · rw [State.follows_lookUp]
    exact State.follows_setArm (s := s.setBins _) rfl
  · exact State.follows_setArm (s := s.setBins _) rfl

@[simp] theorem State.follows_serveManualTip (a : ArmId) (t : Nat) :
    (s.serveManualTip a t).groupsFollowOwners ↔ s.groupsFollowOwners := by
  simp [State.serveManualTip]

@[simp] theorem State.follows_manualTip (a : ArmId) : (s.manualTip a).groupsFollowOwners ↔ s.groupsFollowOwners := by
  unfold State.manualTip; dsimp only; repeat' split
  all_goals simp

@[simp] theorem State.follows_serveClose (t n : Nat) (b : Bool) :
    (s.serveClose t n b).groupsFollowOwners ↔ s.groupsFollowOwners := by
  unfold State.serveClose; split <;> exact .rfl

@[simp] theorem State.follows_closeBin (t n : Nat) (b : Bool) : (s.closeBin t n b).groupsFollowOwners ↔ s.groupsFollowOwners := by
  unfold State.closeBin; split
  · rfl
  · simp

@[simp] theorem State.follows_startUpdate (c : BinChange) : (s.startUpdate c).groupsFollowOwners ↔ s.groupsFollowOwners := .rfl

@[simp] theorem State.follows_serveLookup (w : WaitingLookup) : (s.serveLookup w).groupsFollowOwners ↔ s.groupsFollowOwners := by
  cases w with
  | decision a => simp only [State.serveLookup]; split <;> simp
  | manualTip a t => simp [State.serveLookup]
  | closeUpdate t n b => simp [State.serveLookup]

@[simp] theorem State.follows_serveLookups : s.serveLookups.groupsFollowOwners ↔ s.groupsFollowOwners := by
  unfold State.serveLookups; dsimp only
  rw [State.follows_postAnyOrder]
  rfl

/-! ## Weighing -/

@[simp] theorem State.follows_putWeigh (a : ArmId) (u : WeighUnit) :
    (s.putWeigh a u).groupsFollowOwners ↔ s.groupsFollowOwners := by
  unfold State.putWeigh; dsimp only; split <;> simp

@[simp] theorem State.follows_openWindow (a : ArmId) (k : WeighState) (n : Nat) :
    (s.openWindow a k n).groupsFollowOwners ↔ s.groupsFollowOwners := by
  simp [State.openWindow]

@[simp] theorem State.follows_collectGross (a : ArmId) (n : Nat) :
    (s.collectGross a n).groupsFollowOwners ↔ s.groupsFollowOwners := by
  unfold State.collectGross; split <;> simp

@[simp] theorem State.follows_collectTare (a : ArmId) (n : Nat) :
    (s.collectTare a n).groupsFollowOwners ↔ s.groupsFollowOwners := by
  unfold State.collectTare; split <;> simp

@[simp] theorem State.follows_stallWindow (a : ArmId) : (s.stallWindow a).groupsFollowOwners ↔ s.groupsFollowOwners := by
  unfold State.stallWindow; dsimp only; split <;> simp

@[simp] theorem State.follows_weighToIdle (a : ArmId) :
    (s.weighToIdle a).groupsFollowOwners ↔ s.groupsFollowOwners := by simp [State.weighToIdle]

@[simp] theorem State.follows_endWindow (a : ArmId) (v u w : Bool) :
    (s.endWindow a v u w).groupsFollowOwners ↔ s.groupsFollowOwners := by
  unfold State.endWindow; dsimp only; split <;> simp

@[simp] theorem State.follows_sampleFrame (a : ArmId) (f : Frame) :
    (s.sampleFrame a f).groupsFollowOwners ↔ s.groupsFollowOwners := by
  unfold State.sampleFrame; dsimp only; repeat' split
  all_goals simp

@[simp] theorem State.follows_gapExpired (a : ArmId) : (s.gapExpired a).groupsFollowOwners ↔ s.groupsFollowOwners := by
  unfold State.gapExpired; dsimp only; split <;> simp

@[simp] theorem State.follows_weighTimeLimit (a : ArmId) : (s.weighTimeLimit a).groupsFollowOwners ↔ s.groupsFollowOwners := by
  simp [State.weighTimeLimit]

@[simp] theorem State.follows_disturb (a : ArmId) : (s.disturb a).groupsFollowOwners ↔ s.groupsFollowOwners := by
  unfold State.disturb; dsimp only; split <;> simp

/-! ## Chambers -/

/-- The owner of a group has entered a moving state, and drives it. -/
theorem State.driveGroup_follows {t : State} {c : Consumer} (h : s.groupsFollowOwners)
    (hm : ∀ d, d ≠ c → t.ownerMoves d = s.ownerMoves d) (hv : ∀ d, t.valve d = s.valve d) (hc : t.ownerMoves c = true) :
    (t.driveGroup c).groupsFollowOwners := by
  refine State.follows_of_turned h c (fun d hd => hm d hd) (fun d hd => (State.setValve_valve_ne t hd _).trans (hv d)) ?_
  unfold State.driveGroup
  rw [State.setValve_valve]
  exact ⟨hc.symm, nofun⟩

/-- The owner of a group has left its moving states, and stops it. -/
theorem State.stopGroup_follows {t : State} {c : Consumer} (h : s.groupsFollowOwners)
    (hm : ∀ d, d ≠ c → t.ownerMoves d = s.ownerMoves d) (hv : ∀ d, t.valve d = s.valve d) (hc : t.ownerMoves c = false) :
    (t.stopGroup c).groupsFollowOwners := by
  unfold State.stopGroup; dsimp only
  split
  · rw [State.follows_placeValveFrame]
    refine State.follows_of_turned h c (fun d hd => hm d hd) (fun d hd => (State.setValve_valve_ne t hd _).trans (hv d)) ?_
    rw [State.setValve_valve]
    exact ⟨hc.symm, fun _ => ⟨rfl, rfl, rfl⟩⟩
  · rename_i hd
    refine State.follows_of_turned h c hm (fun d _ => hv d) ?_
    have hstopped : (t.valve c).driving = false := Bool.eq_false_iff.2 hd
    refine ⟨hstopped.trans hc.symm, ?_⟩
    rw [hv]
    exact (State.follows_iff.1 h c).2

/-- A controller's change of state turns its group with it (R79). -/
@[simp] theorem State.setChamberState_follows (h : s.groupsFollowOwners) (c : ChamberId) (k : ChamberState) :
    (s.setChamberState c k).groupsFollowOwners := by
  unfold State.setChamberState; dsimp only
  cases hk : k.isPhase
  · refine State.stopGroup_follows h (fun d hd => State.ownerMoves_setChamber_ne c _ hd) (fun _ => rfl) ?_
    rw [State.ownerMoves_chamber, State.setChamber_chamber]
    exact hk
  · refine State.driveGroup_follows h (fun d hd => State.ownerMoves_setChamber_ne c _ hd) (fun _ => rfl) ?_
    rw [State.ownerMoves_chamber, State.setChamber_chamber]
    exact hk

@[simp] theorem State.follows_judgeLoad (c : ChamberId) : (s.judgeLoad c).groupsFollowOwners ↔ s.groupsFollowOwners := by
  unfold State.judgeLoad; dsimp only; repeat' split
  all_goals simp

@[simp] theorem State.follows_addMass (c : ChamberId) (n : Nat) : (s.addMass c n).groupsFollowOwners ↔ s.groupsFollowOwners := by
  simp [State.addMass]

@[simp] theorem State.enterPhase_follows (h : s.groupsFollowOwners) (c : ChamberId) :
    (s.enterPhase c).groupsFollowOwners := by simp [State.enterPhase, h]

@[simp] theorem State.nextPhase_follows (h : s.groupsFollowOwners) (c : ChamberId) (p : StrokePhase) :
    (s.nextPhase c p).groupsFollowOwners := by
  simp [State.nextPhase, h]

@[simp] theorem State.claimStroke_follows (h : s.groupsFollowOwners) (c : ChamberId) : (s.claimStroke c).groupsFollowOwners := by
  rw [← State.follows_claim c.consumer (s.chamberSettings c).strokeDemand] at h
  unfold State.claimStroke
  split <;> rename_i e <;> rw [e] at h <;> simp only at h <;> simp [h]

@[simp] theorem State.strokeTest_follows (h : s.groupsFollowOwners) (c : ChamberId) : (s.strokeTest c).groupsFollowOwners := by
  unfold State.strokeTest; dsimp only; split <;> simp [h]

@[simp] theorem State.endStroke_follows (h : s.groupsFollowOwners) (c : ChamberId) :
    (s.endStroke c).groupsFollowOwners := by simp [State.endStroke, h]

@[simp] theorem State.endPack_follows (h : s.groupsFollowOwners) (c : ChamberId) (b : Bool) :
    (s.endPack c b).groupsFollowOwners := by
  unfold State.endPack; dsimp only; split <;> simp [h]

theorem State.testPhase_follows (h : s.groupsFollowOwners) {t : State} {c : ChamberId} (ht : s.testPhase c = some t) :
    t.groupsFollowOwners := by
  unfold State.testPhase at ht; dsimp only at ht
  repeat' split at ht
  all_goals first
    | contradiction
    | (injection ht with ht; subst ht; simp [h])

@[simp] theorem State.phaseRole_follows (h : s.groupsFollowOwners) (c : ChamberId) : (s.phaseRole c).groupsFollowOwners := by
  unfold State.phaseRole
  cases ht : s.testPhase c with
  | none => exact h
  | some t => exact State.testPhase_follows h ht

@[simp] theorem State.enterQuiet_follows (h : s.groupsFollowOwners) (c : ChamberId) :
    (s.enterQuiet c).groupsFollowOwners := by simp [State.enterQuiet, h]

@[simp] theorem State.quietTest_follows (h : s.groupsFollowOwners) (c : ChamberId) : (s.quietTest c).groupsFollowOwners := by
  unfold State.quietTest; dsimp only; split <;> simp [h]

@[simp] theorem State.phaseEntered_follows (h : s.groupsFollowOwners) (c : ChamberId) :
    (s.phaseEntered c).groupsFollowOwners := by
  unfold State.phaseEntered
  split
  · exact State.testPhase_follows h ‹_›
  · simp [h]

@[simp] theorem State.quietEvent_follows (h : s.groupsFollowOwners) (c : ChamberId) : (s.quietEvent c).groupsFollowOwners := by
  unfold State.quietEvent; repeat' split
  all_goals simp [h]

@[simp] theorem State.quietExpired_follows (h : s.groupsFollowOwners) (c : ChamberId) :
    (s.quietExpired c).groupsFollowOwners := by
  unfold State.quietExpired; dsimp only; split <;> simp [h]

@[simp] theorem State.follows_autoPackTest (c : ChamberId) : (s.autoPackTest c).groupsFollowOwners ↔ s.groupsFollowOwners := by
  unfold State.autoPackTest; dsimp only; split <;> simp

@[simp] theorem State.follows_takeTip (c : ChamberId) :
    (s.takeTip c).groupsFollowOwners ↔ s.groupsFollowOwners := by simp [State.takeTip]

@[simp] theorem State.follows_ignoreChamberCommand (c : ChamberId) :
    (s.ignoreChamberCommand c).groupsFollowOwners ↔ s.groupsFollowOwners := by
  simp [State.ignoreChamberCommand]

@[simp] theorem State.phaseExpired_follows (h : s.groupsFollowOwners) (c : ChamberId) :
    (s.phaseExpired c).groupsFollowOwners := by
  unfold State.phaseExpired; dsimp only; split <;> simp [h]

@[simp] theorem State.chamberFaultClear_follows (h : s.groupsFollowOwners) (c : ChamberId) :
    (s.chamberFaultClear c).groupsFollowOwners := by
  unfold State.chamberFaultClear; dsimp only; split <;> simp [h]

@[simp] theorem State.resumeStroke_follows (h : s.groupsFollowOwners) (c : ChamberId) :
    (s.resumeStroke c).groupsFollowOwners := by
  unfold State.resumeStroke; dsimp only; split <;> simp [h]

@[simp] theorem State.packNow_follows (h : s.groupsFollowOwners) (c : ChamberId) : (s.packNow c).groupsFollowOwners := by
  unfold State.packNow; dsimp only; repeat' split
  all_goals simp [h]

@[simp] theorem State.suspendStroke_follows (h : s.groupsFollowOwners) (c : ChamberId) :
    (s.suspendStroke c).groupsFollowOwners := by
  simp [State.suspendStroke, h]

@[simp] theorem State.suspendWaiting_follows (h : s.groupsFollowOwners) (c : ChamberId) :
    (s.suspendWaiting c).groupsFollowOwners := by
  simp [State.suspendWaiting, h]

@[simp] theorem State.packPermitChange_follows (h : s.groupsFollowOwners) (c : ChamberId) :
    (s.packPermitChange c).groupsFollowOwners := by
  unfold State.packPermitChange; dsimp only; repeat' split
  all_goals simp [h]

@[simp] theorem State.chamberGranted_follows (h : s.groupsFollowOwners) (c : ChamberId) :
    (s.chamberGranted c).groupsFollowOwners := by
  unfold State.chamberGranted; dsimp only; repeat' split
  all_goals simp [h]

@[simp] theorem State.holdChamber_follows (h : s.groupsFollowOwners) (c : ChamberId) : (s.holdChamber c).groupsFollowOwners := by
  unfold State.holdChamber; dsimp only; split <;> simp [h]

@[simp] theorem State.chamberHoldEnd_follows (h : s.groupsFollowOwners) (c : ChamberId) :
    (s.chamberHoldEnd c).groupsFollowOwners := by
  unfold State.chamberHoldEnd; dsimp only; repeat' split
  all_goals simp [h]

@[simp] theorem State.chamberServiceEnd_follows (h : s.groupsFollowOwners) (c : ChamberId) :
    (s.chamberServiceEnd c).groupsFollowOwners := by
  unfold State.chamberServiceEnd; dsimp only; split <;> simp [h]

@[simp] theorem State.follows_refuseDischarge (c : ChamberId) (r : DischargeRefusal) :
    (s.refuseDischarge c r).groupsFollowOwners ↔ s.groupsFollowOwners := by simp [State.refuseDischarge]

@[simp] theorem State.follows_resetChamber (c : ChamberId) : (s.resetChamber c).groupsFollowOwners ↔ s.groupsFollowOwners := by
  simp [State.resetChamber]

@[simp] theorem State.follows_discharge (c : ChamberId) : (s.discharge c).groupsFollowOwners ↔ s.groupsFollowOwners := by
  unfold State.discharge; repeat' split
  all_goals simp

/-! ## The lift cycle -/

/-- An arm's change of state turns its group with it (R79). -/
@[simp] theorem State.setArmState_follows (h : s.groupsFollowOwners) (a : ArmId) (k : ArmState) :
    (s.setArmState a k).groupsFollowOwners := by
  have turned : (if k.drives then (s.setArm a { s.arm a with state := k }).driveGroup a.consumer
      else (s.setArm a { s.arm a with state := k }).stopGroup a.consumer).groupsFollowOwners := by
    cases hk : k.drives
    · refine State.stopGroup_follows h (fun d hd => State.ownerMoves_setArm_ne a _ hd) (fun _ => rfl) ?_
      rw [State.ownerMoves_arm, State.setArm_arm]
      exact hk
    · refine State.driveGroup_follows h (fun d hd => State.ownerMoves_setArm_ne a _ hd) (fun _ => rfl) ?_
      rw [State.ownerMoves_arm, State.setArm_arm]
      exact hk
  unfold State.setArmState; dsimp only
  split
  · exact (State.follows_stallWindow a).2 turned
  · exact turned

@[simp] theorem State.armStop_follows (h : s.groupsFollowOwners) (a : ArmId) (k : ArmState) :
    (s.armStop a k).groupsFollowOwners :=
  (State.follows_claimNone _).2 (State.setArmState_follows ((State.follows_setArm (by rfl)).2 h) a k)

@[simp] theorem State.follows_ignoreArmCommand (a : ArmId) :
    (s.ignoreArmCommand a).groupsFollowOwners ↔ s.groupsFollowOwners := by
  simp [State.ignoreArmCommand]

@[simp] theorem State.follows_badArmCommand (a : ArmId) : (s.badArmCommand a).groupsFollowOwners ↔ s.groupsFollowOwners := by
  simp [State.badArmCommand]

@[simp] theorem State.follows_closeRecord (a : ArmId) (n : Nat) (o : CycleOutcome) :
    (s.closeRecord a n o).groupsFollowOwners ↔ s.groupsFollowOwners := by
  unfold State.closeRecord; dsimp only; repeat' split
  all_goals simp

@[simp] theorem State.cycleEnd_follows (h : s.groupsFollowOwners) (a : ArmId) (o : CycleOutcome) :
    (s.cycleEnd a o).groupsFollowOwners := by
  have ended := State.setArmState_follows
    ((State.follows_setArm (s := s.withdrawRequest a) (x := ((s.withdrawRequest a).arm a).afterCycle) rfl).2 h) a o.armState
  unfold State.cycleEnd; dsimp only; split <;> simp [ended]

@[simp] theorem State.armFault_follows (h : s.groupsFollowOwners) (a : ArmId) (k : ArmFault) :
    (s.armFault a k).groupsFollowOwners := by
  unfold State.armFault; split <;> simp [h]

@[simp] theorem State.follows_tellBlock (a : ArmId) (k : EndKind) :
    (s.tellBlock a k).groupsFollowOwners ↔ s.groupsFollowOwners := by
  unfold State.tellBlock; repeat' split
  all_goals simp

@[simp] theorem State.enterRunning_follows (h : s.groupsFollowOwners) (a : ArmId) : (s.enterRunning a).groupsFollowOwners := by
  unfold State.enterRunning; dsimp only; repeat' split
  all_goals simp [h]

@[simp] theorem State.claimStep_follows (h : s.groupsFollowOwners) (a : ArmId) : (s.claimStep a).groupsFollowOwners := by
  unfold State.claimStep
  cases s.currentStep a with
  | none => exact h
  | some t =>
    rw [← State.follows_claim a.consumer t.claimed] at h
    dsimp only
    split <;> rename_i e <;> rw [e] at h <;> simp only at h <;> simp [h]

@[simp] theorem State.follows_loadStep (a : ArmId) (p : Nat) : (s.loadStep a p).groupsFollowOwners ↔ s.groupsFollowOwners := by
  unfold State.loadStep; dsimp only; split <;> simp

@[simp] theorem State.resumeStep_follows (h : s.groupsFollowOwners) (a : ArmId) : (s.resumeStep a).groupsFollowOwners := by
  unfold State.resumeStep; split <;> simp [h]

@[simp] theorem State.enterStep_follows (h : s.groupsFollowOwners) (a : ArmId) (p : Nat) :
    (s.enterStep a p).groupsFollowOwners := by
  unfold State.enterStep; dsimp only; split <;> simp [h]

@[simp] theorem State.goTo_follows (h : s.groupsFollowOwners) (a : ArmId) (n p : Nat) : (s.goTo a n p).groupsFollowOwners := by
  unfold State.goTo; dsimp only; repeat' split
  all_goals simp [h]

@[simp] theorem State.programDone_follows (h : s.groupsFollowOwners) (a : ArmId) :
    (s.programDone a).groupsFollowOwners := by simp [State.programDone, h]

@[simp] theorem State.follows_markTip (a : ArmId) : (s.markTip a).groupsFollowOwners ↔ s.groupsFollowOwners := by
  unfold State.markTip; dsimp only; split <;> simp

@[simp] theorem State.passOn_follows (h : s.groupsFollowOwners) (a : ArmId) (g : ProgramEntry) (p : Nat) (t : StepEntry) :
    (s.passOn a g p t).groupsFollowOwners := by
  unfold State.passOn; dsimp only; repeat' split
  all_goals simp [h]

@[simp] theorem State.finishStep_follows (h : s.groupsFollowOwners) (a : ArmId) : (s.finishStep a).groupsFollowOwners := by
  unfold State.finishStep; dsimp only; repeat' split
  all_goals simp [h]

@[simp] theorem State.stepEnded_follows (h : s.groupsFollowOwners) (a : ArmId) : (s.stepEnded a).groupsFollowOwners := by
  unfold State.stepEnded; split <;> simp [h]

@[simp] theorem State.endEvent_follows (h : s.groupsFollowOwners) (a : ArmId) : (s.endEvent a).groupsFollowOwners := by
  unfold State.endEvent; repeat' split
  all_goals simp [h]

@[simp] theorem State.takeDecision_follows (h : s.groupsFollowOwners) (a : ArmId) (b : Bool) :
    (s.takeDecision a b).groupsFollowOwners := by
  unfold State.takeDecision; split <;> simp [h]

@[simp] theorem State.positionTest_follows (h : s.groupsFollowOwners) (a : ArmId) : (s.positionTest a).groupsFollowOwners := by
  unfold State.positionTest; split <;> simp [h]

@[simp] theorem State.stepTimeout_follows (h : s.groupsFollowOwners) (a : ArmId) : (s.stepTimeout a).groupsFollowOwners := by
  unfold State.stepTimeout; dsimp only; repeat' split
  all_goals simp [h]

@[simp] theorem State.durationRun_follows (h : s.groupsFollowOwners) (a : ArmId) : (s.durationRun a).groupsFollowOwners := by
  unfold State.durationRun; dsimp only; split <;> simp [h]

@[simp] theorem State.follows_refuseStart (a : ArmId) (r : ArmRefusal) :
    (s.refuseStart a r).groupsFollowOwners ↔ s.groupsFollowOwners := by
  simp [State.refuseStart]

@[simp] theorem State.openCycle_follows (h : s.groupsFollowOwners) (a : ArmId) (n p : Nat) (b : Bool) :
    (s.openCycle a n p b).groupsFollowOwners := by
  simp [State.openCycle, h]

@[simp] theorem State.follows_admissionFault (a : ArmId) : (s.admissionFault a).1.groupsFollowOwners ↔ s.groupsFollowOwners := by
  unfold State.admissionFault; dsimp only; repeat' split
  all_goals simp

@[simp] theorem State.admitCycle_follows (h : s.groupsFollowOwners) (a : ArmId) (n p : Nat) (b : Bool) :
    (s.admitCycle a n p b).groupsFollowOwners := by
  have k := (State.follows_admissionFault a).2 (State.openCycle_follows h a n p b)
  unfold State.admitCycle
  split <;> rename_i e <;> rw [e] at k <;> simp only at k <;> simp [k]

@[simp] theorem State.tryStart_follows (h : s.groupsFollowOwners) (a : ArmId) (n : Nat) (b : Bool) :
    (s.tryStart a n b).groupsFollowOwners := by
  unfold State.tryStart; split <;> simp [h]

/-! ## The arms outside a step -/

@[simp] theorem State.follows_manualTargets (a : ArmId) : (s.manualTargets a).groupsFollowOwners ↔ s.groupsFollowOwners := by
  simp [State.manualTargets]

@[simp] theorem State.follows_manualGrant (a : ArmId) :
    (s.manualGrant a).groupsFollowOwners ↔ s.groupsFollowOwners := by simp [State.manualGrant]

@[simp] theorem State.leaveManual_follows (h : s.groupsFollowOwners) (a : ArmId) (k : ArmState) :
    (s.leaveManual a k).groupsFollowOwners := by
  simp [State.leaveManual, h]

@[simp] theorem State.beginManual_follows (h : s.groupsFollowOwners) (a : ArmId) : (s.beginManual a).groupsFollowOwners := by
  have k (x : Arm) (hx : x.state = (s.arm a).state) (d : Nat) :
      (((s.setArm a x).setArmState a .manual).claim a.consumer d).1.groupsFollowOwners :=
    (State.follows_claim _ _).2 (State.setArmState_follows ((State.follows_setArm hx).2 h) a .manual)
  unfold State.beginManual; dsimp only
  split <;> rename_i e <;> have k' := congrArg Prod.fst e <;> simp only at k' <;> simp [← k', k]

@[simp] theorem State.enterManual_follows (h : s.groupsFollowOwners) (a : ArmId) : (s.enterManual a).groupsFollowOwners := by
  unfold State.enterManual; repeat' split
  all_goals simp [h]

@[simp] theorem State.exitManual_follows (h : s.groupsFollowOwners) (a : ArmId) : (s.exitManual a).groupsFollowOwners := by
  unfold State.exitManual; split <;> simp [h]

@[simp] theorem State.follows_joyEvent (a : ArmId) : (s.joyEvent a).groupsFollowOwners ↔ s.groupsFollowOwners := by
  unfold State.joyEvent; split <;> simp

@[simp] theorem State.positionEvent_follows (h : s.groupsFollowOwners) (a : ArmId) : (s.positionEvent a).groupsFollowOwners := by
  unfold State.positionEvent; dsimp only; repeat' split
  all_goals simp [h]

@[simp] theorem State.startCommand_follows (h : s.groupsFollowOwners) (a : ArmId) (l : List Byte) :
    (s.startCommand a l).groupsFollowOwners := by
  unfold State.startCommand; repeat' split
  all_goals simp [h]

@[simp] theorem State.pauseCommand_follows (h : s.groupsFollowOwners) (a : ArmId) : (s.pauseCommand a).groupsFollowOwners := by
  unfold State.pauseCommand; split <;> simp [h]

@[simp] theorem State.continueCommand_follows (h : s.groupsFollowOwners) (a : ArmId) :
    (s.continueCommand a).groupsFollowOwners := by
  unfold State.continueCommand; split <;> simp [h]

@[simp] theorem State.abortCommand_follows (h : s.groupsFollowOwners) (a : ArmId) : (s.abortCommand a).groupsFollowOwners := by
  unfold State.abortCommand; split <;> simp [h]

@[simp] theorem State.armFaultClear_follows (h : s.groupsFollowOwners) (a : ArmId) : (s.armFaultClear a).groupsFollowOwners := by
  unfold State.armFaultClear; split <;> simp [h]

@[simp] theorem State.armFrame_follows (h : s.groupsFollowOwners) (a : ArmId) (f : Frame) :
    (s.armFrame a f).groupsFollowOwners := by
  unfold State.armFrame; repeat' split
  all_goals simp [h]

@[simp] theorem State.guardChange_follows (h : s.groupsFollowOwners) (a : ArmId) : (s.guardChange a).groupsFollowOwners := by
  unfold State.guardChange; repeat' split
  all_goals simp [h]

@[simp] theorem State.manualPermitChange_follows (h : s.groupsFollowOwners) (a : ArmId) :
    (s.manualPermitChange a).groupsFollowOwners := by
  unfold State.manualPermitChange; split <;> simp [h]

@[simp] theorem State.armGranted_follows (h : s.groupsFollowOwners) (a : ArmId) : (s.armGranted a).groupsFollowOwners := by
  unfold State.armGranted; dsimp only; repeat' split
  all_goals simp [h]

@[simp] theorem State.fullEvent_follows (h : s.groupsFollowOwners) (a : ArmId) : (s.fullEvent a).groupsFollowOwners := by
  unfold State.fullEvent; split <;> simp [h]

@[simp] theorem State.bodyPortOff_follows (h : s.groupsFollowOwners) (a : ArmId) : (s.bodyPortOff a).groupsFollowOwners := by
  unfold State.bodyPortOff; dsimp only; repeat' split
  all_goals simp [h]

@[simp] theorem State.holdArm_follows (h : s.groupsFollowOwners) (a : ArmId) : (s.holdArm a).groupsFollowOwners := by
  have held (x : Arm) (hx : x.state = (s.arm a).state) : ((s.setArm a x).setArmState a .held).groupsFollowOwners :=
    State.setArmState_follows ((State.follows_setArm hx).2 h) a .held
  unfold State.holdArm; dsimp only; split
  all_goals first
    | exact held _ rfl
    | exact h

@[simp] theorem State.armHoldEnd_follows (h : s.groupsFollowOwners) (a : ArmId) : (s.armHoldEnd a).groupsFollowOwners := by
  unfold State.armHoldEnd; dsimp only; repeat' split
  all_goals simp [h]

@[simp] theorem State.armServiceEnd_follows (h : s.groupsFollowOwners) (a : ArmId) : (s.armServiceEnd a).groupsFollowOwners := by
  unfold State.armServiceEnd; dsimp only; repeat' split
  all_goals simp [h]

/-! ## Readers -/

@[simp] theorem State.follows_serviceLeft : s.serviceLeft.groupsFollowOwners ↔ s.groupsFollowOwners := by
  unfold State.serviceLeft; dsimp only; split <;> simp

@[simp] theorem State.follows_judgeService : s.judgeService.groupsFollowOwners ↔ s.groupsFollowOwners := by
  unfold State.judgeService; dsimp only; repeat' split
  all_goals simp

@[simp] theorem State.groupReader_follows (h : s.groupsFollowOwners) (r : RoleGroup) : (s.groupReader r).groupsFollowOwners := by
  cases r <;> simp [State.groupReader, h]

@[simp] theorem State.follows_routeTime : s.routeTime.groupsFollowOwners ↔ s.groupsFollowOwners := by
  unfold State.routeTime; split <;> simp

@[simp] theorem State.roleReader_follows (h : s.groupsFollowOwners) (r : Role) : (s.roleReader r).groupsFollowOwners := by
  cases r <;> simp [State.roleReader, h]

@[simp] theorem State.follows_settleFrom (old : State) (l : List Nat) :
    (State.settleFrom old l s).groupsFollowOwners ↔ s.groupsFollowOwners := by
  unfold State.settleFrom; dsimp only
  rw [State.follows_postAll]
  split <;> split <;> simp

@[simp] theorem State.follows_signalFrame (i : Nat) (f : Frame) :
    (s.signalFrame i f).groupsFollowOwners ↔ s.groupsFollowOwners := by
  simp [State.signalFrame]

@[simp] theorem State.follows_changeSignal (i : Nat) (g : SignalEntry → SignalEntry) :
    (s.changeSignal i g).groupsFollowOwners ↔ s.groupsFollowOwners := by simp [State.changeSignal]

@[simp] theorem State.follows_freshnessExpired (i : Nat) : (s.freshnessExpired i).groupsFollowOwners ↔ s.groupsFollowOwners := by
  unfold State.freshnessExpired; repeat' split
  all_goals simp

@[simp] theorem State.follows_holdExpired (i : Nat) : (s.holdExpired i).groupsFollowOwners ↔ s.groupsFollowOwners := by
  unfold State.holdExpired; repeat' split
  all_goals simp

@[simp] theorem State.follows_delayExpired (g : Nat) : (s.delayExpired g).groupsFollowOwners ↔ s.groupsFollowOwners := by
  unfold State.delayExpired; repeat' split
  all_goals simp

/-! ## Router and agenda -/

@[simp] theorem State.follows_badChamberCommand : s.badChamberCommand.groupsFollowOwners ↔ s.groupsFollowOwners := .rfl

theorem State.toChamber_follows (h : s.groupsFollowOwners) (args : List Byte) {f : State → ChamberId → State}
    (hf : ∀ c, (f s c).groupsFollowOwners) : (s.toChamber args f).groupsFollowOwners := by
  unfold State.toChamber; split
  · exact h
  · exact hf _

@[simp] theorem State.chamberFrame_follows (h : s.groupsFollowOwners) (f : Frame) : (s.chamberFrame f).groupsFollowOwners := by
  unfold State.chamberFrame; repeat' split
  · exact h
  · exact State.toChamber_follows h _ fun c => State.packNow_follows h c
  · exact State.toChamber_follows h _ fun c => (State.follows_discharge c).2 h
  · exact State.toChamber_follows h _ fun c => State.chamberFaultClear_follows h c
  · exact h

@[simp] theorem State.deliver_follows (h : s.groupsFollowOwners) (i : Nat) (c : RouteConsumer) (f : Frame) :
    (s.deliver i c f).groupsFollowOwners := by
  cases c <;> simp [State.deliver, h]

@[simp] theorem State.follows_dropHeld : s.dropHeld.groupsFollowOwners ↔ s.groupsFollowOwners := .rfl
@[simp] theorem State.follows_countRoute (i : Nat) (g : RouteEntry → RouteEntry) :
    (s.countRoute i g).groupsFollowOwners ↔ s.groupsFollowOwners := .rfl

@[simp] theorem State.forwardAndDeliver_follows (h : s.groupsFollowOwners) (i : Nat) (e : RouteEntry) (p : PortId) (f : Frame) :
    (s.forwardAndDeliver i e p f).groupsFollowOwners := by
  obtain ⟨t, ht, k | ⟨-, k⟩⟩ := s.forwardAndDeliver_spec i e p f
  all_goals
    have ht' : t.groupsFollowOwners := by rw [ht]; exact h
    rw [k]
    simp [ht']

@[simp] theorem State.routeAction_follows (h :
    s.groupsFollowOwners) (held : Bool) (i : Nat) (e : RouteEntry) (p : PortId) (f : Frame) :
    (s.routeAction held i e p f).groupsFollowOwners := by
  unfold State.routeAction; repeat' split
  all_goals simp [h]

@[simp] theorem State.follows_missFrame (p : PortId) (f : Frame) :
    (s.missFrame p f).groupsFollowOwners ↔ s.groupsFollowOwners := by
  unfold State.missFrame; dsimp only; split <;> simp

@[simp] theorem State.routeFrame_follows (h : s.groupsFollowOwners) (held : Bool) (p : PortId) (f : Frame) :
    (s.routeFrame held p f).groupsFollowOwners := by
  unfold State.routeFrame; repeat' split
  all_goals simp [h]

@[simp] theorem State.follows_holdWeighing :
    s.holdWeighing.groupsFollowOwners ↔ s.groupsFollowOwners := by simp [State.holdWeighing]

@[simp] theorem State.follows_takeHold : s.takeHold.groupsFollowOwners ↔ s.groupsFollowOwners := by
  obtain ⟨l, k, -, e⟩ := s.takeHold_spec
  rw [e]
  exact State.follows_holdWeighing

@[simp] theorem State.follows_holdAgain : s.holdAgain.groupsFollowOwners ↔ s.groupsFollowOwners := by
  unfold State.holdAgain; split <;> simp

@[simp] theorem State.follows_discardHeld : s.discardHeld.groupsFollowOwners ↔ s.groupsFollowOwners := .rfl

@[simp] theorem State.settleHeld_follows (h : s.groupsFollowOwners) (b : Bool) (f : HeldFrame) :
    (s.settleHeld b f).groupsFollowOwners := by
  unfold State.settleHeld; repeat' split
  all_goals simp [h]

@[simp] theorem State.unlessHeldAnew_follows (h : s.groupsFollowOwners) {t : State} (ht : t.groupsFollowOwners) :
    (s.unlessHeldAnew t).groupsFollowOwners := by
  unfold State.unlessHeldAnew; split
  · exact h
  · exact ht

@[simp] theorem handle_follows (h : s.groupsFollowOwners) (e : Ev) : (handle e s).groupsFollowOwners := by
  cases e <;> simp [handle, h]

/-! ## Pages -/

@[simp] theorem State.follows_setPage (n : Nat) (t : PageTimers) :
    (s.setPage n t).groupsFollowOwners ↔ s.groupsFollowOwners := .rfl
@[simp] theorem State.follows_noteAs (n : Nat) : (s.noteAs n).groupsFollowOwners ↔ s.groupsFollowOwners := .rfl
@[simp] theorem State.follows_sendPage (n : Nat) :
    (s.sendPage n).groupsFollowOwners ↔ s.groupsFollowOwners := by simp [State.sendPage]

@[simp] theorem State.follows_pageChanged (n : Nat) : (s.pageChanged n).groupsFollowOwners ↔ s.groupsFollowOwners := by
  unfold State.pageChanged; dsimp only; split <;> simp

@[simp] theorem State.follows_noteChanges (n : Nat) : (noteChanges n s).groupsFollowOwners ↔ s.groupsFollowOwners := by
  induction n generalizing s with
  | zero => exact .rfl
  | succ n ih =>
    unfold noteChanges
    split
    · exact .rfl
    · rw [ih, State.follows_pageChanged]

@[simp] theorem State.follows_notePages : s.notePages.groupsFollowOwners ↔ s.groupsFollowOwners := State.follows_noteChanges 32

theorem State.takeHead_follows (h : s.groupsFollowOwners) (e : Ev) (r : List Ev) : (s.takeHead e r).groupsFollowOwners := by
  unfold State.takeHead
  rw [State.follows_notePages, State.follows_postAll]
  exact handle_follows (by exact h) e

theorem drain_follows (h : s.groupsFollowOwners) (n : Nat) : (drain n s).groupsFollowOwners := by
  induction n generalizing s with
  | zero => exact h
  | succ n ih =>
    unfold drain
    split
    · exact h
    · exact ih (State.takeHead_follows h _ _)

/-- The hand-overs and the pages that follow a command keep every group with its owner. -/
@[simp] theorem State.finish_follows (h : s.groupsFollowOwners) : s.finish.groupsFollowOwners :=
  drain_follows (State.follows_notePages.2 h) _

end

/-! ## Management -/

section
variable {s : State}

@[simp] theorem State.follows_offerReply (b : Bool) (f : Frame) : (s.offerReply b f).groupsFollowOwners ↔ s.groupsFollowOwners :=
  State.follows_offerOwn _ f

@[simp] theorem State.follows_reply (op : MgmtOp) (n : Nat) (q : Request) (i : BitVec 16) (w : Word) :
    (s.reply op n q i w).groupsFollowOwners ↔ s.groupsFollowOwners := by simp [State.reply]

@[simp] theorem State.follows_requestEnds : s.requestEnds.groupsFollowOwners ↔ s.groupsFollowOwners := .rfl

theorem State.answer_follows (h : s.groupsFollowOwners) (op : MgmtOp) (n : Nat) (q : Request) (w : Word) :
    (s.answer op n q w).groupsFollowOwners := by simp [State.answer, h]

@[simp] theorem State.follows_refusedValue (op : MgmtOp) (q : Request) (n : Nat) :
    (s.refusedValue op q n).1.groupsFollowOwners ↔ s.groupsFollowOwners := by
  unfold State.refusedValue
  repeat' split
  all_goals exact .rfl

theorem State.answerBusy_follows (h : s.groupsFollowOwners) (op : MgmtOp) (q : Request) :
    (s.answerBusy op q).groupsFollowOwners := by
  simp [State.answerBusy, h]

theorem State.refuse_follows (h : s.groupsFollowOwners) (op : MgmtOp) (q : Request) (n : Nat) :
    (s.refuse op q n).groupsFollowOwners :=
  State.answer_follows ((State.follows_refusedValue op q n).2 h) op n q _

/-! ## Words and tables -/

theorem State.configChanged_follows (h : s.groupsFollowOwners) (i w : Nat) (old : State) :
    (s.configChanged i w old).groupsFollowOwners := by
  unfold State.configChanged; dsimp only; repeat' split
  all_goals simp [h]

theorem State.putSignal_follows (h : s.groupsFollowOwners) (i : Nat) (old new : SignalEntry) :
    (s.putSignal i old new).groupsFollowOwners := by
  unfold State.putSignal; dsimp only; split
  · exact h
  · simpa using h

theorem State.putTerm_follows (h : s.groupsFollowOwners) (i : Nat) (old new : TermEntry) :
    (s.putTerm i old new).groupsFollowOwners := by
  unfold State.putTerm; dsimp only; split
  · exact h
  · simpa using h

theorem State.putGroup_follows (h : s.groupsFollowOwners) (i : Nat) (old new : GroupEntry) :
    (s.putGroup i old new).groupsFollowOwners := by
  unfold State.putGroup; dsimp only; split
  · exact h
  · simpa using h

/-- A word written to an entry of a table leaves what `put` makes of it. -/
theorem writeEntry_put {α : Type} {l : List α} {i : Nat} {f : α → Except Nat (α × Bool)} {put : α → α → State}
    {r : State × Bool} (h : writeEntry l i f put = .ok r) : ∃ old new, r.1 = put old new := by
  unfold writeEntry at h
  split at h
  · cases h
  · rename_i e _
    cases hf : f e with
    | error => rw [hf] at h; cases h
    | ok x => rw [hf] at h; cases h; exact ⟨e, x.1, rfl⟩

theorem exceptMap_ok {α β : Type} {x : Except Nat α} {f : α → β} {y : β} (h : x.map f = .ok y) : ∃ a, y = f a := by
  cases x with
  | error => cases h
  | ok a => cases h; exact ⟨a, rfl⟩

theorem liveWhenCleared_ok {q : Request} {b : Bool} {x : Except Nat (State × Bool)} {r : State × Bool}
    (h : liveWhenCleared q b x = .ok r) : x = .ok r := by
  unfold liveWhenCleared at h
  split at h
  · cases h
  · exact h

/-- An accepted DEPOSIT, whatever its table. -/
theorem State.depositWord_follows (h : s.groupsFollowOwners) {q : Request} {r : State × Bool} (hr : s.depositWord q = .ok r) :
    r.1.groupsFollowOwners := by
  have entry {α : Type} {l : List α} {i : Nat} {f : α → Except Nat (α × Bool)} {put : α → α → State}
      (hw : writeEntry l i f put = .ok r) (hput : ∀ old new, (put old new).groupsFollowOwners) : r.1.groupsFollowOwners := by
    obtain ⟨old, new, e⟩ := writeEntry_put hw
    rw [e]
    exact hput old new
  unfold State.depositWord at hr
  dsimp only at hr
  split at hr
  · obtain ⟨x, rfl⟩ := exceptMap_ok hr
    exact State.configChanged_follows (by exact h) _ _ _
  · exact entry hr fun _ _ => h
  · exact entry hr (State.putSignal_follows h _)
  · exact entry hr (State.putTerm_follows h _)
  · split at hr
    · cases hr
    · exact entry hr (State.putGroup_follows h _)
  · exact entry (liveWhenCleared_ok hr) fun _ _ => h
  · exact entry (liveWhenCleared_ok hr) fun _ _ => h
  · unfold State.writeSelect taken inRange at hr
    repeat' split at hr
    all_goals cases hr
    all_goals exact h
  · unfold State.writeStaging at hr
    split at hr
    · obtain ⟨x, rfl⟩ := exceptMap_ok hr
      exact h
    · cases hr
  · obtain ⟨x, rfl⟩ := exceptMap_ok hr
    exact h
  · exact entry hr fun _ _ => h
  · exact entry hr fun _ _ => h
  · cases hr

/-- An accepted CLEAR, whatever its table. -/
theorem State.clearTable_follows (h : s.groupsFollowOwners) {n : Nat} {t : State} (ht : s.clearTable n = .ok t) :
    t.groupsFollowOwners := by
  unfold State.clearTable at ht
  repeat' split at ht
  all_goals cases ht
  all_goals first
    | exact h
    | exact (State.follows_settleFrom _ _).2 h

/-! ## The operations -/

theorem State.doStep_follows (h : s.groupsFollowOwners) (q : Request) : (s.doStep q).groupsFollowOwners := by
  unfold State.doStep; dsimp only
  repeat' split
  · exact State.refuse_follows h _ _ _
  · exact State.refuse_follows h _ _ _
  · exact State.refuse_follows h _ _ _
  · exact State.answer_follows (State.tryStart_follows h _ _ _) _ _ _ _
  · exact State.answer_follows (State.resumeStep_follows ((State.follows_setArm (by rfl)).2 h) _) _ _ _ _
  all_goals exact State.refuse_follows h _ _ _

theorem State.doWatchContinue_follows (h : s.groupsFollowOwners) (q : Request) : (s.doWatchContinue q).groupsFollowOwners := by
  unfold State.doWatchContinue
  repeat' split
  · exact State.refuse_follows h _ _ _
  · refine State.answer_follows ?_ _ _ _ _
    rw [State.follows_postAll]
    exact (State.follows_postAnyOrder _).2 h
  · exact State.answer_follows h _ _ _ _

theorem State.doDeposit_follows (h : s.groupsFollowOwners) (q : Request) : (s.doDeposit q).groupsFollowOwners := by
  unfold State.doDeposit
  split
  · exact State.refuse_follows h _ _ _
  · rename_i ht
    exact State.answer_follows (State.depositWord_follows h ht) _ _ _ _

theorem State.doClear_follows (h : s.groupsFollowOwners) (q : Request) : (s.doClear q).groupsFollowOwners := by
  unfold State.doClear
  split
  · exact State.refuse_follows h _ _ _
  · rename_i ht
    exact State.answer_follows (State.clearTable_follows h ht) _ _ _ _

theorem State.doPort_follows (h : s.groupsFollowOwners) (q : Request) : (s.doPort q).groupsFollowOwners := by
  unfold State.doPort
  split
  · exact State.answer_follows (by exact h) _ _ _ _
  · exact State.answer_follows (by exact h) _ _ _ _
  · exact State.answer_follows ((State.follows_restartPort _).2 h) _ _ _ _
  · exact State.refuse_follows h _ _ _

theorem State.doIdentify_follows (h : s.groupsFollowOwners) (q : Request) : (s.doIdentify q).groupsFollowOwners := by
  unfold State.doIdentify
  split
  · exact State.refuse_follows h _ _ _
  · simp [h]

theorem State.doExamine_follows (h : s.groupsFollowOwners) (q : Request) : (s.doExamine q).groupsFollowOwners := by
  unfold State.doExamine
  split
  · exact State.refuse_follows h _ _ _
  · exact State.answer_follows (by exact h) _ _ _ _

theorem State.doInsert_follows (h : s.groupsFollowOwners) (q : Request) : (s.doInsert q).groupsFollowOwners := by
  unfold State.doInsert; dsimp only
  repeat' split
  · exact State.refuse_follows h _ _ _
  · exact State.refuse_follows h _ _ _
  · exact h

theorem State.doRemove_follows (h : s.groupsFollowOwners) (q : Request) : (s.doRemove q).groupsFollowOwners := by
  unfold State.doRemove
  split
  · exact State.refuse_follows h _ _ _
  · exact h

theorem State.doDay_follows (h : s.groupsFollowOwners) (q : Request) : (s.doDay q).groupsFollowOwners := by
  unfold State.doDay
  split
  · exact State.refuse_follows h _ _ _
  · exact State.answer_follows (by exact h) _ _ _ _

theorem State.operate_follows (h : s.groupsFollowOwners) (op : MgmtOp) (q : Request) : (s.operate op q).groupsFollowOwners := by
  cases op with
  | identify => exact State.doIdentify_follows h q
  | examine => exact State.doExamine_follows h q
  | deposit => exact State.doDeposit_follows h q
  | insert => exact State.doInsert_follows h q
  | remove => exact State.doRemove_follows h q
  | release => exact State.answer_follows (by exact h) _ _ _ _
  | day => exact State.doDay_follows h q
  | step => exact State.doStep_follows h q
  | watchContinue => exact State.doWatchContinue_follows h q
  | lock => exact State.answer_follows (by exact h) _ _ _ _
  | reset => exact (State.follows_reply _ _ _ _ _).2 h
  | clear => exact State.doClear_follows h q
  | port => exact State.doPort_follows h q

theorem State.manage_follows (h : s.groupsFollowOwners) (op : MgmtOp) (q : Request) : (s.manage op q).groupsFollowOwners := by
  unfold State.manage; dsimp only
  split
  · exact State.answerBusy_follows h op q
  · split
    · exact State.refuse_follows (by exact h) _ _ _
    · exact State.operate_follows (by exact h) op q

theorem State.completeUpdate_follows (h : s.groupsFollowOwners) : s.completeUpdate.groupsFollowOwners := by
  have applied (c : BinChange) : (s.applyUpdate c).groupsFollowOwners := by cases c <;> exact h
  unfold State.completeUpdate
  split
  · exact h
  · dsimp only
    split
    · exact State.follows_serveLookups.2 (State.follows_requestEnds.2 ((State.follows_reply _ _ _ _ _).2 (applied _)))
    · exact State.follows_serveLookups.2 (applied _)

/-! ## Frames taken, resets, timers -/

theorem State.holdAfter_follows (h : s.groupsFollowOwners) (i : Nat) : (s.holdAfter i).groupsFollowOwners := by
  unfold State.holdAfter; dsimp only
  split <;> simp [h]

theorem State.watchedFrame_follows (h : s.groupsFollowOwners) (p : PortId) (f : Frame) :
    (s.watchedFrame p f).groupsFollowOwners := by
  rw [← State.follows_watchTest (some p) p f] at h
  unfold State.watchedFrame
  split <;> rename_i e <;> rw [e] at h <;> simp only at h
  · exact State.routeFrame_follows h _ p f
  · exact State.holdAfter_follows (State.routeFrame_follows h _ p f) _
  · simpa using h

theorem State.managementFrame_follows (h : s.groupsFollowOwners) (n : BitVec 4) (f : Frame) :
    (s.managementFrame n f).groupsFollowOwners := by
  unfold State.managementFrame State.answerMalformed; dsimp only
  repeat' split
  · exact (State.follows_offerReply _ _).2 h
  · exact (State.follows_offerReply _ _).2 h
  · exact State.manage_follows h _ _

theorem State.takeFrame_follows (h : s.groupsFollowOwners) (p : PortId) : (s.takeFrame p).groupsFollowOwners := by
  unfold State.takeFrame State.handleFrame
  repeat' split
  · exact h
  · exact State.watchedFrame_follows (by exact h) _ _
  · exact State.managementFrame_follows (by exact h) _ _
  · exact State.watchedFrame_follows (by exact h) _ _

/-- A reset leaves every owner at rest and every group still, whatever stood before. -/
theorem State.startUp_follows (s : State) : s.startUp.groupsFollowOwners := by
  have fresh : s.volatileFresh.groupsFollowOwners := by
    refine State.follows_iff.2 fun c => ?_
    cases c <;> exact ⟨rfl, fun _ => ⟨rfl, rfl, rfl⟩⟩
  have judged : ((s.volatileFresh.judgeAtStart .chamber0).judgeAtStart .chamber1).groupsFollowOwners :=
    (State.follows_setChamber (by rfl)).2 ((State.follows_setChamber (by rfl)).2 fresh)
  unfold State.startUp State.firstPages State.firstFrames
  simpa using judged

theorem State.repeatHighIdle_follows (h : s.groupsFollowOwners) : s.repeatHighIdle.groupsFollowOwners := by
  unfold State.repeatHighIdle; dsimp only; repeat' split
  all_goals simp [h]

theorem State.endRunDown_follows (h : s.groupsFollowOwners) : s.endRunDown.groupsFollowOwners := by
  unfold State.endRunDown; dsimp only; repeat' split
  all_goals simp [h]

theorem State.tick_follows (h : s.groupsFollowOwners) : s.tick.groupsFollowOwners := by
  unfold State.tick; dsimp only
  simp only [State.follows_disturb, State.follows_tickGroup]
  exact h

theorem State.secondPassed_follows (h : s.groupsFollowOwners) : s.secondPassed.groupsFollowOwners := by
  unfold State.secondPassed; split <;> exact h

theorem State.periodExpired_follows (h : s.groupsFollowOwners) (p : Nat) : (s.periodExpired p).groupsFollowOwners := by
  unfold State.periodExpired; repeat' split
  all_goals simp [h]

theorem State.spacingExpired_follows (h : s.groupsFollowOwners) (p : Nat) : (s.spacingExpired p).groupsFollowOwners := by
  unfold State.spacingExpired; dsimp only; repeat' split
  all_goals simp [h]

theorem State.goBusOff_follows (h : s.groupsFollowOwners) (p : PortId) : (s.goBusOff p).groupsFollowOwners := by
  unfold State.goBusOff; dsimp only; repeat' split
  all_goals simp [h]

theorem State.recover_follows (h : s.groupsFollowOwners) (p : PortId) : (s.recover p).groupsFollowOwners := by
  unfold State.recover; split <;> simp [h]

theorem State.unlessHeld_follows (h : s.groupsFollowOwners) {f : State → State} (hf : (f s).groupsFollowOwners) :
    (s.unlessHeld f).groupsFollowOwners := by
  unfold State.unlessHeld; split
  · exact h
  · exact hf

/-- 1 ms that passes moves no owner and turns no group. -/
theorem State.millisecond_follows (h : s.groupsFollowOwners) : s.millisecond.groupsFollowOwners :=
  (State.follows_congr (s := s) (fun c => by cases c <;> rfl) fun c => by cases c <;> rfl).2 h

theorem State.queueOne_follows (h : s.groupsFollowOwners) (l : List (List Instr)) : (s.queueOne l).groupsFollowOwners := by
  unfold State.queueOne; split <;> exact h

theorem State.idle_follows (h : s.groupsFollowOwners) : s.idle.groupsFollowOwners := by
  unfold State.idle
  repeat' split
  · exact h
  · exact State.queueOne_follows h _
  · exact State.queueOne_follows h _
  · exact State.millisecond_follows h

/-! ## Commands -/

theorem run_follows {c : Instr} {effect : State → State} (he : (effect s).groupsFollowOwners) :
    ∀ t, run c effect s = .next t → t.groupsFollowOwners := by
  intro t ht
  unfold run at ht
  split at ht
  · cases ht
    exact State.finish_follows he
  · cases ht

/-- Every command keeps every group with its owner. -/
theorem exec_follows (h : s.groupsFollowOwners) (c : Instr) : ∀ t, exec c s = .next t → t.groupsFollowOwners := by
  have held {f : State → State} (hf : (f s).groupsFollowOwners) : (s.unlessHeld f).groupsFollowOwners :=
    State.unlessHeld_follows h hf
  cases c with
  | powerOn j =>
    rw [exec_powerOn]
    exact fun t ht => Host.Outcome.next.inj ht ▸ State.startUp_follows _
  | warmReset =>
    rw [exec_warmReset]
    exact fun t ht => Host.Outcome.next.inj ht ▸ State.startUp_follows _
  | frameArrival p f =>
    rw [exec_frameArrival]
    exact run_follows (by exact h)
  | frameTaken p =>
    rw [exec_frameTaken]
    exact run_follows (State.takeFrame_follows h p)
  | start a args =>
    rw [exec_start]
    exact run_follows (held (State.startCommand_follows h a args))
  | pauseArm a =>
    rw [exec_pauseArm]
    exact run_follows (held (State.pauseCommand_follows h a))
  | continueArm a =>
    rw [exec_continueArm]
    exact run_follows (held (State.continueCommand_follows h a))
  | abortArm a =>
    rw [exec_abortArm]
    exact run_follows (held (State.abortCommand_follows h a))
  | manualEnter a =>
    rw [exec_manualEnter]
    exact run_follows (held (State.enterManual_follows h a))
  | manualExit a =>
    rw [exec_manualExit]
    exact run_follows (held (State.exitManual_follows h a))
  | faultClear a =>
    rw [exec_faultClear]
    exact run_follows (held (State.armFaultClear_follows h a))
  | packNow args =>
    rw [exec_packNow]
    exact run_follows (held (State.toChamber_follows h args fun c => State.packNow_follows h c))
  | discharged args =>
    rw [exec_discharged]
    exact run_follows (held (State.toChamber_follows h args fun c => (State.follows_discharge c).2 h))
  | chamberFaultClear args =>
    rw [exec_chamberFaultClear]
    exact run_follows (held (State.toChamber_follows h args fun c => State.chamberFaultClear_follows h c))
  | errorPassive p =>
    rw [exec_errorPassive]
    exact run_follows (by exact h)
  | returnToActive p =>
    rw [exec_returnToActive]
    exact run_follows (by exact h)
  | busOff p =>
    rw [exec_busOff]
    exact run_follows (State.goBusOff_follows h p)
  | recoveryTimerExpiry p =>
    rw [exec_recoveryTimerExpiry]
    exact run_follows (State.recover_follows h p)
  | transmissionEnd p =>
    rw [exec_transmissionEnd]
    exact run_follows ((State.follows_noteLeft _).2 (by exact h))
  | freshnessLimitExpiry i =>
    rw [exec_freshnessLimitExpiry]
    exact run_follows ((State.follows_freshnessExpired i).2 h)
  | holdTimeExpiry i =>
    rw [exec_holdTimeExpiry]
    exact run_follows ((State.follows_holdExpired i).2 h)
  | oneSecondTimerExpiry =>
    rw [exec_oneSecondTimerExpiry]
    exact run_follows (State.secondPassed_follows h)
  | trueDelayExpiry g =>
    rw [exec_trueDelayExpiry]
    exact run_follows ((State.follows_delayExpired g).2 h)
  | stepTimerExpiry a =>
    rw [exec_stepTimerExpiry]
    exact run_follows (State.stepTimeout_follows h a)
  | durationTimerExpiry a =>
    rw [exec_durationTimerExpiry]
    exact run_follows (State.durationRun_follows h a)
  | repeatTimerExpiry =>
    rw [exec_repeatTimerExpiry]
    exact run_follows (State.repeatHighIdle_follows h)
  | runDownTimerExpiry =>
    rw [exec_runDownTimerExpiry]
    exact run_follows (State.endRunDown_follows h)
  | valveTick =>
    rw [exec_valveTick]
    exact run_follows (State.tick_follows h)
  | stillFrameInterval c =>
    rw [exec_stillFrameInterval]
    exact run_follows ((State.follows_stillFrame c).2 h)
  | gapTimerExpiry a =>
    rw [exec_gapTimerExpiry]
    exact run_follows ((State.follows_gapExpired a).2 h)
  | phaseTimerExpiry c =>
    rw [exec_phaseTimerExpiry]
    exact run_follows (State.phaseExpired_follows h c)
  | quietTimerExpiry c =>
    rw [exec_quietTimerExpiry]
    exact run_follows (State.quietExpired_follows h c)
  | periodTimerExpiry p =>
    rw [exec_periodTimerExpiry]
    exact run_follows (State.periodExpired_follows h p)
  | spacingTimerExpiry p =>
    rw [exec_spacingTimerExpiry]
    exact run_follows (State.spacingExpired_follows h p)
  | binUpdateComplete =>
    rw [exec_binUpdateComplete]
    exact run_follows (State.completeUpdate_follows h)
  | identify q =>
    rw [exec_identify]
    exact run_follows (State.manage_follows h _ q)
  | examine q =>
    rw [exec_examine]
    exact run_follows (State.manage_follows h _ q)
  | deposit q =>
    rw [exec_deposit]
    exact run_follows (State.manage_follows h _ q)
  | insertBin q =>
    rw [exec_insertBin]
    exact run_follows (State.manage_follows h _ q)
  | removeBin q =>
    rw [exec_removeBin]
    exact run_follows (State.manage_follows h _ q)
  | release q =>
    rw [exec_release]
    exact run_follows (State.manage_follows h _ q)
  | day q =>
    rw [exec_day]
    exact run_follows (State.manage_follows h _ q)
  | stepArm q =>
    rw [exec_stepArm]
    exact run_follows (State.manage_follows h _ q)
  | watchContinueProcess q =>
    rw [exec_watchContinueProcess]
    exact run_follows (State.manage_follows h _ q)
  | watchContinueDiscard q =>
    rw [exec_watchContinueDiscard]
    exact run_follows (State.manage_follows h _ q)
  | lock q =>
    rw [exec_lock]
    exact run_follows (State.manage_follows h _ q)
  | reset q =>
    rw [exec_reset]
    exact run_follows (State.manage_follows h _ q)
  | clear q =>
    rw [exec_clear]
    exact run_follows (State.manage_follows h _ q)
  | portClear q =>
    rw [exec_portClear]
    exact run_follows (State.manage_follows h _ q)
  | portSet q =>
    rw [exec_portSet]
    exact run_follows (State.manage_follows h _ q)
  | portRestart q =>
    rw [exec_portRestart]
    exact run_follows (State.manage_follows h _ q)

end

/-- Settles O6: the command at the front of the queue keeps it (`exec_follows`), and so does the block going on by itself. -/
theorem valveGroupsFollowTheirOwners : Obligations.ValveGroupsFollowTheirOwners := by
  unfold Obligations.ValveGroupsFollowTheirOwners
  intro s t h ht
  unfold step at ht
  split at ht
  · cases ht
    exact State.idle_follows h
  · exact exec_follows (by exact h) _ t ht

end Sys2Proof.Machine
end

section
/-! SUPPORT. The shared operations of Laws/Effects.lean where hand-overs may wait: they need no more of a calm state than that no watch
entry is armed, and leave the hand-overs as they are. -/

namespace Sys2Proof.Machine

section
variable {s : State} {c : Consumer} {d : Nat}

/-- No entry of Frame Watch is armed. -/
def State.disarmed (s : State) : Prop := ∀ e ∈ s.watch.entries, e.armed = false

theorem State.calm.disarmed (h : s.calm) : s.disarmed := h.2

theorem State.placeValveFrame_of_disarmed (h : s.disarmed) (c : Consumer) : s.placeValveFrame c = s.placed c (s.valve c) := by
  unfold State.placeValveFrame
  dsimp only
  rw [State.offerOwn_of_disarmed (by exact h), State.valveFrame_eq]
  rfl

theorem State.stopGroup_of_disarmed (h : s.disarmed) (c : Consumer) : s.stopGroup c = s.stopped c := by
  unfold State.stopGroup State.stopped
  dsimp only
  split
  · rw [State.placeValveFrame_of_disarmed (by exact h), State.setValve_valve, State.placed_setValve]
  · rfl

theorem State.driveGroup_setTargets (h : s.disarmed) (c : Consumer) (f : FnSet) (l : List Nat) (r : Nat) :
    (s.driveGroup c).setTargets c f l r = s.driven c f l r := by
  unfold State.setTargets State.driven State.driveGroup
  simp only [State.setValve_valve, State.setValve_setValve, if_true]
  split
  · rfl
  · rw [State.placeValveFrame_of_disarmed (by exact h), State.setValve_valve, State.placed_setValve]

theorem State.setTargets_of_driving (h : s.disarmed) (f : FnSet) (l : List Nat) (r : Nat) (hv : (s.valve c).driving = true) :
    s.setTargets c f l r = s.driven c f l r := by
  unfold State.setTargets State.driven
  simp only [hv, if_true]
  split
  · rfl
  · rw [State.placeValveFrame_of_disarmed (by exact h), State.setValve_valve, State.placed_setValve]

/-- A claim that its consumer's own place alone stands before is granted at once (R73). -/
theorem Arbiter.claim_of_fits {x : Arbiter} (hw : ∀ e ∈ x.waiting, e.1 = c)
    (hf : d = 0 ∨ (x.grants.put c 0).total + d ≤ x.capacity) :
    x.claim c d = ({ x with grants := x.grants.put c d, waiting := [] }, [], true) := by
  unfold Arbiter.claim
  rw [Arbiter.withdraw_of_noneWaits hw]
  by_cases hd : d = 0
  · subst hd; rfl
  · simp [hd, hf.resolve_left hd]

theorem State.judgeHighIdle_of_disarmed (h : s.disarmed) (x : Arbiter) : (s.setArbiter x).judgeHighIdle = s.flowChanged x := by
  unfold State.judgeHighIdle State.flowChanged
  simp only [← Arbiter.busy_iff, show (s.setArbiter x).arbiter = x from rfl]
  cases x.highIdle <;> cases x.busy <;> try rfl
  exact State.offerOwn_of_disarmed (by exact h) _ _

theorem State.claim_of_fits (h : s.disarmed) (hw : s.noneWaitsBut c)
    (hf : d = 0 ∨ (s.arbiter.grants.put c 0).total + d ≤ s.arbiter.capacity) : s.claim c d = (s.granted c d, true) := by
  unfold State.claim
  rw [Arbiter.claim_of_fits hw hf]
  simp only [List.map_nil, State.postAll_nil]
  rw [State.judgeHighIdle_of_disarmed h]
  rfl

theorem State.claim_at_once (h : s.disarmed) (hf : s.fits c d) : s.claim c d = (s.granted c d, true) :=
  State.claim_of_fits h (by rw [State.noneWaitsBut, hf.1]; exact nofun) hf.2

theorem State.claimNone_of_disarmed (h : s.disarmed) (hw : s.noneWaitsBut c) : s.claimNone c = s.granted c 0 :=
  congrArg Prod.fst (State.claim_of_fits h hw (.inl rfl))

/-! ## What they leave as it was -/

theorem State.disarmed_stopped : (s.stopped c).disarmed ↔ s.disarmed := by
  obtain ⟨v, p, hv⟩ := s.stopped_eq c
  rw [hv]
  exact .rfl

theorem State.disarmed_granted : (s.granted c d).disarmed ↔ s.disarmed := by
  obtain ⟨x, p, hv, -⟩ := s.granted_eq c d
  rw [hv]
  exact .rfl

theorem State.noneWaitsBut_stopped (hw : s.noneWaitsBut c) : (s.stopped c).noneWaitsBut c := by
  obtain ⟨v, p, hv⟩ := s.stopped_eq c
  rw [hv]
  exact hw

theorem State.stopped_handing (l : List Ev) : (s.handing l).stopped c = (s.stopped c).handing l := by
  unfold State.stopped
  dsimp only
  simp only [apply_ite (State.handing · l)]
  rfl

theorem State.driven_handing (f : FnSet) (k : List Nat) (r : Nat) (l : List Ev) :
    (s.handing l).driven c f k r = (s.driven c f k r).handing l := by
  unfold State.driven
  simp only [apply_ite (State.handing · l)]
  rfl

theorem State.flowChanged_handing (x : Arbiter) (l : List Ev) : (s.handing l).flowChanged x = (s.flowChanged x).handing l := by
  unfold State.flowChanged
  split <;> simp only [apply_ite (State.handing · l)] <;> rfl

theorem State.granted_handing (l : List Ev) : (s.handing l).granted c d = (s.granted c d).handing l :=
  State.flowChanged_handing _ l

theorem State.stopped_inProgressAs (r : Option (MgmtOp × Request)) : (s.inProgressAs r).stopped c = (s.stopped c).inProgressAs r := by
  unfold State.stopped
  dsimp only
  simp only [apply_ite (State.inProgressAs · r)]
  rfl

theorem State.driven_inProgressAs (f : FnSet) (k : List Nat) (n : Nat) (r : Option (MgmtOp × Request)) :
    (s.inProgressAs r).driven c f k n = (s.driven c f k n).inProgressAs r := by
  unfold State.driven
  simp only [apply_ite (State.inProgressAs · r)]
  rfl

theorem State.flowChanged_inProgressAs (x : Arbiter) (r : Option (MgmtOp × Request)) :
    (s.inProgressAs r).flowChanged x = (s.flowChanged x).inProgressAs r := by
  unfold State.flowChanged
  split <;> simp only [apply_ite (State.inProgressAs · r)] <;> rfl

theorem State.granted_inProgressAs (r : Option (MgmtOp × Request)) :
    (s.inProgressAs r).granted c d = (s.granted c d).inProgressAs r := State.flowChanged_inProgressAs _ r

end

end Sys2Proof.Machine
end

section
/-! SUPPORT. An arm that enters RUNNING in a step that does not end at once (R49, R50), from whatever state it stands in, and operator
commands outside a hold (R156). -/

namespace Sys2Proof.Machine

section
variable {s t : State} {a : ArmId} {c : Consumer} {d : StepEntry} {st : ArmState}

/-! ## Operator commands -/

theorem State.unlessHeld_of_free (h : s.watch.isHeld = false) (f : State → State) : s.unlessHeld f = f s := by
  unfold State.unlessHeld
  rw [h]
  exact if_neg Bool.false_ne_true

/-- An operator command that hands nothing on and changes no page answers its effect. -/
theorem operator_settled {i : Instr} {effect : State → State} (hi : exec i s = run i (fun s => s.unlessHeld effect) s)
    (hc : i.wellFormed = true) (hw : s.watch.isHeld = false) (he : effect s = t) (ht : t.settled) : exec i s = .next t :=
  hi.trans (run_settled hc ((State.unlessHeld_of_free hw effect).trans he) ht)

/-- An operator command that hands nothing on answers its effect, followed by status pages alone. -/
theorem operator_afterPages {i : Instr} {effect : State → State} (hi : exec i s = run i (fun s => s.unlessHeld effect) s)
    (hc : i.wellFormed = true) (hw : s.watch.isHeld = false) (he : effect s = t) (ht : t.calm) :
    ∃ v, exec i s = .next v ∧ t.AfterPages v := by
  rw [hi]
  exact run_afterPages hc ((State.unlessHeld_of_free hw effect).trans he) ht

/-! ## Steps that run on once entered -/

/-- A POSITION step whose term is not TRUE, or a TIME step with a duration. -/
def State.runsOn (s : State) (d : StepEntry) : Prop :=
  d.endKind = .position ∧ s.termTrue d.endParam = false ∨ d.endKind = .time ∧ 0 < d.endParam

theorem State.runsOn.congr (h : s.runsOn d) (ht : t.terms = s.terms) : t.runsOn d := by
  unfold State.runsOn State.termTrue at h ⊢
  rw [ht]
  exact h

theorem State.runsOn.loopable (h : s.runsOn d) : d.endKind.isFixed = false := by
  rcases h with ⟨h, -⟩ | ⟨h, -⟩ <;> rw [h] <;> rfl

theorem StepEntry.claimed_of_loopable (h : d.endKind.isFixed = false) : d.claimed = d.demand := by
  unfold StepEntry.claimed; rw [h]; rfl

theorem StepEntry.driven_of_loopable (h : d.endKind.isFixed = false) : d.driven = d.functions := by
  unfold StepEntry.driven; rw [h]; rfl

theorem StepEntry.target_of_loopable (h : d.endKind.isFixed = false) : d.target = d.level := by
  unfold StepEntry.target; rw [h]; rfl

theorem State.tellBlock_of_loopable {k : EndKind} (h : k.isFixed = false) : s.tellBlock a k = s := by
  cases k <;> first | rfl | cases h

theorem State.runsOn.endsAtEntry (h : s.runsOn d) : s.endsAtEntry a d = false := by
  unfold State.endsAtEntry
  rcases h with ⟨hk, ht⟩ | ⟨hk, hp⟩
  · rw [hk]; exact ht
  · rw [hk]; exact decide_eq_false (Nat.ne_of_gt hp)

/-- The arm RUNNING in a step that does not end at once: its timers run on from what they have left. -/
def Arm.runningIn (x : Arm) (d : StepEntry) : Arm :=
  { x with
    state := .running, stepTimer := x.stepTimer.resume,
    durationTimer := if d.endKind = .time then x.durationTimer.resume else x.durationTimer, keptEnd := false }

/-- The Valve Output Unit drives what a step gives it. -/
def State.drivenBy (s : State) (c : Consumer) (d : StepEntry) : State :=
  s.driven c d.functions (List.replicate 6 d.level) d.ramp

theorem State.enterRunning_eq (h : s.disarmed) (hd : s.currentStep a = some d) (hr : s.runsOn d) :
    s.enterRunning a = (s.setArm a ((s.arm a).runningIn d)).drivenBy a.consumer d := by
  have hk := hr.loopable
  obtain ⟨v, p, hv⟩ := s.driven_eq a.consumer d.functions (List.replicate 6 d.level) d.ramp
  have hends (k : Arm) : ((s.driven a.consumer d.functions (List.replicate 6 d.level) d.ramp).setArm a k).endsAtEntry a d =
      false := (hr.congr (t := State.setArm _ a k) (by rw [hv]; rfl)).endsAtEntry
  have hstate : s.setArmState a .running = (s.setArm a { s.arm a with state := .running }).driveGroup a.consumer :=
    if_neg fun h => h.2 rfl
  unfold State.enterRunning State.drivenBy
  simp only [hd, StepEntry.driven_of_loopable hk, StepEntry.target_of_loopable hk]
  rw [hstate, State.driveGroup_setTargets (by exact h), State.driven_setArm, State.setArm_arm, State.setArm_setArm,
    State.tellBlock_of_loopable hk, hends, if_neg Bool.false_ne_true, State.setArm_arm, State.setArm_setArm, State.driven_setArm]
  rfl

theorem State.claimStep_runs (h : s.disarmed) (hd : s.currentStep a = some d) (hr : s.runsOn d) (hf : s.fits a.consumer d.demand) :
    s.claimStep a =
      ((s.setArm a ((s.arm a).runningIn d)).granted a.consumer d.demand).drivenBy a.consumer d := by
  obtain ⟨y, p, hg, -⟩ := s.granted_eq a.consumer d.demand
  have hcur : (s.granted a.consumer d.demand).currentStep a = some d := by rw [hg]; exact hd
  have harm : (s.granted a.consumer d.demand).arm a = s.arm a := by rw [hg]; rfl
  unfold State.claimStep
  simp only [hd, StepEntry.claimed_of_loopable hr.loopable, State.claim_at_once h hf]
  rw [State.enterRunning_eq (State.disarmed_granted.2 h) hcur (hr.congr (by rw [hg])), harm, State.granted_setArm]

theorem State.calm_drivenBy : (s.drivenBy c d).calm ↔ s.calm := State.calm_driven _ _ _ _

theorem State.resumeStep_of_guard (h : s.given a.runGuard = true) : s.resumeStep a = s.claimStep a := if_pos h

theorem State.granted_cfg_mgmt (c : Consumer) (n : Nat) : (s.granted c n).cfg = s.cfg ∧ (s.granted c n).mgmt = s.mgmt := by
  obtain ⟨x, p, e, -⟩ := s.granted_eq c n
  rw [e]
  exact ⟨rfl, rfl⟩

theorem State.drivenBy_cfg_mgmt (c : Consumer) (d : StepEntry) : (s.drivenBy c d).cfg = s.cfg ∧ (s.drivenBy c d).mgmt = s.mgmt := by
  obtain ⟨x, p, e⟩ := s.driven_eq c d.functions (List.replicate 6 d.level) d.ramp
  rw [State.drivenBy, e]
  exact ⟨rfl, rfl⟩

/-! ## An arm that comes to rest (R56, R67) -/

/-- A change to a state that does not move, out of RUNNING with no window OPEN. -/
theorem State.setArmState_rests (h : s.disarmed) (hd : st.drives = false)
    (ho : (s.arm a).state = .running → (s.weighUnit a).isOpen = false) :
    s.setArmState a st = (s.setArm a { s.arm a with state := st }).stopped a.consumer := by
  obtain ⟨v, p, hv⟩ := (s.setArm a { s.arm a with state := st }).stopped_eq a.consumer
  have hstill (hr : (s.arm a).state = .running) : State.stallWindow
      ((s.setArm a { s.arm a with state := st }).stopped a.consumer) a =
        (s.setArm a { s.arm a with state := st }).stopped a.consumer := by
    rw [hv]
    exact if_neg (ne_true_of_eq_false (ho hr))
  unfold State.setArmState
  dsimp only
  rw [hd, if_neg Bool.false_ne_true, State.stopGroup_of_disarmed (by exact h)]
  split
  · exact hstill (And.left ‹_›)
  · rfl

/-- The same with the claim given back, nobody else waiting. -/
theorem State.setArmState_rests_claimNone (h : s.disarmed) (hd : st.drives = false)
    (ho : (s.arm a).state = .running → (s.weighUnit a).isOpen = false) (hw : s.noneWaitsBut a.consumer) :
    (s.setArmState a st).claimNone a.consumer =
      ((s.setArm a { s.arm a with state := st }).stopped a.consumer).granted a.consumer 0 := by
  rw [State.setArmState_rests h hd ho,
    State.claimNone_of_disarmed (State.disarmed_stopped.2 (by exact h)) (State.noneWaitsBut_stopped (by exact hw))]

theorem State.armStop_rests (h : s.disarmed) (hd : st.drives = false)
    (ho : (s.arm a).state = .running → (s.weighUnit a).isOpen = false) (hw : s.noneWaitsBut a.consumer) :
    s.armStop a st = ((s.setArm a ((s.arm a).stoppedIn st)).stopped a.consumer).granted a.consumer 0 := by
  unfold State.armStop
  rw [State.setArmState_rests_claimNone (by exact h) hd (by rw [State.setArm_arm]; exact ho) (by exact hw), State.setArm_arm,
    State.setArm_setArm]
  rfl

theorem State.leaveManual_rests (h : s.disarmed) (hd : st.drives = false) (hm : (s.arm a).state ≠ .running)
    (hw : s.noneWaitsBut a.consumer) :
    s.leaveManual a st =
      ((s.setArm a { s.arm a with state := st, manualGranted := false, prior := none, grantedHeld := false }).stopped
        a.consumer).granted a.consumer 0 := by
  unfold State.leaveManual
  rw [State.setArmState_rests_claimNone (by exact h) hd (by rw [State.setArm_arm]; exact fun h => absurd h hm) (by exact hw),
    State.setArm_arm, State.setArm_setArm]

theorem State.calm_armAtRest (h : s.calm) (x : Arm) : (((s.setArm a x).stopped a.consumer).granted a.consumer 0).calm :=
  (State.calm_granted _ _).2 ((State.calm_stopped _).2 h)

theorem State.calm_armRuns (h : s.calm) (x : Arm) (d : StepEntry) (n : Nat) :
    (((s.setArm a x).granted a.consumer n).drivenBy a.consumer d).calm :=
  State.calm_drivenBy.2 ((State.calm_granted _ _).2 h)

end

end Sys2Proof.Machine
end

section
/-! SUPPORT. A step's end (R53 to R55, R70): the cycle that ends, and the position reached, from whatever the arm keeps of its cycle. -/

namespace Sys2Proof.Machine

section
variable {s : State} {a : ArmId} {x : Arm} {g : ProgramEntry} {d : StepEntry} {p q n fuel : Nat} {r : LogRecord}
  {o : CycleOutcome} {st : ArmState}

/-! ## The cycle ends -/

/-- Two arms in the same cycle at the same position: timers, loop counters, marks and fault code may differ. -/
structure Arm.SameCycle (x y : Arm) : Prop where
  state : x.state = y.state
  ended : ∀ st k, x.ended st k = y.ended st k
  program : x.program = y.program
  position : x.position = y.position
  openRecord : x.openRecord = y.openRecord

theorem State.setArm_eq_withParts (x : Arm) : s.setArm a x = s.withParts (s.arms.put a.second x) s.weigh s.bins s.log := rfl

theorem State.cycleOver_setArm {k : ArmFault} (hx : x.SameCycle (s.arm a)) :
    (s.setArm a x).cycleOver a n r o st k = s.cycleOver a n r o st k := by
  rw [State.cycleOver_eq, State.cycleOver_eq, State.setArm_arm, hx.ended st k, State.setArm_arms, Duo.put_put,
    State.setArm_eq_withParts, State.stopped_withParts, State.granted_withParts]
  rfl

/-- The end of a cycle whose arm has only its timers, loop counters and marks changed. -/
theorem State.setArm_cycleEnd (hx : x.SameCycle (s.arm a)) (h : s.calm) (ho : (s.weighUnit a).isOpen = false)
    (hq : (s.weighUnit a).quiet = false) (hw : s.noneWaitsBut a.consumer) (hn : (s.arm a).openRecord = some n)
    (hr : s.log.openRecord n = some r) (ht : r.flags.tipped = false) :
    (s.setArm a x).cycleEnd a o = s.cycleOver a n r o o.armState x.fault := by
  have hend := State.cycleEnd_eq (s := s.setArm a x) (a := a) (n := n) (r := r) (o := o) (by exact h) (by exact ho) (by exact hq)
    (by exact hw) (by rw [State.setArm_arm, hx.openRecord, hn]) (.inl ⟨hr, ht⟩) x.fault
  rw [State.setArm_arm, State.setArm_setArm] at hend
  exact hend.trans (State.cycleOver_setArm hx)

theorem State.calm_cycleOver (h : s.calm) {k : ArmFault} : (s.cycleOver a n r o st k).calm := by
  rw [State.cycleOver_eq]
  exact (State.calm_granted _ _).2 ((State.calm_stopped _).2 h)

theorem State.programDone_setArm :
    (s.setArm a x).programDone a = (s.setArm a x).cycleEnd a (if x.refused then .refused else .completed) := by
  unfold State.programDone
  rw [State.setArm_arm]

/-! ## Positions passed over (R54) -/

theorem StepEntry.passedOver_iff (e : StepEntry) :
    e.passedOver = true ↔
      e.endKind = .weighGross ∨ e.endKind = .weighTare ∨ e.endKind = .tipMark ∨ e.functions.getLsbD 2 = true := by
  unfold StepEntry.passedOver StepEntry.liftsUp
  cases e.endKind <;> simp

/-- The first position that the cycle does not pass over. -/
theorem State.afterPassing_eq_some (hd : s.stepAt a q = some d) (hx : (s.arm a).refused = true → d.passedOver = false) {m : Nat}
    (hm : q ≤ m) :
    ∀ {fuel p : Nat}, p ≤ q → q < p + fuel →
      (∀ j, p ≤ j → j < q → (s.arm a).refused = true ∧ ∃ e, s.stepAt a j = some e ∧ e.passedOver = true) →
      s.afterPassing a m fuel p = some q
  | 0, p, hp, hf, _ => absurd hf (by omega)
  | fuel + 1, p, hp, hf, hall => by
    rcases Nat.eq_or_lt_of_le hp with rfl | hlt
    · unfold State.afterPassing
      simp only [hd]
      rw [if_neg]
      intro h
      obtain ⟨h1, h2⟩ := Bool.and_eq_true_iff.1 h
      exact absurd (h2.symm.trans (hx h1)) (by decide)
    · obtain ⟨hr, e, he, hpass⟩ := hall p le_rfl hlt
      unfold State.afterPassing
      simp only [he, hr, hpass, Bool.and_self, if_true]
      rw [if_neg (by omega)]
      exact State.afterPassing_eq_some hd hx hm hlt (by omega) fun j hj hjq => hall j (Nat.le_of_succ_le hj) hjq

/-- Every position up to the last is passed over. -/
theorem State.afterPassing_eq_none (hx : (s.arm a).refused = true) {m : Nat} :
    ∀ {fuel p : Nat}, p ≤ m → m < p + fuel →
      (∀ j, p ≤ j → j ≤ m → ∃ e, s.stepAt a j = some e ∧ e.passedOver = true) → s.afterPassing a m fuel p = none
  | 0, p, hp, hf, _ => absurd hf (by omega)
  | fuel + 1, p, hp, hf, hall => by
    obtain ⟨e, he, hpass⟩ := hall p le_rfl hp
    unfold State.afterPassing
    simp only [he, hx, hpass, Bool.and_self, if_true]
    split
    · rfl
    · exact State.afterPassing_eq_none hx (by omega) (by omega) fun j hj hjm => hall j (Nat.le_of_succ_le hj) hjm

/-! ## The position reached (R49, R70) -/

/-- The arm at position `q`, both timers loaded for its step (R49). -/
def Arm.loadedAt (x : Arm) (q : Nat) (d : StepEntry) : Arm :=
  { x with
    position := some q, stepTimer := { running := false, left := d.timeLimit },
    durationTimer := { running := false, left := if d.endKind = .time then d.endParam else 0 }, keptEnd := false }

theorem State.loadStep_eq (hd : s.stepAt a q = some d) : s.loadStep a q = s.setArm a ((s.arm a).loadedAt q d) := by
  have hstep : (s.setArm a { s.arm a with position := some q, keptEnd := false }).stepAt a q = some d := by
    rw [← hd]
    unfold State.stepAt State.programOf
    rw [State.setArm_arm]
    rfl
  unfold State.loadStep
  simp only [hstep, State.setArm_arm, State.setArm_setArm]
  unfold Arm.loadedAt
  congr 2
  split <;> rfl

theorem State.stepAt_setArm (hx : x.program = (s.arm a).program) (j : Nat) : (s.setArm a x).stepAt a j = s.stepAt a j := by
  unfold State.stepAt State.programOf
  rw [State.setArm_arm, hx]
  rfl

theorem State.currentStep_setArm_loadedAt (hx : x.program = (s.arm a).program) (hd : s.stepAt a q = some d) :
    (s.setArm a (x.loadedAt q d)).currentStep a = some d := by
  unfold State.currentStep
  rw [State.setArm_arm]
  exact (State.stepAt_setArm (x := x.loadedAt q d) hx q).trans hd

/-- A step entered with the guard given and its flow granted at once. -/
theorem State.enterStep_runs (h : s.disarmed) (hd : s.stepAt a q = some d) (hg : s.given a.runGuard = true)
    (hf : s.fits a.consumer d.demand) (hr : s.runsOn d) :
    s.enterStep a q =
      ((s.setArm a (((s.arm a).loadedAt q d).runningIn d)).granted a.consumer d.demand).drivenBy a.consumer d := by
  unfold State.enterStep
  dsimp only
  rw [State.loadStep_eq hd, if_pos (by exact hg),
    State.claimStep_runs (by exact h) (State.currentStep_setArm_loadedAt rfl hd) (by exact hr) (by exact hf),
    State.setArm_arm, State.setArm_setArm]

/-- A step entered without the guard. -/
theorem State.enterStep_suspends (h : s.disarmed) (hd : s.stepAt a q = some d) (hg : s.given a.runGuard = false)
    (ho : (s.weighUnit a).isOpen = false) (hw : s.noneWaitsBut a.consumer) :
    s.enterStep a q =
      ((s.setArm a { (s.arm a).loadedAt q d with state := .suspended }).stopped a.consumer).granted a.consumer 0 := by
  unfold State.enterStep
  dsimp only
  rw [State.loadStep_eq hd, if_neg (by exact ne_true_of_eq_false hg),
    State.armStop_rests (by exact h) rfl (fun _ => by exact ho) (by exact hw), State.setArm_arm, State.setArm_setArm]
  rfl

/-- What an arm finds at the position it has reached: a pause in single-step operation, a missing guard, or a step that runs on with its
flow granted at once. -/
def State.reaches (s : State) (a : ArmId) (single : Bool) (y : Arm) (d : StepEntry) (v : State) : Prop :=
  single = true ∧
      v = ((s.setArm a { y with state := .paused, singleStep := false }).stopped a.consumer).granted a.consumer 0 ∨
    single = false ∧ s.given a.runGuard = false ∧
      v = ((s.setArm a { y with state := .suspended }).stopped a.consumer).granted a.consumer 0 ∨
    single = false ∧ s.given a.runGuard = true ∧ s.fits a.consumer d.demand ∧ s.runsOn d ∧
      v = ((s.setArm a (y.runningIn d)).granted a.consumer d.demand).drivenBy a.consumer d

theorem State.reaches.calm {single : Bool} {y : Arm} {v : State} (hv : s.reaches a single y d v) (h : s.calm) : v.calm := by
  rcases hv with ⟨-, rfl⟩ | ⟨-, -, rfl⟩ | ⟨-, -, -, -, rfl⟩
  · exact State.calm_armAtRest h _
  · exact State.calm_armAtRest h _
  · exact State.calm_armRuns h _ _ _

/-- An arm goes to the position that it does not pass over. -/
theorem State.goTo_reaches {v : State} {single : Bool} {m : Nat} (h : s.disarmed) (ho : (s.weighUnit a).isOpen = false)
    (hw : s.noneWaitsBut a.consumer) (hx : x.program = (s.arm a).program) (hpq : p ≤ q) (hfuel : q < p + 33)
    (hq : q ≤ m) (hd : s.stepAt a q = some d) (hpass : x.refused = true → d.passedOver = false)
    (hall : ∀ j, p ≤ j → j < q → x.refused = true ∧ ∃ e, s.stepAt a j = some e ∧ e.passedOver = true) (hs : x.singleStep = single)
    (hv : s.reaches a single (x.loadedAt q d) d v) : (s.setArm a x).goTo a m p = v := by
  have hd' : (s.setArm a x).stepAt a q = some d := (State.stepAt_setArm hx q).trans hd
  have hafter : (s.setArm a x).afterPassing a m 33 p = some q := by
    refine State.afterPassing_eq_some hd' (by rwa [State.setArm_arm]) hq hpq hfuel ?_
    rw [State.setArm_arm]
    simpa only [State.stepAt_setArm hx] using hall
  unfold State.goTo
  simp only [hafter, State.setArm_arm, hs]
  rcases hv with ⟨rfl, rfl⟩ | ⟨rfl, hg, rfl⟩ | ⟨rfl, hg, hf, hr, rfl⟩
  · rw [if_pos rfl, State.loadStep_eq hd', State.armStop_rests (by exact h) rfl (fun _ => by exact ho) (by exact hw)]
    simp only [State.setArm_arm, State.setArm_setArm]
    rfl
  · rw [if_neg Bool.false_ne_true, State.enterStep_suspends (by exact h) hd' (by exact hg) (by exact ho) (by exact hw),
      State.setArm_arm, State.setArm_setArm]
  · rw [if_neg Bool.false_ne_true, State.enterStep_runs (by exact h) hd' (by exact hg) (by exact hf) (by exact hr),
      State.setArm_arm, State.setArm_setArm]

/-- A refused cycle with no position left ends. -/
theorem State.goTo_passesAll {m : Nat} (hx : x.program = (s.arm a).program) (hm : m ≤ 32) (hpm : p ≤ m) (hr : x.refused = true)
    (hall : ∀ j, p ≤ j → j ≤ m → ∃ e, s.stepAt a j = some e ∧ e.passedOver = true) :
    (s.setArm a x).goTo a m p = (s.setArm a x).cycleEnd a .refused := by
  have hafter : (s.setArm a x).afterPassing a m 33 p = none := by
    refine State.afterPassing_eq_none (by rwa [State.setArm_arm]) hpm (by omega) ?_
    simpa only [State.stepAt_setArm hx] using hall
  unfold State.goTo
  simp only [hafter]

/-! ## Passing on from a step (R53) -/

theorem StepEntry.loops_of_loopable (h : d.endKind.isFixed = false) : d.loops = d.loopCount := by
  unfold StepEntry.loops; rw [h]; rfl

theorem EndKind.isFixed_eq_false_iff {k : EndKind} : k.isFixed = false ↔ k = .position ∨ k = .time := by
  cases k <;> simp [EndKind.isFixed]

/-- Going back while the loop counter is below the count in effect. -/
theorem State.passOn_loops (hx : x.loopCounter p < d.loops) :
    (s.setArm a x).passOn a g p d =
      (s.setArm a { x with loops := x.loops.set (p - 1) (x.loopCounter p + 1) }).goTo a g.stepCount (p - d.loopDistance) := by
  unfold State.passOn
  simp only [State.setArm_arm, State.setArm_setArm]
  exact if_pos hx

/-- Going on once the loop counter has reached it. -/
theorem State.passOn_leaves (hx : ¬ x.loopCounter p < d.loops) :
    (s.setArm a x).passOn a g p d =
      if d.endKind = .tag ∧ x.refused = true then
        (s.setArm a { x with loops := x.loops.set (p - 1) 0 }).goTo a g.stepCount g.returnStep
      else if g.stepCount ≤ p then (s.setArm a { x with loops := x.loops.set (p - 1) 0 }).programDone a
      else (s.setArm a { x with loops := x.loops.set (p - 1) 0 }).goTo a g.stepCount (p + 1) := by
  unfold State.passOn
  simp only [State.setArm_arm, State.setArm_setArm]
  exact if_neg hx

/-- The current step of an arm ends that has only its timers, loop counters and marks changed. -/
theorem State.finishStep_setArm (hx : x.SameCycle (s.arm a)) (hg : s.programOf a = some g) (hp : (s.arm a).position = some p)
    (hd : s.currentStep a = some d) :
    (s.setArm a x).finishStep a =
      (if d.endKind = .tipMark then (s.setArm a { x with keptEnd := false }).markTip a
        else s.setArm a { x with keptEnd := false }).passOn a g p d := by
  have hg' : (s.setArm a x).programOf a = some g := by
    rw [← hg]
    unfold State.programOf
    rw [State.setArm_arm, hx.program]
    rfl
  have hp' : ((s.setArm a x).arm a).position = some p := by rw [State.setArm_arm, hx.position, hp]
  have hd' : (s.setArm a x).currentStep a = some d := by
    rw [← hd]
    unfold State.currentStep
    rw [hp', hp]
    exact State.stepAt_setArm hx.program p
  unfold State.finishStep
  rw [hg', hp', hd']
  simp only [State.setArm_arm, State.setArm_setArm]

theorem State.endEvent_of_running (h : (s.arm a).state = .running) : s.endEvent a = s.finishStep a := if_pos h

theorem State.durationRun_of_running (h : (s.arm a).state = .running) (ht : (s.arm a).durationTimer.running = true) :
    s.durationRun a = (s.setArm a { s.arm a with durationTimer := .stopped }).finishStep a := by
  refine (if_pos ⟨h, ht⟩).trans (State.endEvent_of_running ?_)
  rw [State.setArm_arm]
  exact h

/-- The step timer of a POSITION or TIME step whose timeout action is FAULT (R51). -/
theorem State.stepTimeout_faults (h : (s.arm a).state = .running) (ht : (s.arm a).stepTimer.running = true)
    (hd : s.currentStep a = some d) (hk : d.endKind = .position ∨ d.endKind = .time) (ho : d.onTimeout = .fault) :
    s.stepTimeout a = (s.setArm a { s.arm a with stepTimer := .stopped }).armFault a .stepTimeout := by
  unfold State.stepTimeout
  dsimp only
  rw [if_pos ⟨h, ht⟩, hd]
  dsimp only
  rcases hk with hk | hk <;> rw [hk, ho]

/-- The same with timeout action NEXT: the step ends. -/
theorem State.stepTimeout_ends (h : (s.arm a).state = .running) (ht : (s.arm a).stepTimer.running = true)
    (hd : s.currentStep a = some d) (hk : d.endKind = .position ∨ d.endKind = .time) (ho : d.onTimeout = .next) :
    s.stepTimeout a = (s.setArm a { s.arm a with stepTimer := .stopped }).finishStep a := by
  have hend : s.stepTimeout a = (s.setArm a { s.arm a with stepTimer := .stopped }).endEvent a := by
    unfold State.stepTimeout
    dsimp only
    rw [if_pos ⟨h, ht⟩, hd]
    dsimp only
    rcases hk with hk | hk <;> rw [hk, ho]
  refine hend.trans (State.endEvent_of_running ?_)
  rw [State.setArm_arm]
  exact h

end

end Sys2Proof.Machine
end

section
/-! The statement on arm commands without effect and on the admission checks (R45 to R47). -/

namespace Sys2Proof.Machine

section
variable {s : State} {a : ArmId} {x : Arm}

/-! ## Commands without effect (R45) -/

theorem State.settled.setArm (h : s.settled) (hx : x.pageBytes = (s.arm a).pageBytes) : (s.setArm a x).settled :=
  h.congr rfl rfl rfl (State.allPages_setArm hx)

/-- An operator command that only counts itself on its arm answers just that. -/
theorem operator_counts {i : Instr} {effect : State → State} (hi : exec i s = run i (fun s => s.unlessHeld effect) s)
    (hc : i.wellFormed = true) (hw : s.watch.isHeld = false) (h : s.settled) (he : effect s = s.setArm a x)
    (hx : x.pageBytes = (s.arm a).pageBytes) : exec i s = .next (s.setArm a x) :=
  operator_settled hi hc hw he (h.setArm hx)

theorem State.pauseCommand_ignored (h : (s.arm a).state = .idle ∨ (s.arm a).state = .paused ∨ (s.arm a).state = .held ∨
    (s.arm a).state = .manual ∨ (s.arm a).state = .faulted) : s.pauseCommand a = s.ignoreArmCommand a := by
  unfold State.pauseCommand
  rcases h with h | h | h | h | h <;> rw [h]

theorem State.abortCommand_ignored (h : (s.arm a).state = .idle ∨ (s.arm a).state = .held ∨ (s.arm a).state = .faulted) :
    s.abortCommand a = s.ignoreArmCommand a := by
  unfold State.abortCommand
  rcases h with h | h | h <;> rw [h]

theorem State.startCommand_of_large {b : Byte} {l : List Byte} (h : 3 < b.toNat) : s.startCommand a (b :: l) = s.badArmCommand a :=
  if_pos h

theorem State.startCommand_of_size {b : Byte} {l : List Byte} (h : b.toNat ≤ 3) :
    s.startCommand a (b :: l) =
      if (s.arm a).state = .idle then s.tryStart a b.toNat false else s.ignoreArmCommand a := if_neg (Nat.not_lt.2 h)

theorem start_wellFormed {b : Byte} {l : List Byte} (h : l.length ≤ 6) : (Instr.start a (b :: l)).wellFormed = true :=
  decide_eq_true (Nat.succ_le_succ h)

/-! ## Admission (R46, R47) -/

/-- The checks in their order: the first that fails gives the refusal. -/
theorem State.admissionCheck_refuses {size : Nat} {r : ArmRefusal}
    (h : s.validSelection a size = none ∧ r = .programInvalid ∨
      s.validSelection a size ≠ none ∧
        (s.given a.liftPermit = false ∧ r = .noPermit ∨
          s.given a.liftPermit = true ∧
            (2048 - s.log.records.length ≤ s.cfg.reserve ∧ r = .logReserve ∨
              s.cfg.reserve < 2048 - s.log.records.length ∧ (s.chamber a.chamber).load = .full ∧ r = .chamberFull))) :
    s.admissionCheck a size = .error r := by
  have hfree : s.log.free = 2048 - s.log.records.length := rfl
  unfold State.admissionCheck
  rcases h with ⟨hv, rfl⟩ | ⟨hv, h⟩
  · rw [hv]
  · obtain ⟨n, hn⟩ := Option.ne_none_iff_exists'.1 hv
    rw [hn]
    rcases h with ⟨hp, rfl⟩ | ⟨hp, h⟩
    · simp [hp]
    · rcases h with ⟨hr, rfl⟩ | ⟨hr, hf, rfl⟩
      · simp [hp, hfree, hr]
      · simp [hp, hfree, Nat.not_le.2 hr, hf]

/-- All checks passed. -/
theorem State.admissionCheck_admits {size n : Nat} (hv : s.validSelection a size = some n) (hp : s.given a.liftPermit = true)
    (hr : s.cfg.reserve < 2048 - s.log.records.length) (hf : (s.chamber a.chamber).load ≠ .full) :
    s.admissionCheck a size = .ok n := by
  have hfree : s.log.free = 2048 - s.log.records.length := rfl
  simp [State.admissionCheck, hv, hp, hfree, Nat.not_le.2 hr, hf]

theorem State.refuseStart_calm (h : s.calm) (r : ArmRefusal) : (s.refuseStart a r).calm := h

/-- Beside the refusal code only the model's note of page 0 differs. -/
theorem State.refuseStart_afterPages (r : ArmRefusal) :
    (s.setArm a { s.arm a with refusal := r }).AfterPages (s.refuseStart a r) := State.paged_afterPages _ _ _

end

/-- Settles O25: a command that only counts itself leaves the state settled (`operator_counts`), and a refused START changes its code
alone (`State.admissionCheck_refuses`). -/
theorem armCommandsRefusedOrIgnored : Obligations.ArmCommandsRefusedOrIgnored := by
  unfold Obligations.ArmCommandsRefusedOrIgnored
  rintro s a x ignored bad hw rfl rfl rfl
  refine ⟨fun hs => ⟨?_, fun b l hl => ⟨fun hb => ?_, fun hb hi => ?_⟩, fun h => ?_, fun h => ?_, fun h => ?_, fun h => ?_,
    fun h => ?_, fun h => ?_⟩, fun b l r hs hl hb hi h => ?_⟩
  · exact operator_counts (exec_start a [] s) rfl hw hs rfl rfl
  · exact operator_counts (exec_start a _ s) (start_wellFormed hl) hw hs (State.startCommand_of_large hb) rfl
  · exact operator_counts (exec_start a _ s) (start_wellFormed hl) hw hs ((State.startCommand_of_size hb).trans (if_neg hi)) rfl
  · exact operator_counts (exec_pauseArm a s) rfl hw hs (State.pauseCommand_ignored h) rfl
  · exact operator_counts (exec_continueArm a s) rfl hw hs (if_neg h) rfl
  · exact operator_counts (exec_abortArm a s) rfl hw hs (State.abortCommand_ignored h) rfl
  · exact operator_counts (exec_manualEnter a s) rfl hw hs (if_neg h) rfl
  · exact operator_counts (exec_manualExit a s) rfl hw hs (if_neg h) rfl
  · exact operator_counts (exec_faultClear a s) rfl hw hs (if_neg h) rfl
  · have hstart : s.startCommand a (b :: l) = s.refuseStart a r := by
      rw [State.startCommand_of_size hb, if_pos hi, State.tryStart, State.admissionCheck_refuses h]
    obtain ⟨t, ht, hp⟩ := operator_afterPages (exec_start a _ s) (start_wellFormed hl) hw hstart (State.refuseStart_calm hs r)
    exact ⟨t, ht, (State.refuseStart_afterPages r).trans hp⟩

end Sys2Proof.Machine
end

section
/-! The statements on stopping commands and on the end of a cycle (R51, R55 to R62, R67). -/

namespace Sys2Proof.Machine

section
variable {s : State} {a : ArmId}

theorem State.pauseCommand_stops (h : (s.arm a).state = .running ∨ (s.arm a).state = .waitSupply ∨ (s.arm a).state = .suspended) :
    s.pauseCommand a = (s.setArm a { s.arm a with singleStep := false }).armStop a .paused := by
  unfold State.pauseCommand
  rcases h with h | h | h <;> rw [h]

theorem State.abortCommand_ofManual (h : (s.arm a).state = .manual) : s.abortCommand a = s.leaveManual a .idle := by
  unfold State.abortCommand; rw [h]

theorem State.abortCommand_ofCycle (h : (s.arm a).state = .running ∨ (s.arm a).state = .waitSupply ∨
    (s.arm a).state = .suspended ∨ (s.arm a).state = .paused) : s.abortCommand a = s.cycleEnd a .aborted := by
  unfold State.abortCommand
  rcases h with h | h | h | h <;> rw [h]

end

/-- Settles O27: PAUSE stops the arm (`State.armStop_rests`), MANUAL is left (`State.leaveManual_rests`), a fault is cleared from a STOPPED
group. -/
theorem stoppingCommandsStopTheArm : Obligations.StoppingCommandsStopTheArm := by
  unfold Obligations.StoppingCommandsStopTheArm
  refine fun s a hs hw => ⟨fun hst ho hn => ?_, fun hm hn c hc => ?_, fun hf hv => ?_⟩
  · refine operator_afterPages (exec_pauseArm a s) rfl hw ((State.pauseCommand_stops hst).trans ?_) (State.calm_armAtRest hs _)
    rw [State.armStop_rests (by exact hs.2) rfl (fun _ => by exact ho) (by exact hn), State.setArm_arm, State.setArm_setArm]
    rfl
  · have hleave : s.leaveManual a .idle = _ :=
      State.leaveManual_rests hs.2 rfl (fun h => nomatch hm.symm.trans h) hn
    rcases hc with rfl | rfl
    · exact operator_afterPages (exec_manualExit a s) rfl hw ((if_pos hm).trans hleave) (State.calm_armAtRest hs _)
    · exact operator_afterPages (exec_abortArm a s) rfl hw ((State.abortCommand_ofManual hm).trans hleave)
        (State.calm_armAtRest hs _)
  · refine operator_afterPages (exec_faultClear a s) rfl hw ((if_pos hf).trans ?_) (by exact hs)
    rw [State.setArmState_rests (by exact hs.2) rfl (by rw [State.setArm_arm]; exact fun h => nomatch hf.symm.trans h),
      State.stopped_of_still (by exact hv), State.setArm_arm, State.setArm_setArm]

/-- Settles O28: each of the three ends is the end of a cycle whose arm has only its timers, loop counters and code changed
(`State.setArm_cycleEnd`). -/
theorem cycleEndClosesTheRecord : Obligations.CycleEndClosesTheRecord := by
  unfold Obligations.CycleEndClosesTheRecord
  intro s a n r c o st k hs hn hr ht ho hq hw hc
  have hend {x : Arm} (hx : x.SameCycle (s.arm a)) (o : CycleOutcome) :
      (s.setArm a x).cycleEnd a o = s.cycleOver a n r o o.armState x.fault := State.setArm_cycleEnd hx hs ho hq hw hn hr ht
  rcases hc with ⟨rfl, hh, hst, rfl, rfl, rfl⟩ | ⟨rfl, hst, htm, ⟨p, hp, hk, hto⟩, rfl, rfl, rfl⟩ |
    ⟨rfl, hst, htm, hrf, ⟨g, p, hg, hpos, hp, hk, hl⟩, rfl, rfl, rfl⟩
  · have habort := hend (x := s.arm a) ⟨rfl, fun _ _ => rfl, rfl, rfl, rfl⟩ .aborted
    rw [State.setArm_self] at habort
    exact operator_afterPages (exec_abortArm a s) rfl hh ((State.abortCommand_ofCycle hst).trans habort) (State.calm_cycleOver hs)
  · have hcycle : ((s.setArm a { s.arm a with stepTimer := .stopped }).arm a).inCycle = true := by
      rw [State.setArm_arm, Arm.inCycle, hst]
      rfl
    have hfault : s.stepTimeout a = s.cycleOver a n r .faulted .faulted .stepTimeout := by
      rw [State.stepTimeout_faults hst htm hp hk hto, State.armFault, if_pos hcycle, State.setArm_arm, State.setArm_setArm,
        hend (by exact ⟨rfl, fun _ _ => rfl, rfl, rfl, rfl⟩)]
      rfl
    rw [exec_stepTimerExpiry]
    exact run_afterPages rfl hfault (State.calm_cycleOver hs)
  · have hloops : p.loops = p.loopCount := StepEntry.loops_of_loopable (EndKind.isFixed_eq_false_iff.2 (.inr hk))
    have hdone : s.durationRun a = s.cycleOver a n r .completed .idle (s.arm a).fault := by
      rw [State.durationRun_of_running hst htm, State.finishStep_setArm (by exact ⟨rfl, fun _ _ => rfl, rfl, rfl, rfl⟩) hg hpos hp,
        if_neg (by rw [hk]; nofun), State.passOn_leaves (by rw [hloops]; exact Nat.not_lt.2 hl), if_neg (by rw [hk]; nofun),
        if_pos le_rfl, State.programDone_setArm, hend (by exact ⟨rfl, fun _ _ => rfl, rfl, rfl, rfl⟩), hrf]
      rfl
    rw [exec_durationTimerExpiry]
    exact run_afterPages rfl hdone (State.calm_cycleOver hs)

end Sys2Proof.Machine
end

section
/-! The statement on how a step's end passes on (R51, R53 to R55, R70). -/

namespace Sys2Proof.Machine

section
variable {s : State} {a : ArmId} {c : Consumer} {x y : Arm} {d : StepEntry} {v : State} {single : Bool}

/-! ## The arm's own part beside the Log and a hand-over -/

/-- The Log and the hand-overs that wait are replaced. -/
def State.besides (s : State) (l : LiftLog) (es : List Ev) : State := { s with log := l, agenda := es }

theorem State.besides_eq (l : LiftLog) (es : List Ev) :
    s.besides l es = (s.withParts s.arms s.weigh s.bins l).handing es := rfl

theorem State.stopped_besides (l : LiftLog) (es : List Ev) : (s.besides l es).stopped c = (s.stopped c).besides l es := by
  obtain ⟨w, p, hw⟩ := s.stopped_eq c
  rw [State.besides_eq, State.stopped_handing, State.stopped_withParts, hw]
  rfl

theorem State.granted_besides (n : Nat) (l : LiftLog) (es : List Ev) :
    (s.besides l es).granted c n = (s.granted c n).besides l es := by
  obtain ⟨w, p, hw, -⟩ := s.granted_eq c n
  rw [State.besides_eq, State.granted_handing, State.granted_withParts, hw]
  rfl

theorem State.drivenBy_besides (l : LiftLog) (es : List Ev) :
    (s.besides l es).drivenBy c d = (s.drivenBy c d).besides l es := by
  unfold State.drivenBy
  obtain ⟨w, p, hw⟩ := s.driven_eq c d.functions (List.replicate 6 d.level) d.ramp
  rw [State.besides_eq, State.driven_handing, State.driven_withParts, hw]
  rfl

/-- What an arm finds at its position rests neither on the Log nor on the hand-overs that wait. -/
theorem State.reaches.besides (h : s.reaches a single y d v) (l : LiftLog) (es : List Ev) :
    (s.besides l es).reaches a single y d (v.besides l es) := by
  rcases h with ⟨hs, rfl⟩ | ⟨hs, hg, rfl⟩ | ⟨hs, hg, hf, hr, rfl⟩
  · refine .inl ⟨hs, ?_⟩
    rw [← State.granted_besides, ← State.stopped_besides]
    rfl
  · refine .inr (.inl ⟨hs, hg, ?_⟩)
    rw [← State.granted_besides, ← State.stopped_besides]
    rfl
  · refine .inr (.inr ⟨hs, hg, hf, hr, ?_⟩)
    rw [← State.drivenBy_besides, ← State.granted_besides]
    rfl

/-- A step that a RUNNING arm runs on in, its timers written out. -/
theorem Arm.runningIn_loadedAt (h : x.state = .running) (q : Nat) (d : StepEntry) :
    (x.loadedAt q d).runningIn d =
      { x.loadedAt q d with
        stepTimer := { running := true, left := d.timeLimit },
        durationTimer := { (x.loadedAt q d).durationTimer with running := decide (d.endKind = .time) } } := by
  unfold Arm.runningIn Arm.loadedAt
  rw [h]
  split
  · next h => rw [decide_eq_true h]; rfl
  · next h => rw [decide_eq_false h]; rfl

/-- A TIP_MARK step ends (R53): the record is marked and one tip handed on. -/
theorem State.markTip_setArm {n : Nat} (ha : s.agenda = []) (hn : x.openRecord = some n) :
    (s.setArm a x).markTip a = (s.besides (s.log.enter n LogRecord.withTipped) [.tip a.chamber]).setArm a x := by
  unfold State.markTip State.post
  simp only [State.setArm_arm, hn]
  show State.mk .. = State.mk ..
  congr 1
  exact congrArg (· ++ _) ha

/-- The loop counter has reached the count in effect: always so at a fixed kind (R41). -/
theorem StepEntry.loops_le {n : Nat} (h : (d.endKind ≠ .position ∧ d.endKind ≠ .time) ∨ d.loopCount ≤ n) : ¬ n < d.loops := by
  unfold StepEntry.loops
  cases hk : d.endKind <;> simp only [EndKind.isFixed, hk] at h ⊢ <;> simp_all

end

/-- Settles O29: a step's end is followed through the loop-back (`State.passOn_loops`, `State.passOn_leaves`) to the position that the
cycle does not pass over (`State.goTo_reaches`), or to the cycle's end. -/
theorem stepEndPassesOn : Obligations.StepEndPassesOn := by
  unfold Obligations.StepEndPassesOn
  intro s a g p k skipped overEnd goes passes hs hst hpos hg hk hcount ho hq hw hskip hover hgoes hpasses v
  have hsk (e : StepEntry) : skipped e ↔ e.passedOver = true := (hskip e).trans e.passedOver_iff.symm
  have hends {x : Arm} {o : CycleOutcome} {v : State} (hx : x.SameCycle (s.arm a)) (hf : x.fault = (s.arm a).fault)
      (hi : o.armState = .idle) (h : overEnd o v) : (s.setArm a x).cycleEnd a o = v ∧ v.calm := by
    obtain ⟨n, r, hn, hr, ht, rfl⟩ := (hover o v).1 h
    exact ⟨by rw [State.setArm_cycleEnd hx hs ho hq hw hn hr ht, hi, hf], State.calm_cycleOver hs⟩
  have hreach {x : Arm} {target : Nat} {v : State} (h : goes x target v) (hx : x.state = .running) :
      (∃ q d, target ≤ q ∧ q ≤ g.stepCount ∧ s.stepAt a q = some d ∧ (x.refused = true → d.passedOver = false) ∧
        (∀ j, target ≤ j → j < q → x.refused = true ∧ ∃ e, s.stepAt a j = some e ∧ e.passedOver = true) ∧
        s.reaches a x.singleStep (x.loadedAt q d) d v) ∨
      x.refused = true ∧ target ≤ g.stepCount ∧
        (∀ j, target ≤ j → j ≤ g.stepCount → ∃ e, s.stepAt a j = some e ∧ e.passedOver = true) ∧ overEnd .refused v := by
    simp only [hgoes, hsk] at h
    rcases h with ⟨q, d, y, h1, h2, h3, h4, h5, rfl, h6⟩ | h
    · refine .inl ⟨q, d, h1, h2, h3, fun hr => Bool.eq_false_iff.2 (h4 hr), h5, ?_⟩
      rcases h6 with ⟨hv, rfl⟩ | ⟨hv, hgd, rfl⟩ | ⟨hv, hgd, hf, hr, rfl⟩
      · exact .inl ⟨hv, rfl⟩
      · exact .inr (.inl ⟨hv, hgd, rfl⟩)
      · refine .inr (.inr ⟨hv, hgd, hf, hr, ?_⟩)
        rw [Arm.runningIn_loadedAt hx]
        rfl
    · exact .inr h
  have hgo {x : Arm} {target : Nat} {v : State} (h : goes x target v) (hx : x.SameCycle (s.arm a))
      (hf : x.fault = (s.arm a).fault) : (s.setArm a { x with keptEnd := false }).goTo a g.stepCount target = v ∧ v.calm := by
    rcases hreach h (hx.state.trans hst) with ⟨q, d, h1, h2, h3, h4, h5, h6⟩ | ⟨h1, h2, h3, h4⟩
    · exact ⟨State.goTo_reaches hs.2 ho hw hx.program h1 (by omega) h2 h3 h4 h5 rfl h6, h6.calm hs⟩
    · rw [State.goTo_passesAll (by exact hx.program) hcount h2 (by exact h1) h3]
      exact hends ⟨hx.state, fun st k => hx.ended st k, hx.program, hx.position, hx.openRecord⟩ hf rfl h4
  have hpass {x : Arm} {v : State} (h : passes x v) (hnt : k.endKind ≠ .tipMark) (hx : x.SameCycle (s.arm a))
      (hf : x.fault = (s.arm a).fault) : (s.setArm a x).finishStep a = v ∧ v.calm := by
    rw [State.finishStep_setArm hx hg hpos hk, if_neg hnt]
    have hsame (l : List Nat) : ({ x with loops := l } : Arm).SameCycle (s.arm a) :=
      ⟨hx.state, fun st k => hx.ended st k, hx.program, hx.position, hx.openRecord⟩
    rcases (hpasses x v).1 h with ⟨hkind, hc, hd, h⟩ | ⟨hc, z, rfl, h⟩
    · rw [State.passOn_loops (by rw [StepEntry.loops_of_loopable (EndKind.isFixed_eq_false_iff.2 hkind)]; exact hc)]
      exact hgo h (hsame _) hf
    · rw [State.passOn_leaves (by exact StepEntry.loops_le hc)]
      rcases h with ⟨htag, href, h⟩ | ⟨hno, hlt, h⟩ | ⟨hno, hle, h⟩
      · rw [if_pos ⟨htag, href⟩]
        exact hgo h (hsame _) hf
      · rw [if_neg (fun hb => hno.elim (· hb.1) fun hr => absurd (hb.2.symm.trans hr) (by decide)), if_neg (Nat.not_le.2 hlt)]
        exact hgo h (hsame _) hf
      · rw [if_neg (fun hb => hno.elim (· hb.1) fun hr => absurd (hb.2.symm.trans hr) (by decide)), if_pos hle,
          State.programDone_setArm]
        exact hends ⟨hx.state, fun st k => hx.ended st k, hx.program, hx.position, hx.openRecord⟩ hf 
          (by show CycleOutcome.armState (if x.refused = true then _ else _) = _; split <;> rfl) h
  refine ⟨fun hkind htm h => ?_, fun hkind hto htm h => ?_, fun hnt h => ?_, fun n htip hlt href hn h => ?_⟩
  · obtain ⟨he, hcalm⟩ := hpass h (by rw [hkind]; nofun) ⟨rfl, fun _ _ => rfl, rfl, rfl, rfl⟩ rfl
    rw [exec_durationTimerExpiry]
    exact run_afterPages rfl ((State.durationRun_of_running hst htm).trans he) hcalm
  · obtain ⟨he, hcalm⟩ := hpass h (by rcases hkind with hkind | hkind <;> rw [hkind] <;> nofun)
      ⟨rfl, fun _ _ => rfl, rfl, rfl, rfl⟩ rfl
    rw [exec_stepTimerExpiry]
    exact run_afterPages rfl ((State.stepTimeout_ends hst htm hk hkind hto).trans he) hcalm
  · have he := (hpass h hnt ⟨rfl, fun _ _ => rfl, rfl, rfl, rfl⟩ rfl).1
    rwa [State.setArm_self] at he
  · have hfix : ¬ (k.endKind = .position ∨ k.endKind = .time) := by rw [htip]; rintro (h | h) <;> cases h
    have hnotTag : k.endKind ≠ .tag := by rw [htip]; nofun
    obtain ⟨hc, z, rfl, h⟩ := ((hpasses _ v).1 h).resolve_left fun h => hfix h.1
    have hgoes' : goes { s.arm a with loops := (s.arm a).loops.set (p - 1) 0 } (p + 1) v := by
      rcases h with ⟨htag, -⟩ | ⟨-, -, h⟩ | ⟨-, hle, -⟩
      · exact absurd htag hnotTag
      · exact h
      · exact absurd hle (Nat.not_le.2 hlt)
    obtain ⟨q, d, h1, h2, h3, h4, h5, h6⟩ := (hreach hgoes' (by exact hst)).resolve_right fun h => absurd (h.1.symm.trans href) (by decide)
    have hfinish := State.finishStep_setArm (x := s.arm a) (by exact ⟨rfl, fun _ _ => rfl, rfl, rfl, rfl⟩) hg hpos hk
    rw [State.setArm_self, if_pos htip, State.markTip_setArm hs.1 (by exact hn),
      State.passOn_leaves (by exact StepEntry.loops_le hc), if_neg (fun hb => hnotTag hb.1), if_neg (Nat.not_le.2 hlt)] at hfinish
    exact hfinish.trans (State.goTo_reaches (by exact hs.2) (by exact ho) (by exact hw) (by exact rfl) h1 (by omega) h2 h3 h4 h5 rfl (by exact h6.besides _ _))

end Sys2Proof.Machine
end

section
/-! The statements on an admitted START and on CONTINUE and STEP (R47 to R50, R58, R69, R70, R140). -/

namespace Sys2Proof.Machine

section
variable {s : State} {a : ArmId} {n : Nat} {g : ProgramEntry} {d : StepEntry}

/-! ## START admitted -/

/-- The arm with its cycle opened (R48): the program's first position, no step entered yet. -/
def Arm.openedIn (x : Arm) (n seq : Nat) : Arm :=
  { x with
    state := .waitSupply, program := some n, position := some 1, loops := List.replicate 32 0, refused := false, singleStep := false,
    openRecord := some seq, refusal := .none, keptEnd := false }

theorem State.openCycle_eq (h : s.disarmed) (hi : (s.arm a).state = .idle) (hv : (s.valve a.consumer).driving = false) (size n : Nat) :
    s.openCycle a size n false = (s.openLift a size).setArm a ((s.arm a).openedIn n s.log.nextSeq) := by
  unfold State.openCycle
  dsimp only
  rw [State.setArmState_rests (by exact h) rfl (by rw [State.setArm_arm]; exact fun hr => nomatch hi.symm.trans hr), State.setArm_arm,
    State.setArm_setArm, State.stopped_of_still (by exact hv)]
  rfl

theorem State.admissionFault_none (hp : s.roleValue a.posRole ≠ none) (hb : s.ports.snd.state ≠ .off) :
    s.admissionFault a = (s, none) := by
  obtain ⟨v, hv⟩ := Option.ne_none_iff_exists'.1 hp
  unfold State.admissionFault
  rw [hv, decide_eq_false (by exact hb)]
  rfl

/-- The program's first step, loaded. -/
theorem Arm.openedIn_runningIn (x : Arm) (n seq : Nat) (hk : d.endKind = .position) :
    ((x.openedIn n seq).loadedAt 1 d).runningIn d =
      { x with
        state := .running, program := some n, position := some 1, loops := List.replicate 32 0,
        stepTimer := .start d.timeLimit, durationTimer := .stopped, singleStep := false, refused := false,
        openRecord := some seq, refusal := .none, keptEnd := false } := by
  unfold Arm.runningIn Arm.loadedAt
  rw [hk, if_neg nofun, if_neg nofun]
  rfl

end

/-- Settles O26: the checks pass (`State.admissionCheck_admits`), the record is placed and the arm enters its first step
(`State.enterStep_runs`). -/
theorem startOpensTheCycle : Obligations.StartOpensTheCycle := by
  unfold Obligations.StartOpensTheCycle
  intro s a b l n g p hs hw hl hb hi hsel hpermit hres hload hpos hport hguard hg hp hk ht hf hv
  have hstep : ((s.openLift a b.toNat).setArm a ((s.arm a).openedIn n s.log.nextSeq)).stepAt a 1 = some p := by
    unfold State.stepAt State.programOf
    rw [State.setArm_arm]
    show ((some n).bind fun n => s.programs[n]?).bind _ = _
    rw [Option.bind_some, hg]
    exact hp
  have hstart : s.startCommand a (b :: l) = _ :=
    calc s.startCommand a (b :: l)
      _ = s.admitCycle a b.toNat n false := by
        rw [State.startCommand_of_size hb, if_pos hi, State.tryStart, State.admissionCheck_admits hsel hpermit hres hload]
      _ = ((s.openLift a b.toNat).setArm a ((s.arm a).openedIn n s.log.nextSeq)).enterStep a 1 := by
        rw [State.admitCycle, State.openCycle_eq hs.2 hi hv, State.admissionFault_none (by exact hpos) (by exact hport)]
      _ = _ := State.enterStep_runs (by exact hs.2) hstep (by exact hguard) (by exact hf) (by exact .inl ⟨hk, ht⟩)
  rw [State.setArm_arm, State.setArm_setArm, Arm.openedIn_runningIn _ _ _ hk] at hstart
  obtain ⟨t, hrun, hpages⟩ := operator_afterPages (exec_start a _ s) (start_wellFormed hl) hw hstart
    (State.calm_armRuns (by exact hs) _ _ _)
  exact ⟨t, _, hrun, rfl, hpages⟩

section
variable {s : State} {a : ArmId} {d : StepEntry}

/-! ## CONTINUE and STEP in PAUSED -/

/-- The arm resumes its POSITION step with the single-step flag as given. -/
def State.resumedAs (s : State) (a : ArmId) (single : Bool) (d : StepEntry) : State :=
  ((s.setArm a { s.arm a with
    state := .running, singleStep := single, stepTimer := { (s.arm a).stepTimer with running := true },
    keptEnd := false }).granted a.consumer d.demand).drivenBy a.consumer d

theorem State.resumeStep_runs (h : s.disarmed) (hg : s.given a.runGuard = true) (hd : s.currentStep a = some d)
    (hk : d.endKind = .position) (ht : s.termTrue d.endParam = false) (hf : s.fits a.consumer d.demand) (single : Bool) :
    (s.setArm a { s.arm a with singleStep := single }).resumeStep a = s.resumedAs a single d := by
  have hcur : (s.setArm a { s.arm a with singleStep := single }).currentStep a = some d := by
    rw [← hd]
    unfold State.currentStep
    rw [State.setArm_arm]
    exact congrArg (Option.bind (s.arm a).position) (funext (State.stepAt_setArm rfl))
  rw [State.resumeStep_of_guard (by exact hg), State.claimStep_runs (by exact h) hcur (.inl ⟨hk, by exact ht⟩) (by exact hf),
    State.setArm_arm, State.setArm_setArm, Arm.runningIn, if_neg (by rw [hk]; nofun)]
  rfl

theorem State.resumedAs_inProgressAs (single : Bool) (r : Option (MgmtOp × Request)) :
    (s.inProgressAs r).resumedAs a single d = (s.resumedAs a single d).inProgressAs r := by
  unfold State.resumedAs State.drivenBy
  rw [← State.driven_inProgressAs, ← State.granted_inProgressAs]
  rfl

theorem State.resumedAs_cfg_mgmt (s : State) (a : ArmId) (single : Bool) (d : StepEntry) :
    (s.resumedAs a single d).cfg = s.cfg ∧ (s.resumedAs a single d).mgmt = s.mgmt := by
  unfold State.resumedAs
  exact ⟨(State.drivenBy_cfg_mgmt _ _).1.trans (State.granted_cfg_mgmt _ _).1,
    (State.drivenBy_cfg_mgmt _ _).2.trans (State.granted_cfg_mgmt _ _).2⟩

theorem armOfIndex_of {q : Request} (h : q.index = (match a with | .armA => 0 | .armB => 1)) : armOfIndex q.indexN = some a := by
  unfold Request.indexN; rw [h]; cases a <;> rfl

/-- STEP in PAUSED (R69, R70). -/
theorem State.doStep_paused {q : Request} (hq : armOfIndex q.indexN = some a) (hw : s.watch.isHeld = false)
    (hp : (s.arm a).state = .paused) :
    s.doStep q = ((s.setArm a { s.arm a with singleStep := true }).resumeStep a).answer .step statusOk q 0 := by
  unfold State.doStep
  simp only [hq, hw, hp]
  rfl

end

/-- Settles O32: both commands resume the step (`State.resumeStep_runs`); STEP answers besides. -/
theorem continueAndStepResumeTheStep : Obligations.ContinueAndStepResumeTheStep := by
  unfold Obligations.ContinueAndStepResumeTheStep
  intro s a p u hw hp hg hd hk ht hf hu
  have hresumed (single : Bool) : u single = s.resumedAs a single p := hu single
  refine ⟨fun hs => ?_, fun q hs hi hsv hq => ?_⟩
  · rw [hresumed]
    exact operator_afterPages (exec_continueArm a s) rfl hw
      ((if_pos hp).trans (State.resumeStep_runs hs.2 hg hd hk ht hf false)) (State.calm_armRuns hs _ _ _)
  · have hact : s.manage .step q = ((s.resumedAs a true p).inProgressAs (some (.step, q))).answer .step statusOk q 0 := by
      rw [State.manage_operates hi (State.judgeRequest_of_level (op := .step) nofun nofun nofun hsv), ← State.resumedAs_inProgressAs]
      refine (State.doStep_paused (armOfIndex_of hq) (by exact hw) (by exact hp)).trans ?_
      exact congrArg (State.answer · .step statusOk q 0)
        (State.resumeStep_runs (by exact hs.2) (by exact hg) (by exact hd) hk (by exact ht) (by exact hf) true)
    have hcalm : (s.resumedAs a true p).calm := State.calm_armRuns hs _ _ _
    obtain ⟨hcfg, hmgmt⟩ := s.resumedAs_cfg_mgmt a true p
    rw [exec_stepArm, hresumed]
    obtain ⟨t, hrun, hafter⟩ := run_afterReply (c := .stepArm q) rfl hact hcalm.1 hcalm.unwatched
      (by rw [hmgmt]; exact hi) (.inl nofun)
    rw [State.replyTo_congr hcfg] at hafter
    exact ⟨t, hrun, hafter⟩

end Sys2Proof.Machine
end

section
/-! The statement on MANUAL_ENTER and JOY (R65, R66). -/

namespace Sys2Proof.Machine

/-! ## Rounding fixes one number -/

theorem Rounds.le {p q x y : Int} (hy : 0 < y) (hq : Rounds q x y) (hp : Rounds p x y) : q ≤ p := by
  by_contra hlt
  obtain ⟨hq1, hq2⟩ := hq
  obtain ⟨hp1, hp2⟩ := hp
  have hqu : 2 * (q * y - x) ≤ y := (le_abs_self _).trans hq1
  have hpl : -y ≤ 2 * (p * y - x) := neg_le_of_abs_le hp1
  have hge : (p + 1) * y ≤ q * y := Int.mul_le_mul_of_nonneg_right (by omega) hy.le
  have hone : q = p + 1 := by nlinarith
  subst hone
  have hdist : (p + 1) * y = p * y + y := by ring
  have hxq := hq2 (by rw [abs_of_nonneg (by omega)]; omega)
  have hxp := hp2 (by rw [abs_of_nonpos (by omega)]; omega)
  rcases le_or_gt 0 p with h | h
  · have hpy : 0 ≤ p * y := mul_nonneg h hy.le
    rw [abs_of_nonneg hpy, abs_of_nonneg (by omega)] at hxp
    omega
  · have hpy : (p + 1) * y ≤ 0 := mul_nonpos_of_nonpos_of_nonneg (by omega) hy.le
    rw [abs_of_nonpos hpy, abs_of_nonpos (by omega)] at hxq
    omega

/-- A quotient has one rounded value. -/
theorem Rounds.unique {p q x y : Int} (hy : 0 < y) (hq : Rounds q x y) (hp : Rounds p x y) : q = p :=
  le_antisymm (hq.le hy hp) (hp.le hy hq)

section
variable {s : State} {a : ArmId} {c : Consumer} {j : Int}

/-! ## The target JOY gives (R66) -/

/-- The present target of the lift functions: JOY scaled, with its dead band and its limit; 0 without JOY. -/
def State.joyGives (s : State) (a : ArmId) (j : Int) : Prop :=
  s.roleValue a.joyRole = none ∧ j = 0 ∨
    ∃ v q : Int, s.roleValue a.joyRole = some v ∧ Rounds q (v * (s.armSettings a).fa) (s.armSettings a).fb ∧
      j = if |q| ≤ 30 then 0 else max (-((s.armSettings a).manualMax : Int)) (min (s.armSettings a).manualMax q)

theorem joyTarget_eq {k : ArmSettings} {v q : Int} (hb : 1 ≤ k.fb) (h : Rounds q (v * k.fa) k.fb) :
    joyTarget k v = if |q| ≤ 30 then 0 else max (-(k.manualMax : Int)) (min k.manualMax q) := by
  have hpos : (0 : Int) < k.fb := by omega
  unfold joyTarget
  rw [(roundDiv_rounds hpos (v * k.fa)).unique hpos h]
  dsimp only
  rw [holdTo_eq (by omega)]
  have hband : q.natAbs ≤ 30 ↔ |q| ≤ 30 := by rw [Int.abs_eq_natAbs]; omega
  simp only [hband]

/-- The manual targets from the present JOY value. -/
theorem State.manualTargets_eq (hb : 1 ≤ (s.armSettings a).fb) (h : s.joyGives a j) :
    s.manualTargets a =
      s.setTargets a.consumer 12 [0, 0, j.toNat, (-j).toNat, 0, 0] (s.armSettings a).manualRamp := by
  unfold State.manualTargets
  rcases h with ⟨hn, rfl⟩ | ⟨v, q, hv, hq, rfl⟩
  · simp only [hn]
    rfl
  · simp only [hv, joyTarget_eq hb hq]
    rfl

/-! ## MANUAL_ENTER admitted (R65) -/

theorem State.flowChanged_setValve (g : ValveGroup) (x : Arbiter) :
    (s.setValve c g).flowChanged x = (s.flowChanged x).setValve c g := by
  unfold State.flowChanged
  split <;> simp only [apply_ite (State.setValve · c g)] <;> rfl

theorem State.driveGroup_granted (n : Nat) (d : Consumer) : (s.driveGroup c).granted d n = (s.granted d n).driveGroup c := by
  have hvalve : (s.granted d n).valve c = s.valve c := by
    obtain ⟨x, p, e, -⟩ := s.granted_eq d n
    rw [e]
    rfl
  unfold State.driveGroup
  rw [hvalve]
  exact State.flowChanged_setValve _ _

theorem State.setArmState_manual (hr : (s.arm a).state ≠ .running) :
    s.setArmState a .manual = (s.setArm a { s.arm a with state := .manual }).driveGroup a.consumer := by
  unfold State.setArmState
  dsimp only
  rw [if_neg fun h => hr h.1]
  exact if_pos rfl

/-- MANUAL taken with the flow granted at once: the flag set, the lift functions driven from JOY. -/
theorem State.beginManual_eq (h : s.disarmed) (hr : (s.arm a).state ≠ .running) (hb : 1 ≤ (s.armSettings a).fb)
    (hj : s.joyGives a j) (hf : s.fits a.consumer (s.armSettings a).manualDemand) :
    s.beginManual a =
      ((s.setArm a { s.arm a with
        state := .manual, manualGranted := true, lastManualPos := s.roleValue a.posRole }).granted a.consumer
          (s.armSettings a).manualDemand).driven a.consumer 12 [0, 0, j.toNat, (-j).toNat, 0, 0] (s.armSettings a).manualRamp := by
  have hdrive (z : State) (x : Arm) : (z.driveGroup a.consumer).setArm a x = (z.setArm a x).driveGroup a.consumer := rfl
  have harm (z : State) (x : Arm) : ((z.setArm a x).driveGroup a.consumer).arm a = x := State.setArm_arm z a x
  unfold State.beginManual
  dsimp only
  rw [State.setArmState_manual (by rw [State.setArm_arm]; exact hr), State.setArm_arm, State.setArm_setArm]
  simp only [show (s.setArm a _).armSettings a = s.armSettings a from rfl]
  rw [State.claim_at_once (by exact h) (by exact hf), State.driveGroup_granted, State.granted_setArm]
  dsimp only
  obtain ⟨x, p, e, -⟩ := s.granted_eq a.consumer (s.armSettings a).manualDemand
  rw [State.manualGrant, harm, hdrive, State.setArm_setArm, State.granted_setArm, e, State.manualTargets_eq (by exact hb) (by exact hj),
    State.driveGroup_setTargets (by exact h)]
  rfl

theorem State.joyEvent_eq (h : s.disarmed) (hm : (s.arm a).state = .manual) (hg : (s.arm a).manualGranted = true)
    (hb : 1 ≤ (s.armSettings a).fb) (hj : s.joyGives a j) (hv : (s.valve a.consumer).driving = true) :
    s.joyEvent a = s.driven a.consumer 12 [0, 0, j.toNat, (-j).toNat, 0, 0] (s.armSettings a).manualRamp := by
  unfold State.joyEvent
  rw [if_pos ⟨hm, hg⟩, State.manualTargets_eq hb hj, State.setTargets_of_driving h _ _ _ hv]

/-- MANUAL_ENTER in IDLE: the permit, the chamber, then MANUAL (R65). -/
theorem State.enterManual_idle (hi : (s.arm a).state = .idle) :
    s.enterManual a =
      if s.given a.manualPermit = false then s.setArm a { s.arm a with refusal := .noPermit }
      else if (s.chamber a.chamber).load = .full then s.setArm a { s.arm a with refusal := .chamberFull }
      else s.beginManual a := by
  unfold State.enterManual
  rw [if_pos hi]
  cases s.given a.manualPermit <;> rfl

end

/-- Settles O33: the checks of `State.enterManual_idle`, MANUAL itself (`State.beginManual_eq`) and JOY in it (`State.joyEvent_eq`). -/
theorem manualEnterTakesTheArm : Obligations.ManualEnterTakesTheArm := by
  unfold Obligations.ManualEnterTakesTheArm
  intro s a j hs hb hj
  refine ⟨fun hw hi => ?_, fun hm hv => ⟨fun hg => State.joyEvent_eq hs.2 hm hg hb hj hv, fun hg => ?_⟩⟩
  · have henter := State.enterManual_idle (s := s) (a := a) hi
    refine ⟨fun hp => ?_, fun hp hf => ?_, fun hp hf hfits => ?_⟩
    · rw [if_pos hp] at henter
      exact operator_afterPages (exec_manualEnter a s) rfl hw henter hs
    · rw [if_neg (by rw [hp]; decide), if_pos hf] at henter
      exact operator_afterPages (exec_manualEnter a s) rfl hw henter hs
    · rw [if_neg (by rw [hp]; decide), if_neg hf,
        State.beginManual_eq hs.2 (fun hr => nomatch hi.symm.trans hr) hb hj hfits] at henter
      exact operator_afterPages (exec_manualEnter a s) rfl hw henter
        ((State.calm_driven _ _ _ _).2 ((State.calm_granted _ _).2 hs))
  · unfold State.joyEvent
    exact if_neg fun h => absurd (hg.symm.trans h.2) (by decide)

end Sys2Proof.Machine
end

section
/-! The statement on manual tips (R68, R99, R143). -/

namespace Sys2Proof.Machine

/-! ## Finding a bin -/

/-- In a table without a tag twice the entry of a tag is the one found. -/
theorem findBin_of_mem : ∀ {l : List BinEntry} {e : BinEntry}, (l.map fun e => e.data.tag).Pairwise (· < ·) → e ∈ l →
    findBin e.data.tag l = some e
  | b :: l, e, h, he => by
    obtain ⟨hb, hl⟩ := List.pairwise_cons.1 h
    unfold findBin
    rw [List.find?_cons]
    rcases List.mem_cons.1 he with rfl | he
    · rw [decide_eq_true rfl]
    · have hne : b.data.tag ≠ e.data.tag := Nat.ne_of_lt (hb _ (List.mem_map_of_mem he))
      rw [decide_eq_false hne]
      exact findBin_of_mem hl he

theorem findBin_eq_none {tag : Nat} {l : List BinEntry} : findBin tag l = none ↔ ∀ e ∈ l, e.data.tag ≠ tag := by
  unfold findBin
  simp

section
variable {s : State} {a : ArmId} {tag : Option Nat} {found : Option BinEntry} {last : Option TagRead}

/-! ## The tag and the entry of a manual tip (R93, R99) -/

/-- The last tag that a manual tip uses, and what it leaves of it. -/
def State.takesTag (s : State) (a : ArmId) (tag : Option Nat) (last : Option TagRead) : Prop :=
  tag = none ∧ last = (s.arm a).lastTag ∧ (∀ k, (s.arm a).lastTag = some k → s.cfg.tagWindow < s.now - k.readAt) ∨
    (∃ k, (s.arm a).lastTag = some k ∧ s.now - k.readAt ≤ s.cfg.tagWindow ∧ tag = some k.tag) ∧ last = none

/-- The entry of that tag. -/
def State.findsEntry (s : State) (tag : Option Nat) (found : Option BinEntry) : Prop :=
  found = none ∧ (∀ e ∈ s.bins.entries, tag ≠ some e.data.tag) ∨
    ∃ e ∈ s.bins.entries, tag = some e.data.tag ∧ found = some e

theorem State.tagInWindow_eq (h : s.takesTag a tag last) : s.tagInWindow a = tag := by
  unfold State.tagInWindow
  rcases h with ⟨rfl, -, h⟩ | ⟨⟨k, hk, hw, rfl⟩, -⟩
  · split
    · next k hk => exact if_neg (Nat.not_le.2 (h k hk))
    · rfl
  · rw [hk]
    exact if_pos hw

theorem State.findsEntry.find (hs : s.binsAscending) {n : Nat} (h : s.findsEntry (some n) found) :
    findBin n s.bins.entries = found := by
  rcases h with ⟨rfl, h⟩ | ⟨e, he, ht, rfl⟩
  · exact findBin_eq_none.2 fun e he hn => h e he (congrArg some hn.symm)
  · cases ht
    exact findBin_of_mem hs he

/-- A manual tip writes its record with its tag and entry, the last tag used up when it counts. -/
theorem State.manualTip_eq (hb : s.bins.update = none) (hs : s.binsAscending) (ht : s.takesTag a tag last)
    (hf : s.findsEntry tag found) :
    s.manualTip a = (s.setArm a { s.arm a with lastTag := last }).writeManualTip a tag (found.map BinEntry.data) := by
  unfold State.manualTip
  rw [State.tagInWindow_eq ht]
  rcases ht with ⟨rfl, rfl, -⟩ | ⟨⟨k, -, -, rfl⟩, rfl⟩
  · have hnone : found = none := hf.elim And.left fun ⟨e, _, h, _⟩ => nomatch h
    rw [hnone]
    exact congrArg (State.writeManualTip · a none none) (State.setArm_self _ a).symm
  · dsimp only
    rw [if_neg (by show ¬ s.bins.update.isSome = true; rw [hb]; exact Bool.false_ne_true)]
    unfold State.serveManualTip
    exact congrArg (fun f => State.writeManualTip _ a _ (f.map BinEntry.data)) (hf.find hs)

/-! ## Its record (R143) -/

/-- The record of a manual tip that the Log places, its check word apart. -/
def State.tipRecord (s : State) (a : ArmId) (tag : Option Nat) (found : Option BinEntry) : LogRecord :=
  { LogRecord.blank .manualTip a.second s.cal.counter s.cal.unlocked with
    seq := s.log.nextSeq, closed := true, outcome := .completed, stream := a.chamber.number,
    tag := tag.getD 0, household := (found.map (fun e => e.data.household)).getD 0,
    tariff := (found.map (fun e => e.data.tariff)).getD 0,
    sizeClass := (found.map (fun e => e.data.sizeClass)).getD 0,
    flags := {
      noGross := true, noTare := true, tipped := true, lockOpen := s.cal.unlocked,
      timeUnset := !s.clock.isSet, posAbsent := s.place.isNone },
    time := s.clock.count,
    latitude := (s.place.map Prod.fst).getD 0, longitude := (s.place.map Prod.snd).getD 0,
    charge := ((found.filter (fun e => e.data.status = .active)).map (fun e =>
      (s.tariffs.getD (a.chamber.number * 16 + e.data.tariff) .cleared).unweighedFee)).getD 0 }

/-- Time and place of a record that had none yet. -/
theorem State.stampRecord_eq (s : State) (r : LogRecord) (ht : r.flags.timeUnset = false) (hp : r.flags.posAbsent = false) :
    s.stampRecord r =
      { r with
        time := s.clock.count, latitude := (s.place.map Prod.fst).getD 0, longitude := (s.place.map Prod.snd).getD 0,
        flags := { r.flags with timeUnset := !s.clock.isSet, posAbsent := s.place.isNone } } := by
  unfold State.stampRecord State.place
  simp only [ht, Bool.false_or]
  cases s.roleValue .latitude <;> cases s.roleValue .longitude <;> simp [hp]

theorem State.manualTipRecord_eq (s : State) (a : ArmId) (tag : Option Nat) (found : Option BinEntry) :
    { s.manualTipRecord a tag (found.map BinEntry.data) with seq := s.log.nextSeq } = s.tipRecord a tag found := by
  unfold State.manualTipRecord State.tipRecord
  dsimp only
  rw [State.stampRecord_eq _ _ (by cases found <;> rfl) (by cases found <;> rfl)]
  cases found with
  | none => rfl
  | some e =>
    by_cases h : e.data.status = .active
    · have hact : Option.filter (fun e : BinEntry => decide (e.data.status = .active)) (some e) = some e :=
        if_pos (decide_eq_true h)
      rw [hact]
      simp only [Option.map_some, if_pos h]
      rfl
    · have hact : Option.filter (fun e : BinEntry => decide (e.data.status = .active)) (some e) = none :=
        if_neg (ne_true_of_eq_false (decide_eq_false h))
      rw [hact]
      simp only [Option.map_some, if_neg h]
      rfl

theorem State.writeManualTip_full (h : 2048 ≤ s.log.records.length) (found : Option BinData) :
    s.writeManualTip a tag found =
      s.setLog { s.log with manualTipLost := min (s.log.manualTipLost + 1) 65535 } := by
  have hfree : s.log.free = 0 := Nat.sub_eq_zero_of_le h
  unfold State.writeManualTip
  rw [hfree, if_neg (Nat.lt_irrefl 0)]
  rfl

theorem State.writeManualTip_room (h : s.log.records.length < 2048) (found : Option BinEntry) :
    s.writeManualTip a tag (found.map BinEntry.data) =
      s.setLog { s.log with
        records := s.log.records ++ [{ s.tipRecord a tag found with check := (s.tipRecord a tag found).crc }],
        nextSeq := if s.log.nextSeq = 4294967295 then 1 else s.log.nextSeq + 1 } := by
  unfold State.writeManualTip
  rw [if_pos (show 0 < s.log.free from Nat.sub_pos_of_lt h), State.placeClosed, State.manualTipRecord_eq]
  rfl

/-! ## A position in MANUAL (R68) -/

theorem State.positionEvent_manual {v : Int} (hm : (s.arm a).state = .manual) (hv : s.roleValue a.posRole = some v) :
    s.positionEvent a =
      if crossesTip (s.arm a).lastManualPos (s.armSettings a).tipThreshold v = true then
        ((s.setArm a { s.arm a with lastManualPos := some v }).post (.tip a.chamber)).manualTip a
      else s.setArm a { s.arm a with lastManualPos := some v } := by
  unfold State.positionEvent
  simp only [hv, hm, if_true]
  rfl

end

/-- Settles O34: a position that crosses the threshold writes the record of its tip (`State.manualTip_eq`), any other is kept alone. -/
theorem manualTipIsRecorded : Obligations.ManualTipIsRecorded := by
  unfold Obligations.ManualTipIsRecorded
  intro s a v hm hv hasc hb
  refine ⟨fun hno => ?_, fun w hw hlow hhigh tag found last htag hfound u hu => ?_⟩
  · rw [State.positionEvent_manual hm hv, if_neg]
    unfold crossesTip
    split
    · next w hw => exact fun h => by have := of_decide_eq_true h; have := hno w hw; omega
    · exact Bool.false_ne_true
  · have hcross : crossesTip (s.arm a).lastManualPos (s.armSettings a).tipThreshold v = true := by
      rw [hw]
      exact decide_eq_true ⟨hlow, hhigh⟩
    have harm : (State.post (s.setArm a { s.arm a with lastManualPos := some v }) (.tip a.chamber)).arm a =
        { s.arm a with lastManualPos := some v } := State.setArm_arm s a _
    have htip : s.positionEvent a = u.writeManualTip a tag (found.map BinEntry.data) := by
      rw [State.positionEvent_manual hm hv, if_pos hcross,
        State.manualTip_eq (by exact hb) (by exact hasc) (tag := tag) (found := found) (last := last)
          (by rw [State.takesTag, harm]; exact htag) (by exact hfound), harm, hu]
      refine congrArg (State.writeManualTip · a tag _) ?_
      show State.setArm (State.setArm (s.post _) a _) a _ = _
      rw [State.setArm_setArm]
      rfl
    refine ⟨fun hfull => ?_, fun hroom r hr => ?_⟩
    · rw [htip, State.writeManualTip_full (by rw [hu]; exact hfull), hu]
      rfl
    · have hrec : u.tipRecord a tag found = r := by rw [hr, hu]; rfl
      rw [htip, State.writeManualTip_room (by rw [hu]; exact hroom), hrec, hu]
      rfl

end Sys2Proof.Machine
end

section
/-! The statement on the close of a tipped record (R100, R131, R132, R142). -/

namespace Sys2Proof.Machine

section
variable {s : State} {a : ArmId} {c : Consumer} {n m : Nat} {r : LogRecord} {o : CycleOutcome} {b b' : BinUnit} {x : Chamber}

/-! ## The bin entry (R100) -/

/-- The Bin Identification Unit after the close of a record with tag `tag` is handed to it at `time`. -/
def BinUnit.closes (b : BinUnit) (tag time : Nat) (set : Bool) (b' : BinUnit) : Prop :=
  b.update ≠ none ∧ b' = { b with waiting := b.waiting ++ [.closeUpdate tag time set] } ∨
    b.update = none ∧ (∃ e ∈ b.entries, e.data.tag = tag) ∧ b' = { b with entries := liftedBin tag time set b.entries } ∨
    b.update = none ∧ (∀ e ∈ b.entries, e.data.tag ≠ tag) ∧ b' = { b with closeMissed := satInc b.closeMissed }

theorem State.closeBin_eq {tag time : Nat} {set : Bool} (h : s.bins.closes tag time set b') :
    s.closeBin tag time set = s.setBins b' := by
  unfold State.closeBin State.serveClose
  rcases h with ⟨hu, rfl⟩ | ⟨hu, ⟨e, he, ht⟩, rfl⟩ | ⟨hu, hno, rfl⟩
  · rw [if_pos (Option.isSome_iff_ne_none.2 hu)]
  · have hfound : (findBin tag s.bins.entries).isSome = true := by
      rw [Option.isSome_iff_ne_none, Ne, findBin_eq_none]
      exact fun hno => hno e he ht
    rw [if_neg (by rw [hu]; decide), if_pos hfound]
  · rw [if_neg (by rw [hu]; decide), findBin_eq_none.2 hno, if_neg (by decide)]

/-! ## The chamber (R131, R132) -/

/-- A chamber with mass added and its load state judged. -/
def Chamber.loaded (x : Chamber) (k : ChamberSettings) (grams : Nat) : Chamber :=
  { x with
    mass := min (x.mass + grams) 4294967295,
    load := loadOf k x.fill (min (x.mass + grams) 4294967295) }

theorem State.postNext_of_nil (h : s.agenda = []) (e : Ev) : s.postNext e = s.handing [e] := by
  unfold State.postNext
  rw [h]
  rfl

/-- Mass added to a chamber: only its arm can be told, that it has become FULL. -/
theorem State.addMass_eq (ha : s.agenda = []) (c : ChamberId) (grams : Nat) :
    ∃ l, (∀ e ∈ l, e = .chamberFull c.arm) ∧ l.length ≤ 1 ∧
      s.addMass c grams = (s.setChamber c ((s.chamber c).loaded (s.chamberSettings c) grams)).handing l := by
  unfold State.addMass State.judgeLoad
  simp only [State.setChamber_chamber, State.setChamber_setChamber]
  split
  · next h =>
    refine ⟨[], nofun, Nat.zero_le 1, ?_⟩
    rw [State.handing_self (by exact ha)]
    refine congrArg (s.setChamber c) ?_
    unfold Chamber.loaded
    rw [show loadOf (s.chamberSettings c) (s.chamber c).fill (min ((s.chamber c).mass + grams) 4294967295) = (s.chamber c).load from h]
  · split
    · refine ⟨[.chamberFull c.arm], by simp, Nat.le_refl 1, ?_⟩
      rw [State.postNext_of_nil (by exact ha)]
      rfl
    · refine ⟨[], nofun, Nat.zero_le 1, ?_⟩
      rw [State.handing_self (by exact ha)]
      rfl

/-! ## The close (R142) -/

/-- The close of a tipped ACCEPT or RELIFT record with its net. -/
theorem State.closeRecord_tipped (hr : s.log.openRecord n = some r) (ht : r.flags.tipped = true)
    (hd : r.decision = .accept ∨ r.decision = .relift) (hm : r.nDiv = some m)
    (hb : s.bins.closes r.tag s.clock.count s.clock.isSet b') :
    s.closeRecord a n o =
      ((s.setLog (s.log.enter n fun _ => s.closedAs o r)).setBins b').addMass a.chamber (m * s.cal.division) := by
  have ht' : (s.closedAs o r).flags.tipped = true := ht
  have hd' : (s.closedAs o r).decision = .accept ∨ (s.closedAs o r).decision = .relift := hd
  have hm' : (s.closedAs o r).nDiv = some m := hm
  unfold State.closeRecord
  simp only [hr, State.closedRecord_eq, ht', hm', true_and, if_pos hd']
  rw [State.closeBin_eq (b' := b') (by exact hb)]
  rfl

/-- The end of a cycle up to its record's close: the arm stands with its group STOPPED. -/
theorem State.cycleEnd_beforeClose (h : s.calm) (hs : (s.arm a).state ≠ .running) (hv : (s.valve a.consumer).driving = false)
    (hq : (s.weighUnit a).quiet = false) (hw : s.noneWaitsBut a.consumer) (hn : (s.arm a).openRecord = some n) :
    s.cycleEnd a o =
      ((s.granted a.consumer 0).withParts (s.arms.put a.second ((s.arm a).ended o.armState (s.arm a).fault))
        (s.weigh.put a.second (s.weighUnit a).ended) (s.bins.withdrawn a) s.log).closeRecord a n o := by
  have hrests : ((s.withdrawRequest a).setArm a ((s.withdrawRequest a).arm a).afterCycle).setArmState a o.armState =
      s.withParts (s.arms.put a.second ((s.arm a).ended o.armState (s.arm a).fault)) s.weigh (s.bins.withdrawn a) s.log := by
    rw [State.setArmState_rests (by exact h.2) o.armState_drives (by rw [State.setArm_arm]; exact fun hr => absurd hr hs),
      State.stopped_of_still (by exact hv), State.setArm_arm, State.setArm_setArm]
    rfl
  unfold State.cycleEnd
  dsimp only
  rw [hrests, State.weighToIdle_eq (by exact hq), State.claimNone_of_disarmed (by exact h.2) (by exact hw),
    State.setWeighUnit_withParts, State.granted_withParts, hn]
  rfl

theorem State.flowChanged_setChamber (i : ChamberId) (y : Chamber) (z : Arbiter) :
    (s.setChamber i y).flowChanged z = (s.flowChanged z).setChamber i y := by
  unfold State.flowChanged
  split <;> simp only [apply_ite (State.setChamber · i y)] <;> rfl

theorem State.granted_setChamber (i : ChamberId) (y : Chamber) (d : Nat) :
    (s.setChamber i y).granted c d = (s.granted c d).setChamber i y := State.flowChanged_setChamber i y _

/-! ## The news of a FULL chamber reaches an arm that is not in MANUAL (R67) -/

/-- The hand-overs left tell arms at rest that their chamber is FULL. -/
def fullNews (a : ArmId) (l : List Ev) (v : State) : Prop := (∀ e ∈ l, e = .chamberFull a) ∧ (v.arm a).state = .idle

theorem takesEach_fullNews : TakesEach (fun _ => none) (fullNews a) where
  pages := by
    rintro l v w ⟨hl, hv⟩ hp
    obtain ⟨x, m, rfl, -⟩ := hp.shape
    exact ⟨hl, hv⟩
  step := by
    rintro e l v ⟨hl, hv⟩ ha hu
    have he : handle e v = v := by
      rw [hl e List.mem_cons_self]
      have hno : ¬ (v.arm a).state = .manual := by rw [hv]; nofun
      exact (if_neg hno : v.fullEvent a = v)
    exact ⟨he, ha, hu, fun e he => hl e (List.mem_cons_of_mem _ he), hv⟩

end

/-- Settles O31: the record closes (`State.closeRecord_tipped`), its bin entry and its chamber follow, and the arm that hears of a FULL
chamber is IDLE already. -/
theorem tippedCloseReachesBinAndChamber : Obligations.TippedCloseReachesBinAndChamber := by
  unfold Obligations.TippedCloseReachesBinAndChamber
  intro s a n m r bins x hs hh hp hn hr ht hd hm hq hw hv hbins hx
  have hcloses : (s.bins.withdrawn a).closes r.tag s.clock.count s.clock.isSet
      { bins with requests := s.bins.requests.put a.second .empty } := by
    rcases hbins with ⟨hu, rfl⟩ | ⟨hu, he, rfl⟩ | ⟨hu, hno, rfl⟩
    · exact .inl ⟨hu, rfl⟩
    · exact .inr (.inl ⟨hu, he, rfl⟩)
    · exact .inr (.inr ⟨hu, hno, rfl⟩)
  have hchamber : x = (s.chamber a.chamber).loaded (s.chamberSettings a.chamber) (m * s.cal.division) := hx
  have harm : a.chamber.arm = a := by cases a <;> rfl
  obtain ⟨v, hv'⟩ : ∃ v : State, v = s.withParts (s.arms.put a.second ((s.arm a).ended .idle (s.arm a).fault))
      (s.weigh.put a.second (s.weighUnit a).ended) { bins with requests := s.bins.requests.put a.second .empty }
      (s.log.enter n fun _ => s.closedAs .aborted r) := ⟨_, rfl⟩
  obtain ⟨y, p, hg, -⟩ := s.granted_eq a.consumer 0
  have hvg := State.granted_withParts (s := s) (c := a.consumer) (x := v.arms) (w := v.weigh) (b := v.bins) (l := v.log) 0
  rw [hg, show s.withParts v.arms v.weigh v.bins v.log = v by rw [hv']; rfl] at hvg
  obtain ⟨l, hl, hlen, hadd⟩ := State.addMass_eq (s := v.granted a.consumer 0) (by rw [hvg, hv']; exact hs.1) a.chamber
    (m * s.cal.division)
  have hend : s.abortCommand a = ((v.setChamber a.chamber x).granted a.consumer 0).handing l := by
    have hsame : Chamber.loaded ((v.granted a.consumer 0).chamber a.chamber) (State.chamberSettings (v.granted a.consumer 0) a.chamber)
        (m * s.cal.division) = x := by
      rw [hchamber, hvg, hv']
      rfl
    rw [hsame, ← State.granted_setChamber] at hadd
    rw [State.abortCommand_ofCycle (.inr (.inr (.inr hp))),
      State.cycleEnd_beforeClose hs (by rw [hp]; nofun) hv hq hw hn,
      State.closeRecord_tipped (by exact hr) ht hd hm (by rw [hg]; exact hcloses), ← hadd, hvg, hg, hv']
    rfl
  have hcalm : ((v.setChamber a.chamber x).granted a.consumer 0).calm := (State.calm_granted _ _).2 (by rw [hv']; exact hs)
  have hnews : fullNews a l ((v.setChamber a.chamber x).granted a.consumer 0) := by
    refine ⟨fun e he => (hl e he).trans (by rw [harm]), ?_⟩
    rw [State.granted_setChamber, hvg, hv']
    exact congrArg Arm.state (Duo.at_put_same s.arms a.second _)
  have hfinish := takesEach_fullNews.finish (hlen.trans (by decide)) hnews hcalm.1 hcalm.unwatched
  rw [List.filterMap_eq_nil_iff.2 fun _ _ => rfl] at hfinish
  have hrun : exec (.abortArm a) s = .next (((v.setChamber a.chamber x).granted a.consumer 0).handing l).finish := by
    rw [exec_abortArm, run_wellFormed rfl, State.unlessHeld_of_free hh, hend]
  exact ⟨_, _, hrun, by rw [hv']; rfl, hfinish⟩

end Sys2Proof.Machine
end

section
/-! The statement on the program a START selects (R42, R43). -/

namespace Sys2Proof.Machine

section
variable {steps run : List StepEntry} {g : ProgramEntry} {k : StepEntry} {kind : EndKind} {p : Nat}

/-! ## The steps of a run by their positions (R42) -/

/-- The program holds step `k` at position `p` of its run. -/
def stepOfRun (steps : List StepEntry) (g : ProgramEntry) (p : Nat) (k : StepEntry) : Prop :=
  1 ≤ p ∧ p ≤ g.stepCount ∧ steps[g.firstStep + p - 1]? = some k

theorem getElem?_runOf {i : Nat} : (runOf steps g)[i]? = some k ↔ stepOfRun steps g (i + 1) k := by
  unfold runOf stepOfRun
  rw [List.getElem?_take]
  split
  · next h => simp only [List.getElem?_drop, Nat.le_add_left, true_and, Nat.succ_le_of_lt h]; rfl
  · next h => exact ⟨nofun, fun hk => absurd hk.2.1 h⟩

theorem stepOfRun_iff : stepOfRun steps g p k ↔ 1 ≤ p ∧ (runOf steps g)[p - 1]? = some k := by
  rw [getElem?_runOf]
  refine ⟨fun h => ⟨h.1, by rwa [Nat.sub_add_cancel h.1]⟩, fun ⟨h, hk⟩ => by rwa [Nat.sub_add_cancel h] at hk⟩

theorem mem_runOf : k ∈ runOf steps g ↔ ∃ p, stepOfRun steps g p k := by
  rw [List.mem_iff_getElem?]
  exact ⟨fun ⟨i, h⟩ => ⟨i + 1, getElem?_runOf.1 h⟩, fun ⟨p, h⟩ => ⟨p - 1, (stepOfRun_iff.1 h).2⟩⟩

theorem mem_positionsOf : p ∈ positionsOf kind (runOf steps g) ↔ ∃ k, stepOfRun steps g p k ∧ k.endKind = kind := by
  unfold positionsOf
  simp only [List.mem_map, List.mem_filter, decide_eq_true_eq, Prod.exists, List.mk_mem_zipIdx_iff_getElem?]
  constructor
  · rintro ⟨k, i, ⟨hk, he⟩, rfl⟩
    exact ⟨k, getElem?_runOf.1 hk, he⟩
  · rintro ⟨k, hk, he⟩
    obtain ⟨h1, hget⟩ := stepOfRun_iff.1 hk
    exact ⟨k, p - 1, ⟨hget, he⟩, Nat.sub_add_cancel h1⟩

theorem positionsOf_nodup : (positionsOf kind run).Nodup := by
  have hsnd : (run.zipIdx.map Prod.snd).Nodup := by
    rw [List.zipIdx_map_snd]
    exact List.nodup_range'
  have hmap : positionsOf kind run = ((run.zipIdx.filter (fun e => e.1.endKind = kind)).map Prod.snd).map (· + 1) := by
    unfold positionsOf
    rw [List.map_map]
    rfl
  rw [hmap]
  exact (hsnd.sublist (List.filter_sublist.map _)).map (Nat.succ_injective)

/-! ## Lists of positions without a repetition -/

theorem eq_singleton_iff_of_nodup {l : List Nat} (h : l.Nodup) {t : Nat} : l = [t] ↔ t ∈ l ∧ ∀ p ∈ l, p = t := by
  refine ⟨fun e => by simp [e], fun ⟨ht, hall⟩ => ?_⟩
  have hrep : l = List.replicate l.length t := List.eq_replicate_of_mem hall
  have hlen : l.length = 1 := by
    have hle : l.length ≤ 1 := List.nodup_replicate.1 (hrep ▸ h)
    have hpos := List.length_pos_of_mem ht
    omega
  rw [hlen] at hrep
  exact hrep

/-- At most one position, and there `P` holds. -/
def atMostOne (P : Nat → Prop) (l : List Nat) : Prop := ∀ p ∈ l, P p ∧ ∀ q ∈ l, q = p

/-- A test on a list without repetition that is true of none, that of `P` on one, and false on more. -/
theorem atMostOne_iff {P : Nat → Prop} {l : List Nat} {b : Bool} (h : l.Nodup) (h0 : l = [] → b = true)
    (h1 : ∀ x, l = [x] → (b = true ↔ P x)) (h2 : ∀ x y r, l = x :: y :: r → b = false) : b = true ↔ atMostOne P l := by
  rcases l with _ | ⟨x, _ | ⟨y, r⟩⟩
  · exact iff_of_true (h0 rfl) nofun
  · rw [h1 x rfl]
    simp [atMostOne]
  · refine iff_of_false (by rw [h2 x y r rfl]; exact Bool.false_ne_true) fun hone => (List.nodup_cons.1 h).1 ?_
    have hxy : y = x := (hone x List.mem_cons_self).2 y (List.mem_cons_of_mem _ List.mem_cons_self)
    rw [hxy]
    exact List.mem_cons_self

/-- Conditions 4 to 7 of R43. -/
theorem orderValid_iff {tags tips gross tare : List Nat} {ret : Nat} (hg : gross.Nodup) (hw : tare.Nodup) :
    orderValid tags tips gross tare ret = true ↔
      ∃ t m, tags = [t] ∧ tips = [m] ∧ t < m ∧ atMostOne (fun p => t < p ∧ p < m) gross ∧ atMostOne (fun p => m < p) tare ∧
        t < ret ∧ ret < m := by
  unfold orderValid
  split
  · next t m =>
    simp only [Bool.and_eq_true, decide_eq_true_eq]
    refine (and_congr (and_congr (and_congr Iff.rfl (atMostOne_iff (P := fun p => t < p ∧ p < m) hg ?_ ?_ ?_))
      (atMostOne_iff (P := fun p => m < p) hw ?_ ?_ ?_)) Iff.rfl).trans ?_
    · rintro rfl; rfl
    · rintro x rfl; exact decide_eq_true_iff
    · rintro x y r rfl; rfl
    · rintro rfl; rfl
    · rintro x rfl; exact decide_eq_true_iff
    · rintro x y r rfl; rfl
    · constructor
      · rintro ⟨⟨⟨h1, h2⟩, h3⟩, h4⟩
        exact ⟨t, m, rfl, rfl, h1, h2, h3, h4⟩
      · rintro ⟨t', m', ht, hm, h1, h2, h3, h4⟩
        cases ht
        cases hm
        exact ⟨⟨⟨h1, h2⟩, h3⟩, h4⟩
  · next hno =>
    refine iff_of_false Bool.false_ne_true ?_
    rintro ⟨t, m, rfl, rfl, -⟩
    exact hno t m rfl rfl

/-! ## Loops (condition 8 of R43) -/

theorem EndKind.not_isFixed_iff {e : EndKind} : (!e.isFixed) = true ↔ e = .position ∨ e = .time := by
  rw [Bool.not_eq_true', EndKind.isFixed_eq_false_iff]

theorem loopValid_iff :
    loopValid (runOf steps g) p k = true ↔
      (0 < k.loopCount → k.loopDistance + 1 ≤ p ∧
        ∀ q e, p ≤ q + k.loopDistance → q ≤ p → stepOfRun steps g q e → e.endKind = .position ∨ e.endKind = .time) := by
  unfold loopValid
  rw [Bool.or_eq_true, Bool.and_eq_true, decide_eq_true_iff, decide_eq_true_iff, List.all_eq_true]
  have hsteps (hp : k.loopDistance + 1 ≤ p) :
      (∀ e ∈ ((runOf steps g).drop (p - k.loopDistance - 1)).take (k.loopDistance + 1), (!e.endKind.isFixed) = true) ↔
        ∀ q e, p ≤ q + k.loopDistance → q ≤ p → stepOfRun steps g q e → e.endKind = .position ∨ e.endKind = .time := by
    simp only [EndKind.not_isFixed_iff]
    constructor
    · intro h q e hlow hhigh hq
      obtain ⟨h1, hget⟩ := stepOfRun_iff.1 hq
      refine h e (List.mem_iff_getElem?.2 ⟨q - 1 - (p - k.loopDistance - 1), ?_⟩)
      rw [List.getElem?_take_of_lt (by omega), List.getElem?_drop, ← hget]
      congr 1
      omega
    · intro h e he
      obtain ⟨i, hi⟩ := List.mem_iff_getElem?.1 he
      have hlt : i < k.loopDistance + 1 := by
        by_contra hge
        rw [List.getElem?_take_eq_none (Nat.not_lt.1 hge)] at hi
        cases hi
      rw [List.getElem?_take_of_lt hlt, List.getElem?_drop] at hi
      exact h _ e (by omega) (by omega) (getElem?_runOf.1 hi)
  by_cases h0 : k.loopCount = 0
  · exact iff_of_true (.inl h0) fun h => absurd h0 (Nat.ne_of_gt h)
  · constructor
    · intro h _
      obtain ⟨hp, hall⟩ := h.resolve_left h0
      exact ⟨hp, (hsteps hp).1 hall⟩
    · intro h
      obtain ⟨hp, hall⟩ := h (Nat.pos_of_ne_zero h0)
      exact .inr ⟨hp, (hsteps hp).2 hall⟩

/-! ## The eight conditions -/

/-- One step of kind `kind` alone, at position `p`. -/
theorem positionsOf_eq_singleton_iff :
    positionsOf kind (runOf steps g) = [p] ↔
      (∃ k, stepOfRun steps g p k ∧ k.endKind = kind) ∧ ∀ q k, stepOfRun steps g q k → k.endKind = kind → q = p := by
  rw [eq_singleton_iff_of_nodup positionsOf_nodup, mem_positionsOf]
  exact and_congr_right fun _ => ⟨fun h q k hq hk => h q (mem_positionsOf.2 ⟨k, hq, hk⟩),
    fun h q hq => (mem_positionsOf.1 hq).elim fun k hk => h q k hk.1 hk.2⟩

/-- At most one step of kind `kind`, and at a position that `P` allows. -/
theorem atMostOne_positionsOf_iff {P : Nat → Prop} :
    atMostOne P (positionsOf kind (runOf steps g)) ↔
      ∀ p k, stepOfRun steps g p k → k.endKind = kind →
        P p ∧ ∀ q e, stepOfRun steps g q e → e.endKind = kind → q = p := by
  unfold atMostOne
  simp only [mem_positionsOf]
  constructor
  · intro h p k hp hk
    obtain ⟨hP, hall⟩ := h p ⟨k, hp, hk⟩
    exact ⟨hP, fun q e hq he => hall q ⟨e, hq, he⟩⟩
  · rintro h p ⟨k, hp, hk⟩
    obtain ⟨hP, hall⟩ := h p k hp hk
    exact ⟨hP, fun q ⟨e, hq, he⟩ => hall q e hq he⟩

/-- Condition 8 of R43 at every position. -/
theorem loopsValid_iff :
    (runOf steps g).zipIdx.all (fun e => loopValid (runOf steps g) (e.2 + 1) e.1) = true ↔
      ∀ p k, stepOfRun steps g p k → loopValid (runOf steps g) p k = true := by
  rw [List.all_eq_true]
  constructor
  · intro h p k hp
    obtain ⟨h1, hget⟩ := stepOfRun_iff.1 hp
    have := h (k, p - 1) (List.mk_mem_zipIdx_iff_getElem?.2 hget)
    rwa [Nat.sub_add_cancel h1] at this
  · rintro h ⟨k, i⟩ hki
    exact h _ k (getElem?_runOf.1 (List.mk_mem_zipIdx_iff_getElem?.1 hki))

/-- What makes a program valid for START (R43), in terms of its steps. -/
theorem programValid_iff :
    programValid steps g = true ↔
      g.valid = true ∧ g.firstStep + g.stepCount - 1 ≤ 191 ∧ (∀ p k, stepOfRun steps g p k → k.valid = true) ∧
        (∃ t m, positionsOf .tag (runOf steps g) = [t] ∧ positionsOf .tipMark (runOf steps g) = [m] ∧ t < m ∧
          atMostOne (fun p => t < p ∧ p < m) (positionsOf .weighGross (runOf steps g)) ∧
          atMostOne (fun p => m < p) (positionsOf .weighTare (runOf steps g)) ∧ t < g.returnStep ∧ g.returnStep < m) ∧
        ∀ p k, stepOfRun steps g p k → loopValid (runOf steps g) p k = true := by
  have hvalid : (runOf steps g).all StepEntry.valid = true ↔ ∀ p k, stepOfRun steps g p k → k.valid = true := by
    rw [List.all_eq_true]
    exact ⟨fun h p k hp => h k (mem_runOf.2 ⟨p, hp⟩), fun h k hk => (mem_runOf.1 hk).elim fun p hp => h p k hp⟩
  unfold programValid
  dsimp only
  rw [Bool.and_eq_true, Bool.and_eq_true, Bool.and_eq_true, Bool.and_eq_true, decide_eq_true_iff, hvalid, loopsValid_iff,
    orderValid_iff positionsOf_nodup positionsOf_nodup, and_assoc, and_assoc, and_assoc]

/-- The selected program is the one the Select Table names, when it is valid. -/
theorem State.validSelection_eq_some_iff {s : State} {a : ArmId} {size n : Nat} :
    s.validSelection a size = some n ↔
      s.selected a size = some n ∧ ∃ g, s.programs[n]? = some g ∧ programValid s.steps g = true := by
  unfold State.validSelection
  split
  · next i hs =>
    split
    · next g hg =>
      rw [hs, ite_eq_iff]
      constructor
      · rintro (⟨hv, h⟩ | ⟨-, h⟩)
        · cases h
          exact ⟨rfl, g, hg, hv⟩
        · cases h
      · rintro ⟨h, g', hg', hv⟩
        cases h
        cases hg.symm.trans hg'
        exact .inl ⟨hv, rfl⟩
    · next hg =>
      refine iff_of_false nofun ?_
      rintro ⟨h, g, hg', -⟩
      cases hs.symm.trans h
      cases hg.symm.trans hg'
  · next hs => exact iff_of_false nofun fun h => nomatch hs.symm.trans h.1

theorem State.selected_eq_some_iff {s : State} {a : ArmId} {size n : Nat} :
    s.selected a size = some n ↔ s.select[(match a with | .armA => 0 | .armB => 4) + size]? = some (some n) := by
  have hindex : (if a.second = true then 4 else 0) + size = (match a with | .armA => 0 | .armB => 4) + size := by
    cases a <;> rfl
  unfold State.selected
  rw [hindex, Option.join_eq_some_iff]

end

/-- Settles O24: the Select Table names the program (`State.selected_eq_some_iff`), and `programValid_iff` says each of the eight
conditions of its steps by position. -/
theorem selectionMeetsTheConditions : Obligations.SelectionMeetsTheConditions := by
  unfold Obligations.SelectionMeetsTheConditions
  intro s a size n _ _ _
  rw [State.validSelection_eq_some_iff, State.selected_eq_some_iff]
  refine and_congr_right fun _ => ?_
  constructor
  · rintro ⟨g, hg, hv⟩
    obtain ⟨h1, h2, h3, ⟨t, m, ht, hm, h4, h5, h6, h7, h8⟩, h9⟩ := programValid_iff.1 hv
    obtain ⟨ht1, ht2⟩ := positionsOf_eq_singleton_iff.1 ht
    obtain ⟨hm1, hm2⟩ := positionsOf_eq_singleton_iff.1 hm
    refine ⟨g, stepOfRun s.steps g, t, m, hg, fun p k => Iff.rfl, h1, h2, h3, ht1, ht2, hm1, hm2, h4,
      fun p k hp hk => ?_, fun p k hp hk => atMostOne_positionsOf_iff.1 h6 p k hp hk, h7, h8,
      fun p k hp => loopValid_iff.1 (h9 p k hp)⟩
    obtain ⟨hb, hall⟩ := atMostOne_positionsOf_iff.1 h5 p k hp hk
    exact ⟨hb.1, hb.2, hall⟩
  · rintro ⟨g, step, t, m, hg, hstep, h1, h2, h3, ht1, ht2, hm1, hm2, h4, h5, h6, h7, h8, h9⟩
    obtain rfl : step = stepOfRun s.steps g := funext fun p => funext fun k => propext (hstep p k)
    refine ⟨g, hg, programValid_iff.2 ⟨h1, h2, h3, ⟨t, m, positionsOf_eq_singleton_iff.2 ⟨ht1, ht2⟩,
      positionsOf_eq_singleton_iff.2 ⟨hm1, hm2⟩, h4, atMostOne_positionsOf_iff.2 fun p k hp hk => ?_,
      atMostOne_positionsOf_iff.2 fun p k hp hk => h6 p k hp hk, h7, h8⟩, fun p k hp => loopValid_iff.2 (h9 p k hp)⟩⟩
    obtain ⟨hb1, hb2, hall⟩ := h5 p k hp hk
    exact ⟨⟨hb1, hb2⟩, hall⟩

end Sys2Proof.Machine
end

section
/-! The statement on the bin decision (Table 5-2, R92 to R97). -/

namespace Sys2Proof.Machine

section
variable {s : State} {a : ArmId} {n tag : Nat} {b : BinEntry} {d : Decision} {found : Option BinEntry}

/-! ## Table 5-2 -/

theorem State.isRelift_iff :
    s.isRelift b = true ↔ b.lastLift = .set ∧ s.clock.isSet = true ∧ b.lastLiftTime ≤ s.clock.count ∧
      s.clock.count - b.lastLiftTime < s.cfg.reliftWindow * 60 := by
  unfold State.isRelift
  simp only [Bool.and_eq_true, decide_eq_true_eq, and_assoc]

/-- The decision on a tag whose entry is `b` (R94, R95). -/
theorem State.lookupDecision_found (hb : findBin tag s.bins.entries = some b)
    (h : b.data.status = .blocked ∧ d = .refuseBlocked ∨
      b.data.status = .active ∧ b.data.stream ≠ a.chamber.number ∧ d = .refuseStream ∨
      b.data.status = .active ∧ b.data.stream = a.chamber.number ∧
        ((b.lastLift = .set ∧ s.clock.isSet = true ∧ b.lastLiftTime ≤ s.clock.count ∧
            s.clock.count - b.lastLiftTime < s.cfg.reliftWindow * 60) ∧ d = .relift ∨
          (b.lastLift ≠ .set ∨ s.clock.isSet = false ∨ s.clock.count < b.lastLiftTime ∨
            s.cfg.reliftWindow * 60 ≤ s.clock.count - b.lastLiftTime) ∧ d = .accept)) : s.lookupDecision a tag = d := by
  unfold State.lookupDecision
  rw [hb]
  dsimp only
  rcases h with ⟨hs, rfl⟩ | ⟨hs, hstream, rfl⟩ | ⟨hs, hstream, ⟨hr, rfl⟩ | ⟨hr, rfl⟩⟩
  · rw [if_pos hs]
  · rw [if_neg (by rw [hs]; nofun), if_pos hstream]
  · rw [if_neg (by rw [hs]; nofun), if_neg (not_not.2 hstream), if_pos (State.isRelift_iff.2 hr)]
  · have hno : ¬ s.isRelift b = true := by
      rw [State.isRelift_iff]
      rintro ⟨h1, h2, h3, h4⟩
      rcases hr with h | h | h | h
      · exact h h1
      · exact Bool.false_ne_true (h.symm.trans h2)
      · omega
      · omega
    rw [if_neg (by rw [hs]; nofun), if_neg (not_not.2 hstream), if_neg hno]

/-- The decision on a tag without an entry. -/
theorem State.lookupDecision_unknown (hb : findBin tag s.bins.entries = none)
    (h : s.cfg.unknownPolicy = .continueCycle ∧ d = .unknown ∨ s.cfg.unknownPolicy = .refuse ∧ d = .refuseUnknown) :
    s.lookupDecision a tag = d := by
  unfold State.lookupDecision
  rw [hb]
  rcases h with ⟨hp, rfl⟩ | ⟨hp, rfl⟩ <;> simp only [hp]

theorem Decision.refuses_eq (d : Decision) :
    d.refuses = decide (d = .refuseBlocked ∨ d = .refuseStream ∨ d = .refuseUnknown ∨ d = .refuseNoTag) := by
  cases d <;> rfl

/-! ## The decision entered in the record (R96, R141) -/

/-- A record with decision and tag, and what the entry found for the tag gives. -/
def LogRecord.decided (d : Decision) (tag k : Nat) (found : Option BinEntry) (x : LogRecord) : LogRecord :=
  { x with
    decision := d, tag,
    household := (found.map (fun b => b.data.household)).getD x.household,
    tariff := (found.map (fun b => b.data.tariff)).getD x.tariff,
    stream := (found.map (fun b => b.data.stream)).getD x.stream,
    flags := { x.flags with
      sizeMismatch := x.flags.sizeMismatch || found.any (fun b => decide (b.data.sizeClass ≠ k)) } }

/-- The state once a tag has decided, the decision not yet handed to the arm (R96). -/
def State.decidedBy (s : State) (a : ArmId) (d : Decision) (tag : Nat) (found : Option BinEntry) : State :=
  ((s.setArm a { s.arm a with lastTag := none }).setBins { s.bins with requests := s.bins.requests.put a.second .empty }).setLog
    (s.log.enter (s.request a).record (LogRecord.decided d tag (s.request a).sizeClass found))

theorem State.decidedBy_arm : (s.decidedBy a d tag found).arm a = { s.arm a with lastTag := none } := State.setArm_arm s a _

theorem State.decideByTag_eq (ha : s.agenda = []) (hf : findBin tag s.bins.entries = found) (hd : s.lookupDecision a tag = d) :
    s.decideByTag a tag = (s.decidedBy a d tag found).handing [.decision a d.refuses] := by
  unfold State.decideByTag
  rw [hd, hf]
  dsimp only
  rw [State.postNext_of_nil (by exact ha)]
  cases found with
  | none =>
    have hrec : LogRecord.withDecision d (some tag) none false =
        LogRecord.decided d tag (s.request a).sizeClass none := by
      funext x
      simp [LogRecord.withDecision, LogRecord.decided]
    unfold State.decidedBy
    rw [← hrec]
    rfl
  | some b => rfl

/-! ## Pages -/

theorem State.allPages_setBins (x : BinUnit) : (s.setBins x).allPages = s.allPages := rfl

theorem State.allPages_setRoute (i : Nat) (e : RouteEntry) : (s.setRoute i e).allPages = s.allPages := rfl

/-- Entering something that leaves the DAMAGED marks changes no page. -/
theorem State.allPages_enter {f : LogRecord → LogRecord} (hf : ∀ x, (f x).damaged = x.damaged) :
    (s.setLog (s.log.enter n f)).allPages = s.allPages := by
  have hfree : (s.log.enter n f).free = s.log.free := by
    unfold LiftLog.free LiftLog.enter
    rw [List.length_map]
  have hcount : (s.log.enter n f).damagedCount = s.log.damagedCount := by
    unfold LiftLog.damagedCount LiftLog.enter
    rw [List.filter_map, List.length_map]
    congr 1
    refine List.filter_congr fun x _ => ?_
    show LogRecord.damaged (if _ then f x else x) = x.damaged
    split
    · exact hf x
    · rfl
  have h2 : (s.setLog (s.log.enter n f)).page2 = s.page2 := by
    unfold State.page2
    show splitMsb 2 (s.log.enter n f).free ++ splitMsb 2 (s.log.enter n f).damagedCount ++ _ ++ _ = _
    rw [hfree, hcount]
    rfl
  show [_, _, _, _] = [_, _, _, _]
  simp only [State.pageBytes, h2]
  rfl

/-! ## The decision reaches the arm (R54, R96) -/

/-- Outside RUNNING the arm keeps the step's end. -/
theorem State.takeDecision_kept (hc : (s.arm a).inCycle = true) (hr : (s.arm a).state ≠ .running) (refuses : Bool) :
    s.takeDecision a refuses =
      s.setArm a { s.arm a with refused := (s.arm a).refused || refuses, keptEnd := true } := by
  unfold State.takeDecision State.endEvent
  simp only [hc, if_true, State.setArm_arm, State.setArm_setArm, if_neg hr]
  exact if_pos hc

/-! ## A tag read for a waiting request (R92, R94) -/

/-- A valid tag frame counted and kept as the arm's last tag. -/
def State.tagRead (s : State) (a : ArmId) (tag : Nat) : State :=
  (s.setBins { s.bins with tagValid := s.bins.tagValid.put a.second (satInc (s.bins.tagValid.at a.second)) }).setArm a
    { s.arm a with lastTag := some { tag, readAt := s.now } }

/-- With no update in flight the waiting request is decided at once. -/
theorem State.tagFrame_of_asked {f : Frame} (hl : s.cfg.tagOffset + 5 ≤ f.data.length) (hq : qualityOf s.cfg.tagOffset f ≠ 0)
    (ht : tagOf s.cfg.tagOffset f ≠ 0) (hr : (s.request a).state = .waitRead) (hu : s.bins.update = none) :
    s.tagFrame a f = (s.tagRead a (tagOf s.cfg.tagOffset f)).decideByTag a (tagOf s.cfg.tagOffset f) := by
  have hlook : (s.tagRead a (tagOf s.cfg.tagOffset f)).lookUp a (tagOf s.cfg.tagOffset f) =
      (s.tagRead a (tagOf s.cfg.tagOffset f)).decideByTag a (tagOf s.cfg.tagOffset f) := by
    unfold State.lookUp
    exact if_neg (by show ¬ s.bins.update.isSome = true; rw [hu]; exact Bool.false_ne_true)
  unfold State.tagFrame
  dsimp only
  rw [if_neg (show ¬ f.dlc < s.cfg.tagOffset + 5 from Nat.not_lt.2 hl), if_neg (not_or.2 ⟨hq, ht⟩), ← hlook]
  exact if_pos hr

theorem State.allPages_tagRead : (s.tagRead a n).allPages = s.allPages :=
  (State.allPages_setArm (s := s.setBins _) (x := { s.arm a with lastTag := some { tag := n, readAt := s.now } })
    (by rw [State.setBins_arm]; rfl)).trans (State.allPages_setBins _)

theorem State.allPages_decidedBy : (s.decidedBy a d tag found).allPages = s.allPages := by
  unfold State.decidedBy
  generalize hb : ({ s.bins with requests := s.bins.requests.put a.second .empty } : BinUnit) = b
  refine (State.allPages_enter (s := (s.setArm a { s.arm a with lastTag := none }).setBins b) fun _ => ?_).trans ?_
  · rfl
  · rw [State.allPages_setBins]
    exact State.allPages_setArm rfl

theorem State.tagRead_arm : (s.tagRead a n).arm a = { s.arm a with lastTag := some { tag := n, readAt := s.now } } :=
  State.setArm_arm _ a _

/-- A tag read decides a waiting request of an arm that is not RUNNING, and the arm keeps the step's end. -/
theorem exec_frameTaken_decides {f : Frame} {r : List Frame} {i : Nat} {e : RouteEntry} (hs : s.settled)
    (hb : s.bins.update = none) (hq : (s.request a).state = .waitRead) (hc : (s.arm a).inCycle = true)
    (hr : (s.arm a).state ≠ .running) (hf : s.ports.fst.fifo = f :: r) (hw : winner s.routes .portC f = some i)
    (hi : s.routes[i]? = some e) (hact : e.action = .consume) (hcons : e.consumer = a.tagger) (hgate : e.gate = 0)
    (hl : s.cfg.tagOffset + 5 ≤ f.data.length) (hql : qualityOf s.cfg.tagOffset f ≠ 0) (ht : tag = tagOf s.cfg.tagOffset f)
    (ht0 : tag ≠ 0) (hfind : findBin tag s.bins.entries = found) (hd : s.lookupDecision a tag = d) :
    exec (.frameTaken .portC) s = .next
      (((((s.popped .portC r).setRoute i e.counted).tagRead a tag).decidedBy a d tag found).setArm a
        { s.arm a with lastTag := none, refused := (s.arm a).refused || d.refuses, keptEnd := true }) := by
  subst ht
  obtain ⟨v, hv⟩ : ∃ v, v = ((s.popped .portC r).setRoute i e.counted).tagRead a (tagOf s.cfg.tagOffset f) := ⟨_, rfl⟩
  obtain ⟨w, hw'⟩ : ∃ w, w = v.decidedBy a d (tagOf s.cfg.tagOffset f) found := ⟨_, rfl⟩
  have hopen : ((s.popped .portC r).setRoute i e.counted).gateOpen e.gate = true := State.gateOpen_iff.2 (.inl hgate)
  have htake : s.takeFrame .portC = w.handing [.decision a d.refuses] := by
    rw [State.takeFrame_eq_routeFrame (p := .portC) hs.1 hf (fun h => nomatch h), State.routeFrame_of_won (s := s.popped .portC r) hw hi,
      State.routeAction_of_consume hact (by rw [hcons, ArmId.tagger_stopsInHold]; exact fun h => Bool.false_ne_true h.2) hopen,
      hcons, State.deliver_tagger,
      State.tagFrame_of_asked (by exact hl) (by exact hql) (by exact ht0) (by exact hq) (by exact hb)]
    exact (State.decideByTag_eq (s := State.tagRead _ a _) (by exact hs.1.1) (by exact hfind) (by exact hd)).trans
      (by rw [hw', hv]; rfl)
  have harm : w.arm a = { s.arm a with lastTag := none } := by
    rw [hw', hv, State.decidedBy_arm, State.tagRead_arm]
    rfl
  have hpages : w.allPages = s.allPages := by
    rw [hw', hv, State.allPages_decidedBy, State.allPages_tagRead, State.allPages_setRoute]
    exact State.allPages_setPort rfl
  have hwatch : w.watch = s.watch := by rw [hw', hv]; rfl
  have hagenda : w.agenda = [] := by rw [hw', hv]; exact hs.1.1
  have hnoted : w.mgmt.noted = w.allPages := by rw [hpages, hw', hv]; exact hs.2
  have hset : w.settled := ⟨⟨hagenda, by rw [hwatch]; exact hs.1.2⟩, hnoted⟩
  have hdec : handle (.decision a d.refuses) w =
      w.setArm a { s.arm a with lastTag := none, refused := (s.arm a).refused || d.refuses, keptEnd := true } := by
    have hkept := State.takeDecision_kept (s := w) (a := a) (by rw [harm]; exact hc) (by rw [harm]; exact hr) d.refuses
    rw [harm] at hkept
    exact hkept
  have hfin : (handle (.decision a d.refuses) w).settled := by
    rw [hdec]
    exact hset.setArm (by rw [harm]; rfl)
  rw [exec_frameTaken, run_wellFormed rfl, htake,
    State.finish_handing_one hagenda hnoted hfin.1.1 hfin.1.unwatched, State.finish_of_settled hfin, hdec, hw', hv]

/-! ## The time limit (R97) -/

/-- At the time limit the request is decided without a tag. -/
theorem State.tagTimeLimit_decides (hq : (s.request a).state ≠ .none)
    (hd : s.cfg.noTagPolicy = .continueCycle ∧ d = .noTag ∨ s.cfg.noTagPolicy = .refuse ∧ d = .refuseNoTag) :
    s.tagTimeLimit a = { s with
      log := s.log.enter (s.request a).record fun x => { x with decision := d },
      bins := { s.bins with
        requests := s.bins.requests.put a.second .empty,
        waiting := s.bins.waiting.filter (fun w => decide (w ≠ .decision a)) },
      agenda := nextIn (.decision a (decide (d = .refuseNoTag))) s.agenda } := by
  have hdec : s.noTagDecision = d := by
    unfold State.noTagDecision
    rcases hd with ⟨hp, rfl⟩ | ⟨hp, rfl⟩ <;> rw [hp]
  have hrefuses : d.refuses = decide (d = .refuseNoTag) := by
    rcases hd with ⟨-, rfl⟩ | ⟨-, rfl⟩ <;> rfl
  have hrec : LogRecord.withDecision d none none false = fun x => { x with decision := d } := by
    funext x
    simp [LogRecord.withDecision]
  have hlimit : s.tagTimeLimit a = s.decideNoTag a := by
    unfold State.tagTimeLimit
    split
    · exact absurd ‹_› hq
    · rfl
    · rfl
  rw [hlimit, State.decideNoTag, hdec, hrec, hrefuses]
  rfl

end

/-- Settles O41: a tag decides by `State.lookupDecision_found` and `State.lookupDecision_unknown` and reaches the arm
(`exec_frameTaken_decides`); the time limit decides by the policy (`State.tagTimeLimit_decides`). -/
theorem binDecisionTable : Obligations.BinDecisionTable := by
  unfold Obligations.BinDecisionTable
  rintro s a n k q rfl rfl rfl hasc
  refine ⟨fun f r i tag e found d hs hu hq hc hr hf hw hi hact hcons hgate hl hql ht ht0 hd => ?_, fun hq d hd => ?_⟩
  · have hfound : findBin tag s.bins.entries = found ∧ s.lookupDecision a tag = d := by
      rcases hd with ⟨b, hb, rfl, rfl, hd⟩ | ⟨hno, rfl, hd⟩
      · have hfind := findBin_of_mem hasc hb
        exact ⟨hfind, State.lookupDecision_found hfind hd⟩
      · have hfind := findBin_eq_none.2 hno
        exact ⟨hfind, State.lookupDecision_unknown hfind hd⟩
    rw [exec_frameTaken_decides hs hu hq hc hr hf hw hi hact (by rw [hcons]; cases a <;> rfl) hgate hl hql ht ht0 hfound.1 hfound.2,
      ← Decision.refuses_eq]
    refine congrArg Host.Outcome.next ?_
    simp only [State.decidedBy, State.tagRead, State.setArm, State.setBins, State.setLog, Duo.put_put]
    rfl
  · exact State.tagTimeLimit_decides hq hd

end Sys2Proof.Machine
end

section
/-! The statement on the gap timer of a gross window (R111, R113). -/

namespace Sys2Proof.Machine

section
variable {s v : State} {a : ArmId} {c : ChamberId} {n : Nat} {e : Ev} {l r : List Ev}

/-! ## Hand-overs that do nothing -/

/-- Two events handed on in either order take one free choice. -/
theorem State.postAnyOrder_two (s : State) (x y : Ev) :
    ∃ l, l.Perm [x, y] ∧ s.postAnyOrder [x, y] = { s with agenda := s.agenda ++ l, freeCount := s.freeCount + 1 } := by
  have h2 : Config.freeChoice s.freeCount % 2 = 0 ∨ Config.freeChoice s.freeCount % 2 = 1 := Nat.mod_two_eq_zero_or_one _
  rcases h2 with h | h
  · refine ⟨[x, y], .refl _, ?_⟩
    simp [State.postAnyOrder, State.inAnyOrder, State.permuted, State.freePick, State.postAll, h]
  · refine ⟨[y, x], .swap _ _ _, ?_⟩
    simp [State.postAnyOrder, State.inAnyOrder, State.permuted, State.freePick, State.postAll, h]

/-- Hand-overs that find nothing to do, where no page has changed, leave those behind them. -/
theorem drain_idle (ha : v.agenda = []) (hn : v.mgmt.noted = v.allPages) (r : List Ev) (n : Nat) :
    ∀ l : List Ev, (∀ e ∈ l, handle e v = v) → drain (n + l.length) (v.handing (l ++ r)) = drain n (v.handing r)
  | [], _ => rfl
  | e :: l, h => by
    have hhead : (v.handing (e :: (l ++ r))).takeHead e (l ++ r) = v.handing (l ++ r) := by
      unfold State.takeHead
      rw [show ({ v.handing (e :: (l ++ r)) with agenda := [] } : State) = v from State.handing_self ha, h e List.mem_cons_self,
        show v.postAll (l ++ r) = v.handing (l ++ r) by unfold State.postAll; rw [ha]; rfl]
      exact State.notePages_of_noted hn
    rw [List.cons_append, List.length_cons, ← Nat.add_assoc, drain_cons rfl, hhead]
    exact drain_idle ha hn r n l fun d hd => h d (List.mem_cons_of_mem _ hd)

/-- A single hand-over behind idle ones, setting off nothing itself, ends the command with the pages it changes. -/
theorem State.finish_handing_idle (ha : v.agenda = []) (hn : v.mgmt.noted = v.allPages) (hl : l.length ≤ 8)
    (hidle : ∀ d ∈ l, handle d v = v) (hh : (handle e v).calm) : (v.handing (l ++ [e])).finish = (handle e v).notePages := by
  obtain ⟨n, hb⟩ := cascadeBudget_eq
  have hhead : (v.handing [e]).takeHead e [] = (handle e v).notePages := by
    unfold State.takeHead
    rw [show ({ v.handing [e] with agenda := [] } : State) = v from State.handing_self ha, State.postAll_nil]
  have hfuel : n + 16 = n + 15 - l.length + 1 + l.length := by omega
  unfold State.finish
  rw [State.notePages_of_noted (s := v.handing (l ++ [e])) hn, hb, hfuel, drain_idle ha hn [e] _ l hidle, drain_cons rfl, hhead,
    drain_of_empty ((State.notePages_afterPages hh).calm hh).1]

/-- A chamber that neither waits for a quiet request to drop nor has a stroke pending does nothing when it drops. -/
theorem State.quietEvent_of_dropped (hq : v.quietRaised = false)
    (hc : (v.chamber c).state ≠ .quiet ∧ ((v.chamber c).state = .idle → (v.chamber c).pending = false)) : v.quietEvent c = v := by
  unfold State.quietEvent
  rw [hq, if_neg Bool.false_ne_true]
  split
  · exact absurd ‹_› hc.1
  · next hi =>
    unfold State.strokeTest
    simp [hc.2 hi]
  all_goals rfl

/-! ## A gross window that ends VOID (R111, R113, R120) -/

/-- The result of a window that ends VOID (R111, R113). -/
def WeighUnit.voidResult (u : WeighUnit) : WeighResult :=
  { grams := none, flags := { disturbed := u.disturbed, loadcellLost := true } }

/-- A Weighing Unit with its gross window ended without a value. -/
def WeighUnit.voided (u : WeighUnit) : WeighUnit :=
  { u with
    state := .grossDone, window := [], isOpen := false, gapTimer := .stopped, quiet := false, gross := some u.voidResult }

/-- A gross window ends VOID: both chambers hear of the dropped request, the record takes the result, the arm the end. -/
theorem State.endWindow_void (hst : (s.weighUnit a).state = .collectGross) (hq : (s.weighUnit a).quiet = true)
    (hn : (s.weighUnit a).record = some n) :
    s.endWindow a false false true =
      (((s.setWeighUnit a (s.weighUnit a).voided).postAnyOrder [.quietChanged .chamber0, .quietChanged .chamber1]).enterRecord n
        (LogRecord.withGross (s.weighUnit a).voidResult)).post (.windowEnd a) := by
  have hput : s.putWeigh a (s.weighUnit a).voided =
      (s.setWeighUnit a (s.weighUnit a).voided).postAnyOrder [.quietChanged .chamber0, .quietChanged .chamber1] := by
    unfold State.putWeigh
    exact if_neg (by rw [hq]; exact Bool.false_ne_true)
  unfold State.endWindow
  dsimp only
  rw [← hput, hst]
  show ((s.putWeigh a (s.weighUnit a).voided).enterRecord ((s.weighUnit a).record.getD 0) _).post _ = _
  rw [hn]
  rfl

/-- The state once the gap timer has ended the window, its end not yet handed on. -/
def State.windowVoided (s : State) (a : ArmId) (n : Nat) : State :=
  { s with
    weigh := s.weigh.put a.second { (s.weighUnit a).voided with gapCount := satInc (s.weighUnit a).gapCount },
    log := s.log.enter n (LogRecord.withGross (s.weighUnit a).voidResult), freeCount := s.freeCount + 1 }

theorem State.gapExpired_voids (ha : s.agenda = []) (hst : (s.weighUnit a).state = .collectGross)
    (ho : (s.weighUnit a).isOpen = true) (hq : (s.weighUnit a).quiet = true) (hg : (s.weighUnit a).gapTimer.running = true)
    (hn : (s.weighUnit a).record = some n) :
    ∃ l, l.Perm [.quietChanged .chamber0, .quietChanged .chamber1] ∧
      s.gapExpired a = (s.windowVoided a n).handing (l ++ [.windowEnd a]) := by
  obtain ⟨t, ht⟩ : ∃ t, t = s.setWeighUnit a { s.weighUnit a with gapCount := satInc (s.weighUnit a).gapCount } := ⟨_, rfl⟩
  have hunit : t.weighUnit a = { s.weighUnit a with gapCount := satInc (s.weighUnit a).gapCount } := by
    rw [ht]
    exact Duo.at_put_same _ _ _
  have hexp : s.gapExpired a = t.endWindow a false false true := by
    rw [ht]
    exact if_pos (by rw [ho, hg]; rfl)
  obtain ⟨l, hl, hpost⟩ :=
    (t.setWeighUnit a (t.weighUnit a).voided).postAnyOrder_two (.quietChanged .chamber0) (.quietChanged .chamber1)
  refine ⟨l, hl, ?_⟩
  rw [hexp, State.endWindow_void (by rw [hunit]; exact hst) (by rw [hunit]; exact hq) (by rw [hunit]; exact hn), hpost, hunit, ht]
  unfold State.enterRecord State.post State.windowVoided State.handing State.setWeighUnit State.setLog
  simp only [Duo.put_put, ha]
  rfl

theorem State.windowVoided_unit :
    (s.windowVoided a n).weighUnit a = { (s.weighUnit a).voided with gapCount := satInc (s.weighUnit a).gapCount } :=
  Duo.at_put_same _ _ _

theorem State.allPages_windowVoided : (s.windowVoided a n).allPages = s.allPages :=
  State.allPages_enter (s := s) fun _ => rfl

theorem State.quietRaised_iff : s.quietRaised = false ↔ ∀ b, (s.weighUnit b).quiet = false := by
  unfold State.quietRaised
  rw [Bool.or_eq_false_iff]
  refine ⟨fun ⟨h1, h2⟩ b => ?_, fun h => ⟨h .armA, h .armB⟩⟩
  cases b
  · exact h1
  · exact h2

/-- The dropped request is heard by nobody. -/
theorem State.windowVoided_quiet (hothers : ∀ b, b ≠ a → (s.weighUnit b).quiet = false) :
    (s.windowVoided a n).quietRaised = false := by
  refine State.quietRaised_iff.2 fun b => ?_
  by_cases hb : b = a
  · rw [hb, State.windowVoided_unit]
    rfl
  · exact (congrArg WeighUnit.quiet (Duo.at_put_ne s.weigh (ArmId.second_ne hb) _)).trans (hothers b hb)

end

/-- Settles O39: the end of the window reaches the arm once both chambers have found nothing to do (`State.finish_handing_idle`), and the
arm pauses at its next step (`State.goTo_reaches`). -/
theorem gapEndsTheWindowVoid : Obligations.GapEndsTheWindowVoid := by
  unfold Obligations.GapEndsTheWindowVoid
  intro s a n p g k d f hs hst ho hq hgap hn hchambers hothers hrun hsingle hrefused hpos hg hlast hk hkind hd hw hf
  obtain ⟨l, hl, hexp⟩ := State.gapExpired_voids hs.1.1 hst ho hq hgap hn
  obtain ⟨v, hv⟩ : ∃ v, v = s.windowVoided a n := ⟨_, rfl⟩
  rw [← hv] at hexp
  have hnoted : v.mgmt.noted = v.allPages := by
    rw [hv, State.allPages_windowVoided]
    exact hs.2
  have hagenda : v.agenda = [] := by rw [hv]; exact hs.1.1
  have hclosed : (v.weighUnit a).isOpen = false := by
    rw [hv, State.windowVoided_unit]
    rfl
  have hidle : ∀ e ∈ l, handle e v = v := by
    intro e he
    have hquiet (c : ChamberId) : v.quietEvent c = v :=
      State.quietEvent_of_dropped (by rw [hv]; exact State.windowVoided_quiet hothers) (by rw [hv]; exact hchambers c)
    have hmem := hl.mem_iff.1 he
    simp only [List.mem_cons, List.not_mem_nil, or_false] at hmem
    rcases hmem with rfl | rfl
    · exact hquiet .chamber0
    · exact hquiet .chamber1
  obtain ⟨y, hy⟩ : ∃ y : Arm, y = { s.arm a with loops := (s.arm a).loops.set (p - 1) 0, keptEnd := false } := ⟨_, rfl⟩
  have hend : handle (.windowEnd a) v =
      ((v.setArm a { y.loadedAt (p + 1) d with state := .paused, singleStep := false }).stopped a.consumer).granted a.consumer 0 := by
    have harm : v.arm a = s.arm a := by rw [hv]; rfl
    have hfinish := State.finishStep_setArm (s := v) (x := v.arm a) (g := g) (p := p) (d := k)
      (by exact ⟨rfl, fun _ _ => rfl, rfl, rfl, rfl⟩) (by rw [hv]; exact hg) (by rw [harm]; exact hpos) (by rw [hv]; exact hk)
    rw [State.setArm_self, if_neg (by rw [hkind]; nofun),
      State.passOn_leaves (by exact StepEntry.loops_le (.inl ⟨by rw [hkind]; nofun, by rw [hkind]; nofun⟩)),
      if_neg (by rw [hkind]; nofun), if_neg (Nat.not_le.2 hlast)] at hfinish
    refine ((State.endEvent_of_running (by rw [harm]; exact hrun)).trans hfinish).trans ?_
    rw [harm, ← hy]
    exact State.goTo_reaches (q := p + 1) (d := d) (single := true) (by rw [hv]; exact hs.1.2) hclosed (by rw [hv]; exact hw)
      (by rw [hy, harm]) le_rfl (by omega) hlast (by rw [hv]; exact hd)
      (fun hr => by rw [hy] at hr; exact absurd (hrefused.symm.trans hr) (by decide)) (fun j h1 h2 => absurd h1 (Nat.not_le.2 h2))
      (by rw [hy]; exact hsingle) (.inl ⟨rfl, rfl⟩)
  have hcalm : (handle (.windowEnd a) v).calm := by
    rw [hend]
    exact State.calm_armAtRest ⟨hagenda, by rw [hv]; exact hs.1.2⟩ _
  have hrunning : exec (.gapTimerExpiry a) s = .next (handle (.windowEnd a) v).notePages := by
    rw [exec_gapTimerExpiry, run_wellFormed rfl, hexp,
      State.finish_handing_idle hagenda hnoted (by rw [hl.length_eq]; decide) hidle hcalm]
  have hpages := State.notePages_afterPages hcalm
  rw [hend, hv, hy] at hpages hrunning
  refine ⟨_, _, hrunning, rfl, ?_⟩
  rw [hf]
  exact hpages

end Sys2Proof.Machine
end

section
/-! The statement on the end of a hold (R64, R130, R158). -/

namespace Sys2Proof.Machine

section
variable {s t u v w : State} {a : ArmId} {c : ChamberId} {d : StepEntry} {e f : Ev} {i : Instr} {q : Request} {st : ChamberState}

/-! ## One block takes the end of a hold, and WATCH_CONTINUE is answered -/

theorem State.holdEnds_arm (ha : (s.arm a).state = .held) (hb : ∀ b, b ≠ a → (s.arm b).state ≠ .held)
    (hc : ∀ x, (s.chamber x).state ≠ .held ∧ (s.chamber x).pending = false) : s.holdEnds = [.armHoldEnd a] := by
  have harms : [ArmId.armA, .armB].filter (fun b => decide ((s.arm b).state = .held)) = [a] := by
    cases a
    · simp [ha, hb .armB (by decide)]
    · simp [ha, hb .armA (by decide)]
  unfold State.holdEnds
  rw [harms, List.filter_eq_nil_iff.2 fun x _ => by simp [hc x]]
  rfl

theorem State.holdEnds_chamber (ha : ∀ b, (s.arm b).state ≠ .held) (hc : (s.chamber c).state = .held)
    (hd : ∀ x, x ≠ c → (s.chamber x).state ≠ .held ∧ (s.chamber x).pending = false) :
    s.holdEnds = [.chamberHoldEnd c] := by
  have hchambers : [ChamberId.chamber0, .chamber1].filter (fun x =>
      decide ((s.chamber x).state = .held ∨ (s.chamber x).state = .idle ∧ (s.chamber x).pending = true)) = [c] := by
    cases c
    · simp [hc, hd .chamber1 (by decide)]
    · simp [hc, hd .chamber0 (by decide)]
  unfold State.holdEnds
  rw [hchambers, List.filter_eq_nil_iff.2 fun x _ => by simp [ha x]]
  rfl

/-- A WATCH_CONTINUE that carries out `q`, in either form. -/
abbrev Continues (i : Instr) (q : Request) : Prop :=
  i = .watchContinueProcess q ∧ q.value = 1 ∨ i = .watchContinueDiscard q ∧ q.value = 0

/-- WATCH_CONTINUE in a hold with one block to take its end, and no frame kept. -/
structure Releasing (s : State) (q : Request) (e : Ev) : Prop where
  settled : s.settled
  held : s.watch.isHeld = true
  register : s.watch.register = none
  idle : s.mgmt.inProgress = none
  service : s.mgmt.service = true
  ends : s.holdEnds = [e]

theorem Releasing.manage (k : Releasing s q e) (hq : ¬ 1 < q.valueN) :
    s.manage .watchContinue q = ((s.released.taking .watchContinue q).handing [e]).answer .watchContinue statusOk q 1 := by
  rw [State.manage_operates k.idle (State.judgeRequest_of_level (op := .watchContinue) nofun nofun nofun k.service)]
  show (s.taking .watchContinue q).doWatchContinue q = _
  unfold State.doWatchContinue
  rw [if_neg hq, if_pos (show (s.taking .watchContinue q).watch.isHeld = true from k.held)]
  dsimp only
  rw [show (s.taking .watchContinue q).watch.register = none from k.register, State.handHoldEnd]
  change (State.postAll (State.postAnyOrder (s.released.taking .watchContinue q) s.holdEnds) []).answer _ _ _ _ = _
  rw [State.postAll_nil, k.ends]
  show State.answer (State.postAll _ [e]) _ _ _ _ = _
  unfold State.postAll
  rw [show (s.released.taking .watchContinue q).agenda = [] from k.settled.1.1]
  rfl

/-- A request answered once its hand-overs have led to `u` and pages. -/
theorem State.answer_of_finish {r : Option (MgmtOp × Request)} {op : MgmtOp} {status : Nat} {x : Word}
    (h : (u.inProgressAs r).AfterPages v.finish) (hu : u.unwatched) (hi : u.mgmt.inProgress = none)
    (hr : op ≠ .reset ∨ status ≠ 0) :
    ∃ t, u.AfterPages t ∧ v.answer op status q x = t.offerQueue .portB (u.replyTo q op.code status q.index x) := by
  have b := h.inProgressAs none
  rw [State.inProgressAs_inProgressAs, State.inProgressAs_self hi] at b
  refine ⟨_, b, ?_⟩
  unfold State.answer
  rw [State.reply_eq (h.unwatched hu) hr, State.requestEnds_eq, ← State.offerQueue_inProgressAs]
  unfold State.replyTo
  rw [h.cfg_eq]
  rfl

theorem Releasing.afterReply (k : Releasing s q e)
    (hi : Continues i q)
    (hw : (w.taking .watchContinue q).AfterPages ((s.released.taking .watchContinue q).handing [e]).finish)
    (hc : w.calm) (hp : w.mgmt.inProgress = none) (hg : w.cfg = s.cfg) :
    ∃ t, exec i s = .next t ∧ w.AfterReply (s.replyTo q 9 0 q.index 1) t := by
  have hwf : i.wellFormed = true ∧ exec i s = run i (fun s => s.manage .watchContinue q) s ∧ ¬ 1 < q.valueN := by
    unfold Request.valueN
    rcases hi with ⟨rfl, hv⟩ | ⟨rfl, hv⟩ <;> rw [hv] <;> exact ⟨decide_eq_true hv, rfl, by decide⟩
  obtain ⟨hwell, hexec, hq⟩ := hwf
  obtain ⟨x, hx, hans⟩ :=
    State.answer_of_finish (op := .watchContinue) (status := statusOk) (x := 1) (q := q) hw hc.unwatched hp (.inl nofun)
  refine ⟨_, hexec.trans (run_wellFormed hwell _ s), x, hx, ?_⟩
  rw [k.manage hq, hans, State.replyTo_congr hg]
  exact State.offerQueue_finish (hx.agenda_eq.trans hc.1) (hx.unwatched hc.unwatched) _ _

/-- The block's act sets off nothing. -/
theorem Releasing.afterAct (k : Releasing s q e)
    (hi : Continues i q)
    (hw : handle e (s.released.taking .watchContinue q) = w.taking .watchContinue q)
    (hc : w.calm) (hp : w.mgmt.inProgress = none) (hg : w.cfg = s.cfg) :
    ∃ t, exec i s = .next t ∧ w.AfterReply (s.replyTo q 9 0 q.index 1) t := by
  refine k.afterReply hi ?_ hc hp hg
  have hcalm : (handle e (s.released.taking .watchContinue q)).calm := by rw [hw]; exact hc
  rw [State.finish_handing_one (s := s.released.taking .watchContinue q) k.settled.1.1 k.settled.2 hcalm.1 hcalm.unwatched, hw]
  exact State.finish_afterPages (by exact hc)

/-- A hand-over that sets off one other, which finds nothing to do. -/
theorem State.finish_handing_then_idle (hs : s.settled) (hh : handle e s = w.handing [f]) (hc : w.calm)
    (hidle : ∀ v, w.AfterPages v → handle f v = v) : w.AfterPages (s.handing [e]).finish := by
  obtain ⟨n, hb⟩ := cascadeBudget_eq
  obtain ⟨v, hv, hnote⟩ := State.notePages_handing hc.unwatched hc.1 [f]
  have hva := hv.agenda_eq.trans hc.1
  have hfirst : (s.handing [e]).takeHead e [] = v.handing [f] := by
    unfold State.takeHead
    rw [show ({ s.handing [e] with agenda := [] } : State) = s from State.handing_self hs.1.1, State.postAll_nil, hh, hnote]
  have hsecond : (v.handing [f]).takeHead f [] = v.notePages := by
    unfold State.takeHead
    rw [show ({ v.handing [f] with agenda := [] } : State) = v from State.handing_self hva, State.postAll_nil, hidle v hv]
  have hpages := State.notePages_afterPages_of_unwatched (hv.unwatched hc.unwatched)
  unfold State.finish
  rw [State.notePages_of_noted (s := s.handing [e]) hs.2, hb, drain_cons (s := s.handing [e]) rfl, hfirst,
    drain_cons (s := v.handing [f]) rfl, hsecond, drain_of_empty (hpages.agenda_eq.trans hva)]
  exact hv.trans hpages

/-! ## A HELD arm (R64) -/

/-- The arm is HELD no more. -/
def Arm.unheld (x : Arm) : Arm := { x with prior := none, grantedHeld := false }

theorem State.handle_armHoldEnd (hf : s.watch.isHeld = false) : handle (.armHoldEnd a) s = s.armHoldEnd a :=
  if_neg (ne_true_of_eq_false hf)

theorem State.armHoldEnd_runs (h : s.disarmed) (hs : (s.arm a).state = .held) (hp : (s.arm a).prior = some .running)
    (hg : s.given a.runGuard = true) (hd : s.currentStep a = some d) (hr : s.runsOn d) :
    s.armHoldEnd a = (s.setArm a ((s.arm a).unheld.runningIn d)).drivenBy a.consumer d := by
  have hcur : (s.setArm a (s.arm a).unheld).currentStep a = some d := by
    rw [← hd]
    unfold State.currentStep
    rw [State.setArm_arm]
    exact congrArg (Option.bind (s.arm a).position) (funext (State.stepAt_setArm rfl))
  have hact : s.armHoldEnd a = (s.setArm a (s.arm a).unheld).enterRunning a := by
    unfold State.armHoldEnd
    dsimp only
    rw [if_pos hs, hp]
    exact if_pos hg
  rw [hact, State.enterRunning_eq (by exact h) hcur (hr.congr (by rfl)), State.setArm_arm, State.setArm_setArm]

theorem State.armHoldEnd_suspends (h : s.disarmed) (hs : (s.arm a).state = .held)
    (hp : (s.arm a).prior = some .running ∨ (s.arm a).prior = some .waitSupply) (hg : s.given a.runGuard = false)
    (hw : s.noneWaitsBut a.consumer) (hv : (s.valve a.consumer).driving = false) :
    s.armHoldEnd a = (s.setArm a ((s.arm a).unheld.stoppedIn .suspended)).granted a.consumer 0 := by
  have hact : s.armHoldEnd a = (s.setArm a (s.arm a).unheld).armStop a .suspended := by
    unfold State.armHoldEnd
    dsimp only
    rcases hp with hp | hp <;> rw [if_pos hs, hp]
    · exact if_neg (ne_true_of_eq_false hg)
    · exact if_pos (congrArg (!·) hg)
  have hheld : ((s.setArm a (s.arm a).unheld).arm a).state = .held := by rw [State.setArm_arm]; exact hs
  rw [hact, State.armStop_rests (by exact h) rfl (fun hr => nomatch hheld.symm.trans hr) (by exact hw),
    State.stopped_of_still (by exact hv), State.setArm_arm, State.setArm_setArm]

theorem State.leaveManual_unheld (h : s.disarmed) (hs : (s.arm a).state = .held) (hw : s.noneWaitsBut a.consumer)
    (hv : (s.valve a.consumer).driving = false) :
    (s.setArm a (s.arm a).unheld).leaveManual a .idle =
      (s.setArm a { (s.arm a).unheld with state := .idle, manualGranted := false }).granted a.consumer 0 := by
  have hheld : ((s.setArm a (s.arm a).unheld).arm a).state = .held := by rw [State.setArm_arm]; exact hs
  rw [State.leaveManual_rests (by exact h) rfl (by rw [hheld]; nofun) (by exact hw), State.stopped_of_still (by exact hv),
    State.setArm_arm, State.setArm_setArm]
  rfl

theorem State.armHoldEnd_leavesManual (h : s.disarmed) (hs : (s.arm a).state = .held) (hp : (s.arm a).prior = some .manual)
    (hm : s.given a.manualPermit = false ∨ (s.chamber a.chamber).load = .full) (hw : s.noneWaitsBut a.consumer)
    (hv : (s.valve a.consumer).driving = false) :
    s.armHoldEnd a = (s.setArm a { (s.arm a).unheld with state := .idle, manualGranted := false }).granted a.consumer 0 := by
  have hno : ¬ (s.given a.manualPermit = true ∧ (s.chamber a.chamber).load ≠ .full) := by
    rintro ⟨hgiven, hload⟩
    exact hm.elim (fun h => Bool.false_ne_true (h.symm.trans hgiven)) hload
  have hact : s.armHoldEnd a = (s.setArm a (s.arm a).unheld).leaveManual a .idle := by
    unfold State.armHoldEnd
    dsimp only
    rw [if_pos hs, hp]
    exact if_neg hno
  rw [hact, State.leaveManual_unheld h hs hw hv]

theorem State.armServiceEnd_pauses (h : s.disarmed) (hs : (s.arm a).state = .held)
    (hp : (s.arm a).prior = some .running ∨ (s.arm a).prior = some .waitSupply ∨ (s.arm a).prior = some .suspended)
    (hw : s.noneWaitsBut a.consumer) (hv : (s.valve a.consumer).driving = false) :
    s.armServiceEnd a =
      (s.setArm a { (s.arm a).unheld.stoppedIn .paused with singleStep := false }).granted a.consumer 0 := by
  obtain ⟨x, hx⟩ : ∃ x : Arm, x = { (s.arm a).unheld with singleStep := false } := ⟨_, rfl⟩
  have hact : s.armServiceEnd a = (s.setArm a x).armStop a .paused := by
    unfold State.armServiceEnd
    dsimp only
    rcases hp with hp | hp | hp <;>
      · rw [if_pos hs, hp]
        show ((s.setArm a (s.arm a).unheld).setArm a _).armStop a .paused = _
        rw [State.setArm_setArm, State.setArm_arm, hx]
        rfl
  have hheld : ((s.setArm a x).arm a).state = .held := by rw [State.setArm_arm, hx]; exact hs
  rw [hact, State.armStop_rests (by exact h) rfl (fun hr => nomatch hheld.symm.trans hr) (by exact hw),
    State.stopped_of_still (by exact hv), State.setArm_arm, State.setArm_setArm, hx]
  rfl

theorem State.armServiceEnd_leavesManual (h : s.disarmed) (hs : (s.arm a).state = .held) (hp : (s.arm a).prior = some .manual)
    (hw : s.noneWaitsBut a.consumer) (hv : (s.valve a.consumer).driving = false) :
    s.armServiceEnd a = (s.setArm a { (s.arm a).unheld with state := .idle, manualGranted := false }).granted a.consumer 0 := by
  have hact : s.armServiceEnd a = (s.setArm a (s.arm a).unheld).leaveManual a .idle := by
    unfold State.armServiceEnd
    dsimp only
    rw [if_pos hs, hp]
    rfl
  rw [hact, State.leaveManual_unheld h hs hw hv]

/-! ## A HELD chamber (R130) -/

/-- The chamber is HELD no more. -/
def Chamber.unheld (x : Chamber) : Chamber := { x with prior := none, grantedHeld := false }

/-- The Valve Output Unit drives what the chamber's settings give for a phase. -/
def State.drivenIn (s : State) (c : ChamberId) (p : StrokePhase) : State :=
  s.driven c.consumer (phaseFns (s.chamberSettings c) p) (List.replicate 6 (phaseLevel (s.chamberSettings c) p))
    (s.chamberSettings c).ramp

theorem State.handle_chamberHoldEnd (hf : s.watch.isHeld = false) : handle (.chamberHoldEnd c) s = s.chamberHoldEnd c :=
  if_neg (ne_true_of_eq_false hf)

theorem State.chamberHoldEnd_of_phase (hs : (s.chamber c).state = .held) (hp : (s.chamber c).prior = some st)
    (hst : st.isPhase = true) :
    s.chamberHoldEnd c =
      if s.given c.packPermit then (s.setChamber c (s.chamber c).unheld).enterPhase c
      else (s.setChamber c (s.chamber c).unheld).suspendStroke c := by
  unfold State.chamberHoldEnd
  dsimp only
  split
  · next hidle => exact nomatch hs.symm.trans hidle
  · rw [hp]
    cases st <;> first | rfl | cases hst
  all_goals next hother => exact nomatch hs.symm.trans hother

/-- A stroke phase's state, with the phase timer running on and no quiet limit. -/
def Chamber.phaseRuns (x : Chamber) : Chamber :=
  { x with state := x.phase.toState, phaseTimer := x.phaseTimer.resume, quietTimer := .stopped }

/-- A phase entered before runs on with what its timer has left (R125). -/
theorem State.enterPhase_again (h : s.calm) (he : (s.chamber c).entered = true) (hp : (s.chamber c).phase.toState.isPhase = true) :
    s.enterPhase c = ((s.setChamber c (s.chamber c).phaseRuns).drivenIn c (s.chamber c).phase).handing [.phaseTest c] := by
  have hruns : { (s.chamber c).phaseRuns with entered := true } = (s.chamber c).phaseRuns :=
    congrArg (fun b => { (s.chamber c).phaseRuns with entered := b }) he.symm
  obtain ⟨x, y, hv⟩ := (s.setChamber c (s.chamber c).phaseRuns).driven_eq c.consumer
    (phaseFns (s.chamberSettings c) (s.chamber c).phase) (List.replicate 6 (phaseLevel (s.chamberSettings c) (s.chamber c).phase))
    (s.chamberSettings c).ramp
  have hagenda : ((s.setChamber c (s.chamber c).phaseRuns).drivenIn c (s.chamber c).phase).agenda = [] := by
    unfold State.drivenIn
    exact (congrArg State.agenda hv).trans h.1
  rw [← State.postNext_of_nil hagenda, ← hruns]
  unfold State.enterPhase State.setChamberState
  dsimp only
  rw [if_pos he, if_pos hp, State.setChamber_chamber, State.setChamber_setChamber, State.driveGroup_setTargets (by exact h.2)]
  rfl

theorem State.chamberHoldEnd_runs (h : s.calm) (hs : (s.chamber c).state = .held) (hp : (s.chamber c).prior = some st)
    (hst : st = (s.chamber c).phase.toState) (hph : st.isPhase = true) (hg : s.given c.packPermit = true)
    (he : (s.chamber c).entered = true) :
    s.chamberHoldEnd c =
      ((s.setChamber c (s.chamber c).unheld.phaseRuns).drivenIn c (s.chamber c).phase).handing [.phaseTest c] := by
  rw [State.chamberHoldEnd_of_phase hs hp hph, if_pos hg,
    State.enterPhase_again (by exact h) (by rw [State.setChamber_chamber]; exact he)
      (by rw [State.setChamber_chamber]; exact (congrArg _ hst).symm.trans hph),
    State.setChamber_chamber, State.setChamber_setChamber]
  rfl

theorem State.testPhase_of_unread (hb : s.roleValue c.bladeRole = none) (hp : s.roleValue c.pressRole = none) :
    s.testPhase c = none := by
  unfold State.testPhase
  rw [hb, hp]
  split <;> rfl

theorem State.phaseEntered_of_unread (hb : s.roleValue c.bladeRole = none) (hp : s.roleValue c.pressRole = none)
    (hq : s.quietRaised = false) : s.phaseEntered c = s := by
  unfold State.phaseEntered
  rw [State.testPhase_of_unread hb hp]
  exact if_neg fun h => Bool.false_ne_true (hq.symm.trans h.2.2)

theorem State.suspendStroke_still (h : s.disarmed) (hv : (s.valve c.consumer).driving = false) :
    s.suspendStroke c =
      s.setChamber c { s.chamber c with
        state := .suspended, phaseTimer := (s.chamber c).phaseTimer.pause, quietTimer := .stopped } := by
  unfold State.suspendStroke State.setChamberState
  dsimp only
  rw [State.setChamber_chamber, State.setChamber_setChamber, if_neg (by decide), State.stopGroup_of_disarmed (by exact h),
    State.stopped_of_still (by exact hv)]

theorem State.chamberServiceEnd_eq (h : s.disarmed) (hs : (s.chamber c).state = .held) (hw : s.noneWaitsBut c.consumer)
    (hv : (s.valve c.consumer).driving = false) :
    s.chamberServiceEnd c =
      (s.setChamber c { s.chamber c with
        state := .suspended, prior := none, grantedHeld := false, grantFlag := false, operatorFlag := true,
        quietTimer := .stopped }).granted c.consumer 0 := by
  unfold State.chamberServiceEnd State.setChamberState
  dsimp only
  rw [hs]
  dsimp only
  rw [State.setChamber_chamber, State.setChamber_setChamber, if_neg (by decide), State.stopGroup_of_disarmed (by exact h),
    State.stopped_of_still (by exact hv), State.claimNone_of_disarmed (by exact h) (by exact hw)]

/-! ## WATCH_CONTINUE frees one block -/

theorem Releasing.armRests (k : Releasing s q (.armHoldEnd a)) (hi : Continues i q) {x : Arm}
    (h : (s.released.taking .watchContinue q).armHoldEnd a =
      ((s.released.taking .watchContinue q).setArm a x).granted a.consumer 0) :
    ∃ t, exec i s = .next t ∧ ((s.released.setArm a x).granted a.consumer 0).AfterReply (s.replyTo q 9 0 q.index 1) t := by
  obtain ⟨hcfg, hmgmt⟩ := (s.released.setArm a x).granted_cfg_mgmt a.consumer 0
  have hact := h.trans (State.granted_inProgressAs (s := s.released.setArm a x) _)
  exact k.afterAct hi ((State.handle_armHoldEnd rfl).trans hact) ((State.calm_granted _ _).2 k.settled.1)
    (by rw [hmgmt]; exact k.idle) hcfg

theorem Releasing.armRuns (k : Releasing s q (.armHoldEnd a)) (hi : Continues i q) (hs : (s.arm a).state = .held)
    (hp : (s.arm a).prior = some .running) (hg : s.given a.runGuard = true) (hd : s.currentStep a = some d) (hr : s.runsOn d) :
    ∃ t, exec i s = .next t ∧
      ((s.released.setArm a ((s.arm a).unheld.runningIn d)).drivenBy a.consumer d).AfterReply (s.replyTo q 9 0 q.index 1) t := by
  obtain ⟨hcfg, hmgmt⟩ := (s.released.setArm a ((s.arm a).unheld.runningIn d)).drivenBy_cfg_mgmt a.consumer d
  have h := State.armHoldEnd_runs (s := s.released.taking .watchContinue q) k.settled.1.2 hs hp (by exact hg) (by exact hd)
    (by exact hr)
  have hact := h.trans (State.driven_inProgressAs (s := s.released.setArm a ((s.arm a).unheld.runningIn d)) _ _ _ _)
  exact k.afterAct hi ((State.handle_armHoldEnd rfl).trans hact) (State.calm_drivenBy.2 k.settled.1)
    (by rw [hmgmt]; exact k.idle) hcfg

theorem Releasing.chamberSuspends (k : Releasing s q (.chamberHoldEnd c)) (hi : Continues i q)
    (hs : (s.chamber c).state = .held) (hp : (s.chamber c).prior = some st) (hph : st.isPhase = true)
    (hg : s.given c.packPermit = false) (hv : (s.valve c.consumer).driving = false) :
    ∃ t, exec i s = .next t ∧
      (s.released.setChamber c { (s.chamber c).unheld with
        state := .suspended, phaseTimer := (s.chamber c).phaseTimer.pause, quietTimer := .stopped }).AfterReply
        (s.replyTo q 9 0 q.index 1) t := by
  refine k.afterAct hi ?_ k.settled.1 k.idle rfl
  rw [State.handle_chamberHoldEnd rfl, State.chamberHoldEnd_of_phase (s := s.released.taking .watchContinue q) hs hp hph,
    if_neg (ne_true_of_eq_false (by exact hg)), State.suspendStroke_still (by exact k.settled.1.2) (by exact hv),
    State.setChamber_chamber, State.setChamber_setChamber]
  rfl

/-- The phase resumed is tested at once (R125), and with no role to read and no quiet request the test finds nothing. -/
theorem Releasing.chamberRuns (k : Releasing s q (.chamberHoldEnd c)) (hi : Continues i q) (hs : (s.chamber c).state = .held)
    (hp : (s.chamber c).prior = some st) (hst : st = (s.chamber c).phase.toState) (hph : st.isPhase = true)
    (hg : s.given c.packPermit = true) (he : (s.chamber c).entered = true) (hb : s.roleValue c.bladeRole = none)
    (hr : s.roleValue c.pressRole = none) (hq : s.quietRaised = false) :
    ∃ t, exec i s = .next t ∧
      ((s.released.setChamber c (s.chamber c).unheld.phaseRuns).drivenIn c (s.chamber c).phase).AfterReply
        (s.replyTo q 9 0 q.index 1) t := by
  obtain ⟨w, hw⟩ : ∃ w, w = (s.released.setChamber c (s.chamber c).unheld.phaseRuns).drivenIn c (s.chamber c).phase := ⟨_, rfl⟩
  obtain ⟨x, y, hv⟩ := (s.released.setChamber c (s.chamber c).unheld.phaseRuns).driven_eq c.consumer
    (phaseFns (s.chamberSettings c) (s.chamber c).phase) (List.replicate 6 (phaseLevel (s.chamberSettings c) (s.chamber c).phase))
    (s.chamberSettings c).ramp
  have hparts : w = { s.released.setChamber c (s.chamber c).unheld.phaseRuns with valves := x, ports := y } := hw.trans hv
  have hact : handle (.chamberHoldEnd c) (s.released.taking .watchContinue q) =
      (w.taking .watchContinue q).handing [.phaseTest c] := by
    rw [State.handle_chamberHoldEnd rfl, hw,
      State.chamberHoldEnd_runs (s := s.released.taking .watchContinue q) k.settled.1 hs hp hst hph (by exact hg) he]
    exact congrArg (State.handing · _)
      (State.driven_inProgressAs (s := s.released.setChamber c (s.chamber c).unheld.phaseRuns) _ _ _ _)
  have hidle (v : State) (h : (w.taking .watchContinue q).AfterPages v) : handle (.phaseTest c) v = v := by
    obtain ⟨m, n, rfl, -⟩ := h.shape
    subst hparts
    exact State.phaseEntered_of_unread hb hr hq
  have hcalm : w.calm := by rw [hparts]; exact k.settled.1
  rw [← hw]
  exact k.afterReply hi (State.finish_handing_then_idle (s := s.released.taking .watchContinue q) k.settled hact hcalm hidle) hcalm
    (by rw [hparts]; exact k.idle) (by rw [hparts]; rfl)

/-! ## SERVICE level is lost (R158) -/

theorem State.judgeService_of_lost (h : s.mgmt.service = true) (hh : s.serviceHolds = false) :
    s.judgeService = (s.setMgmt { s.mgmt with service := false }).serviceLeft := by
  unfold State.judgeService
  rw [hh, h]
  rfl

theorem State.serviceLeft_of_held (h : s.watch.isHeld = true) :
    ∃ (es : List Ev) (k : Nat),
      es.Perm [.armServiceEnd .armA, .armServiceEnd .armB, .chamberServiceEnd .chamber0, .chamberServiceEnd .chamber1] ∧
      s.serviceLeft = { s with
        watch := { s.watch with
          entries := s.watch.entries.map (fun e : WatchEntry => { e with armed := false }), isHeld := false, holdEntry := none,
          register := none,
          heldDiscarded := if s.watch.register = none then s.watch.heldDiscarded else min (s.watch.heldDiscarded + 1) 65535 },
        agenda := s.agenda ++ es, freeCount := k } := by
  unfold State.serviceLeft
  dsimp only
  rw [if_pos h]
  obtain ⟨es, k, hperm, hpost⟩ := State.postAnyOrder_spec
    [.armServiceEnd .armA, .armServiceEnd .armB, .chamberServiceEnd .chamber0, .chamberServiceEnd .chamber1] _
  refine ⟨es, k, hperm, hpost.trans ?_⟩
  cases s.watch.register <;> rfl

end

/-- Settles O59: where one block takes the end of a hold, its act is followed by the reply alone; at the loss of SERVICE level the four
blocks are told in a free order, and a HELD arm or chamber gives its claim back. -/
theorem holdEndFreesTheBlocks : Obligations.HoldEndFreesTheBlocks := by
  unfold Obligations.HoldEndFreesTheBlocks
  intro s
  have hreleased {u : State} (hreg : s.watch.register = none)
      (hu : u = s.setWatch { s.watch with isHeld := false, holdEntry := none }) : u = s.released :=
    hu.trans (congrArg (fun r => s.setWatch { s.watch with isHeld := false, holdEntry := none, register := r }) hreg)
  refine ⟨?_, ?_, ?_, ?_, ?_⟩
  · intro q a k c hs hheld hreg hidle hsv hc hchambers harms ha hk u hu
    rw [hreleased hreg hu, hk]
    have r : Releasing s q (.armHoldEnd a) := ⟨hs, hheld, hreg, hidle, hsv, State.holdEnds_arm ha harms hchambers⟩
    refine ⟨fun hp hg d hd hpos hterm => ?_, fun hp hg hw hv => ?_, fun hp hm hw hv => ?_⟩
    · have hend := r.armRuns hc ha hp hg hd (.inl ⟨hpos, hterm⟩)
      rw [Arm.runningIn, if_neg (by rw [hpos]; decide)] at hend
      exact hend
    · exact r.armRests hc
        (State.armHoldEnd_suspends (s := s.released.taking .watchContinue q) hs.1.2 ha hp (by exact hg) hw hv)
    · exact r.armRests hc
        (State.armHoldEnd_leavesManual (s := s.released.taking .watchContinue q) hs.1.2 ha hp (by exact hm) hw hv)
  · intro q c k i fns level st hs hheld hreg hidle hsv hc harms hchambers hx hk hp hst u hu
    rw [hreleased hreg hu, hk]
    have r : Releasing s q (.chamberHoldEnd c) := ⟨hs, hheld, hreg, hidle, hsv, State.holdEnds_chamber harms hx hchambers⟩
    obtain ⟨hstate, hphase, hfns, hlevel⟩ : st = (s.chamber c).phase.toState ∧ st.isPhase = true ∧
        fns = phaseFns (s.chamberSettings c) (s.chamber c).phase ∧
        level = phaseLevel (s.chamberSettings c) (s.chamber c).phase := by
      rcases hst with ⟨h, hph, hf, hl⟩ | ⟨h, hph, hf, hl⟩ | ⟨h, hph, hf, hl⟩ <;>
        · rw [h, hph]
          exact ⟨rfl, rfl, hf, hl⟩
    refine ⟨fun hg hquiet he hb hpress => ?_, fun hg hv => r.chamberSuspends hc hx hp hphase hg hv⟩
    rw [hstate, hfns, hlevel]
    exact r.chamberRuns hc hx hp hstate hphase hg he hb hpress (State.quietRaised_iff.2 hquiet)
  · intro hservice hlost w hw
    rw [State.judgeService_of_lost hservice hlost, hw]
    exact ⟨State.serviceLeft_of_held (s := s.setMgmt { s.mgmt with service := false }),
      fun hfree => if_neg (ne_true_of_eq_false (by exact hfree))⟩
  · intro a hs ha hw hv
    exact ⟨fun hp => State.armServiceEnd_pauses hs.2 ha hp hw hv, fun hp => State.armServiceEnd_leavesManual hs.2 ha hp hw hv⟩
  · intro c hs hc hw hv
    exact State.chamberServiceEnd_eq hs.2 hc hw hv

end Sys2Proof.Machine
end

section
/-! The statements on the reset state (R78, R79, R86, R104). -/

namespace Sys2Proof.Machine

/-- The part as delivered, its volatile state begun afresh, differs from itself in nothing. -/
theorem State.started_delivered : State.delivered.started = State.delivered := rfl

theorem Calibration.powered_delivered : Calibration.delivered.powered false = .delivered := rfl

/-- The first frames and pages of the part as delivered are the reset state's. -/
theorem State.startUp_delivered : State.delivered.startUp = State.reset := by
  rw [State.startUp_eq, State.started_delivered]
  rfl

/-- Settles O2: the start leaves the delivered contents, and places the first frames and pages (`State.startUp_eq`). -/
theorem powerOnAsDeliveredIsReset : Obligations.PowerOnAsDeliveredIsReset := by
  unfold Obligations.PowerOnAsDeliveredIsReset
  rw [exec_powerOn, State.poweredOn, show State.delivered.cal = .delivered from rfl, Calibration.powered_delivered]
  exact congrArg Host.Outcome.next State.startUp_delivered

/-- Settles O7: the Bin Table is empty, and every group is STOPPED and still while no arm or chamber moves. -/
theorem invariantsHoldAtReset : Obligations.InvariantsHoldAtReset := by
  unfold Obligations.InvariantsHoldAtReset
  refine ⟨List.Pairwise.nil, State.follows_iff.2 fun c => ?_⟩
  cases c <;> exact ⟨rfl, fun _ => ⟨rfl, rfl, rfl⟩⟩

end Sys2Proof.Machine
end

section
/-! The statement on claims, the waiting list and the capacity (R72 to R76). -/

namespace Sys2Proof.Machine

section
variable {s : State} {x : Arbiter} {c : Consumer}

/-! ## The front of the list (R75) -/

/-- The grants `g` with those of a list of claims made in its order. -/
abbrev granting (l : List (Consumer × Nat)) (g : Quad Nat) : Quad Nat := l.foldl (fun g e => g.put e.1 e.2) g

/-- `front` is granted in order, each of it within the capacity, over the grants `g`; `rest` stays. -/
structure Arbiter.Serves (x : Arbiter) (front rest : List (Consumer × Nat)) (y : Arbiter) : Prop where
  list : x.waiting = front ++ rest
  state : y = { x with waiting := rest, grants := granting front x.grants }
  fits : ∀ l e r, front = l ++ e :: r → (granting l x.grants).total + e.2 ≤ x.capacity

/-- The head test serves a front of the list, and what it leaves first does not fit. -/
theorem Arbiter.testHead_spec (x : Arbiter) :
    ∃ front rest y, x.testHead = (y, front.map Prod.fst) ∧ x.Serves front rest y ∧
      ∀ e l, rest = e :: l → x.capacity < y.grants.total + e.2 := by
  obtain ⟨⟨rest, grants, granted⟩, h⟩ : ∃ r, r = grantHeads x.capacity x.waiting x.grants := ⟨_, rfl⟩
  obtain ⟨front, hlist, hnames, hgrants, hfits, hstop⟩ := grantHeads_spec x.capacity x.waiting x.grants
  rw [← h] at hlist hnames hgrants hstop
  have hstate :
      ({ x with waiting := rest, grants } : Arbiter) = { x with waiting := rest, grants := granting front x.grants } :=
    congrArg (fun g => { x with waiting := rest, grants := g }) hgrants
  refine ⟨front, rest, _, ?_, ⟨hlist, hstate, hfits⟩, fun e l => hstop e.1 e.2 l⟩
  unfold Arbiter.testHead
  rw [← h, ← hnames]

/-! ## A claim withdrawn (R73, R74) -/

/-- What `c` has is taken back: its grant and its place in the list. -/
def Arbiter.without (x : Arbiter) (c : Consumer) : Arbiter :=
  { x with grants := x.grants.put c 0, waiting := x.waiting.filter (fun e => decide (e.1 ≠ c)) }

/-- The head is tested when `c` gives a grant back or stands at the head. -/
theorem Arbiter.withdraw_eq (x : Arbiter) (c : Consumer) [Decidable (0 < x.grants.at c ∨ ∃ d l, x.waiting = (c, d) :: l)] :
    x.withdraw c =
      if 0 < x.grants.at c ∨ ∃ d l, x.waiting = (c, d) :: l then (x.without c).testHead else (x.without c, []) := by
  unfold Arbiter.withdraw Arbiter.without
  dsimp only
  refine if_congr ?_ rfl rfl
  cases x.waiting with
  | nil => simp
  | cons e l =>
    obtain ⟨d, n⟩ := e
    simp

theorem Arbiter.withdraw_spec (x : Arbiter) (c : Consumer) :
    ∃ front rest y, x.withdraw c = (y, front.map Prod.fst) ∧ (x.without c).Serves front rest y ∧
      (0 < x.grants.at c ∨ (∃ d l, x.waiting = (c, d) :: l) →
        ∀ e l, rest = e :: l → x.capacity < y.grants.total + e.2) ∧
      (x.grants.at c = 0 → (∀ d l, x.waiting ≠ (c, d) :: l) → front = []) := by
  classical
  rw [Arbiter.withdraw_eq]
  by_cases h : 0 < x.grants.at c ∨ ∃ d l, x.waiting = (c, d) :: l
  · obtain ⟨front, rest, y, htest, hserves, hstop⟩ := (x.without c).testHead_spec
    rw [if_pos h]
    refine ⟨front, rest, y, htest, hserves, fun _ => hstop, fun hg hw => ?_⟩
    rcases h with h | ⟨d, l, h⟩
    · omega
    · exact absurd h (hw d l)
  · rw [if_neg h]
    exact ⟨[], _, x.without c, rfl,
      ⟨rfl, rfl, fun m e r hm => absurd hm.symm (List.append_ne_nil_of_right_ne_nil _ (List.cons_ne_nil _ _))⟩,
      fun ht => absurd ht h, fun _ _ => rfl⟩

/-- The claim itself, once what its consumer had is taken back (R73). -/
theorem Arbiter.claim_eq {y : Arbiter} {l : List Consumer} (h : x.withdraw c = (y, l)) (d : Nat) :
    x.claim c d =
      if d = 0 then (y, l, true)
      else if y.waiting = [] ∧ y.grants.total + d ≤ y.capacity then ({ y with grants := y.grants.put c d }, l, true)
      else ({ y with waiting := y.waiting ++ [(c, d)] }, l, false) := by
  unfold Arbiter.claim
  rw [h]
  simp only [Bool.and_eq_true, List.isEmpty_iff, decide_eq_true_eq]

/-! ## The capacity (R72, R76) -/

theorem State.putCapacity_of_le {n : Nat} (h : n ≤ s.arbiter.capacity) :
    s.putCapacity n = s.setArbiter { s.arbiter with capacity := n } := if_neg (Nat.not_lt.2 h)

theorem State.putCapacity_of_lt {n : Nat} {y : Arbiter} {l : List Consumer} (hs : s.disarmed) (h : s.arbiter.capacity < n)
    (ht : Arbiter.testHead { s.arbiter with capacity := n } = (y, l)) :
    s.putCapacity n = (s.flowChanged y).handing (s.agenda ++ l.map grantEvent) := by
  unfold State.putCapacity
  dsimp only
  rw [if_pos h, ht, ← State.flowChanged_handing, ← State.judgeHighIdle_of_disarmed (by exact hs)]
  rfl

end

/-- Settles O35: a claim withdraws before it is judged (`Arbiter.withdraw_spec`), and every test of the head serves a front of the list
(`Arbiter.testHead_spec`). -/
theorem claimsAreServedInOrder : Obligations.ClaimsAreServedInOrder := by
  unfold Obligations.ClaimsAreServedInOrder
  refine ⟨fun x c => ?_, fun s n hs => ⟨State.putCapacity_of_le, fun h => ?_⟩⟩
  · obtain ⟨front, rest, y, hw, ⟨hlist, rfl, hfits⟩, hstop, hnone⟩ := x.withdraw_spec c
    exact ⟨front, rest, _, hlist, rfl, fun l e r hf g hg => hg ▸ hfits l e r hf, hstop, hnone, Arbiter.claim_eq hw⟩
  · obtain ⟨front, rest, y, ht, ⟨hlist, hy, hfits⟩, hstop⟩ := Arbiter.testHead_spec { s.arbiter with capacity := n }
    refine ⟨front, rest, y, hlist, hy, fun l e r hf g hg => hg ▸ hfits l e r hf, hstop, ?_⟩
    rw [State.putCapacity_of_lt hs.disarmed h ht, List.map_map]
    refine congrArg (fun l => (s.flowChanged y).handing (s.agenda ++ l)) (List.map_congr_left fun e _ => ?_)
    obtain ⟨c, d⟩ := e
    cases c <;> rfl

end Sys2Proof.Machine
end

section
/-! The statement on valve command frames (R81 to R85, R110). -/

namespace Sys2Proof.Machine

section
variable {s : State} {c d : Consumer} {g k : ValveGroup}

/-! ## The tick at one group (R81, R82) -/

theorem ValveGroup.moving_iff : g.moving = true ↔ ∃ l ∈ g.levels, 0 < l := by
  simp [ValveGroup.moving]

theorem ValveGroup.moving_eq_false_iff : g.moving = false ↔ ∀ l ∈ g.levels, l = 0 := by
  simp [ValveGroup.moving]

/-- Group `c` stands as `g` after a tick: with a level above 0 it places its frame. -/
def State.ticked (s : State) (c : Consumer) (g : ValveGroup) : State :=
  if ∃ l ∈ g.levels, 0 < l then s.placed c g else s.setValve c g

theorem State.ticked_eq (s : State) (c : Consumer) (g : ValveGroup) :
    ∃ p n i, s.ticked c g = { s with valves := s.valves.put c { g with alive := n, sinceFrame := i }, ports := p } := by
  unfold State.ticked
  split
  · exact ⟨_, _, _, rfl⟩
  · exact ⟨s.ports, g.alive, g.sinceFrame, rfl⟩

theorem State.tickGroup_eq (h : s.disarmed) (c : Consumer) : s.tickGroup c = s.ticked c (s.valve c).ramped := by
  unfold State.tickGroup State.ticked
  simp only [← ValveGroup.moving_iff]
  rw [State.placeValveFrame_of_disarmed (by exact h), State.setValve_valve, State.placed_setValve]

theorem State.disarmed_ticked : (s.ticked c g).disarmed ↔ s.disarmed := by
  obtain ⟨p, n, i, hv⟩ := s.ticked_eq c g
  rw [hv]
  exact .rfl

theorem State.ticked_valve_ne (h : d ≠ c) : (s.ticked c g).valve d = s.valve d := by
  obtain ⟨p, n, i, hv⟩ := s.ticked_eq c g
  rw [hv]
  exact Quad.at_put_ne _ h _

theorem State.ticked_levels : ((s.ticked c g).valve c).levels = g.levels := by
  obtain ⟨p, n, i, hv⟩ := s.ticked_eq c g
  rw [hv]
  show ((s.valves.put c _).at c).levels = _
  rw [Quad.at_put_same]

theorem State.ticked_withParts {x : Duo Arm} {w : Duo WeighUnit} {b : BinUnit} {l : LiftLog} :
    (s.withParts x w b l).ticked c g = (s.ticked c g).withParts x w b l := by
  unfold State.ticked
  rw [apply_ite (State.withParts · x w b l)]
  rfl

/-! ## The tick at all groups -/

/-- Every group stands as `g` says after a tick, the lowest taken first (assumption 35). -/
def State.allTicked (s : State) (g : Consumer → ValveGroup) : State :=
  [Consumer.armA, .armB, .packer0, .packer1].foldl (fun x c => x.ticked c (g c)) s

theorem State.tickGroups_eq (h : s.disarmed) :
    (((s.tickGroup .armA).tickGroup .armB).tickGroup .packer0).tickGroup .packer1 =
      s.allTicked fun c => (s.valve c).ramped := by
  have hA := (State.disarmed_ticked (c := .armA) (g := (s.valve .armA).ramped)).2 h
  have hB := (State.disarmed_ticked (c := .armB) (g := (s.valve .armB).ramped)).2 hA
  have h0 := (State.disarmed_ticked (c := .packer0) (g := (s.valve .packer0).ramped)).2 hB
  rw [State.tickGroup_eq h, State.tickGroup_eq hA, State.ticked_valve_ne (by decide), State.tickGroup_eq hB,
    State.ticked_valve_ne (by decide), State.ticked_valve_ne (by decide), State.tickGroup_eq h0, State.ticked_valve_ne (by decide),
    State.ticked_valve_ne (by decide), State.ticked_valve_ne (by decide)]
  rfl

theorem State.allTicked_packers (s : State) (g : Consumer → ValveGroup) :
    ((s.allTicked g).valve .packer0).levels = (g .packer0).levels ∧
      ((s.allTicked g).valve .packer1).levels = (g .packer1).levels := by
  refine ⟨?_, State.ticked_levels⟩
  show (((State.ticked _ _ _).ticked _ _).valve _).levels = _
  rw [State.ticked_valve_ne (by decide), State.ticked_levels]

theorem State.allTicked_withParts {x : Duo Arm} {w : Duo WeighUnit} {b : BinUnit} {l : LiftLog} (g : Consumer → ValveGroup) :
    (s.withParts x w b l).allTicked g = (s.allTicked g).withParts x w b l := by
  unfold State.allTicked
  simp only [List.foldl_cons, List.foldl_nil, State.ticked_withParts]

/-- A tick at the groups leaves what they do not read. -/
theorem State.allTicked_eq (s : State) (g : Consumer → ValveGroup) :
    ∃ v p, s.allTicked g = { s with valves := v, ports := p } := by
  obtain ⟨pA, nA, iA, hA⟩ := s.ticked_eq .armA (g .armA)
  obtain ⟨pB, nB, iB, hB⟩ := (s.ticked .armA (g .armA)).ticked_eq .armB (g .armB)
  obtain ⟨p0, n0, i0, h0⟩ := ((s.ticked .armA (g .armA)).ticked .armB (g .armB)).ticked_eq .packer0 (g .packer0)
  obtain ⟨p1, n1, i1, h1⟩ :=
    (((s.ticked .armA (g .armA)).ticked .armB (g .armB)).ticked .packer0 (g .packer0)).ticked_eq .packer1 (g .packer1)
  exact ⟨_, _, h1.trans (by rw [h0, hB, hA])⟩

/-! ## The disturbance test (R110) -/

/-- A Weighing Unit after a tick at which a packer moves or none does. -/
def WeighUnit.besidePacker (u : WeighUnit) (moves : Bool) : WeighUnit :=
  if u.isOpen && moves then { u with window := [], disturbed := true, disturbCount := satInc u.disturbCount } else u

theorem State.disturb_eq (s : State) (a : ArmId) :
    s.disturb a = s.setWeighUnit a ((s.weighUnit a).besidePacker s.packerMoving) := by
  unfold State.disturb WeighUnit.besidePacker
  dsimp only
  split
  · rfl
  · rw [State.setWeighUnit_self]

theorem State.disturb_both (s : State) :
    (s.disturb .armA).disturb .armB =
      s.withParts s.arms
        { fst := (s.weighUnit .armA).besidePacker s.packerMoving, snd := (s.weighUnit .armB).besidePacker s.packerMoving }
        s.bins s.log := by
  rw [State.disturb_eq, State.disturb_eq]
  rfl

/-! ## VALVE_TICK -/

theorem State.tick_eq (h : s.disarmed) {t : State} {m : Bool} (ht : t = { s with valveTimer := .start 20 })
    (hm : m = ((s.valve .packer0).ramped.moving || (s.valve .packer1).ramped.moving)) :
    s.tick =
      (t.withParts s.arms { fst := (s.weighUnit .armA).besidePacker m, snd := (s.weighUnit .armB).besidePacker m }
        s.bins s.log).allTicked fun c => (s.valve c).ramped := by
  subst ht
  obtain ⟨t, ht⟩ : ∃ t, t = ({ s with valveTimer := .start 20 } : State).allTicked fun c => (s.valve c).ramped := ⟨_, rfl⟩
  obtain ⟨v, p, hparts⟩ := State.allTicked_eq { s with valveTimer := .start 20 } fun c => (s.valve c).ramped
  obtain ⟨h0, h1⟩ := State.allTicked_packers { s with valveTimer := .start 20 } fun c => (s.valve c).ramped
  rw [← ht] at hparts h0 h1
  have hmoving : t.packerMoving = m := by
    rw [hm]
    unfold State.packerMoving ValveGroup.moving
    rw [h0, h1]
  have htick : s.tick = (t.disturb .armA).disturb .armB := by
    rw [ht]
    exact congrArg (fun x => (State.disturb x .armA).disturb .armB)
      (State.tickGroups_eq (s := { s with valveTimer := .start 20 }) h)
  rw [htick, State.disturb_both, hmoving, State.allTicked_withParts, ← ht, hparts]
  rfl

/-! ## STILL_FRAME_INTERVAL -/

theorem State.stillFrame_places (h : s.disarmed) (hm : ∀ l ∈ (s.valve c).levels, l = 0) (ht : 100 ≤ (s.valve c).sinceFrame) :
    s.stillFrame c = s.placed c (s.valve c) := by
  unfold State.stillFrame
  rw [ValveGroup.moving_eq_false_iff.2 hm, if_neg Bool.false_ne_true]
  exact (if_neg (Nat.not_lt.2 ht)).trans (State.placeValveFrame_of_disarmed h c)

theorem State.stillFrame_waits (h : (∃ l ∈ (s.valve c).levels, 0 < l) ∨ (s.valve c).sinceFrame < 100) : s.stillFrame c = s := by
  unfold State.stillFrame
  rw [← ValveGroup.moving_iff] at h
  split
  · rfl
  · next hm => exact if_pos (h.resolve_left hm)

/-- The frame of a group with every level 0 (R83). -/
theorem State.commandFrame_of_zero (h : ∀ l ∈ g.levels, l = 0) (hl : g.levels.length = 6) :
    s.commandFrame c g =
      { id := s.cfg.vcmdBase + BitVec.ofNat 29 c.number,
        data := [0, 0, 0, 0, 0, 0, BitVec.ofNat 8 g.alive,
          BitVec.ofNat 8 (max 39 (min 255 ((2 * 48000 + s.cfg.dither.at c) / (2 * s.cfg.dither.at c) - 1)))] } := by
  unfold State.commandFrame
  rw [show g.levels = List.replicate 6 0 from List.eq_replicate_iff.2 ⟨hl, h⟩]
  rfl

end

/-- Settles O37: a tick is one placing after another over groups already ramped (`State.tick_eq`), and a still group's frame carries
zeros. -/
theorem valveFramesArePlaced : Obligations.ValveFramesArePlaced := by
  unfold Obligations.ValveFramesArePlaced
  refine ⟨fun s g w hs hg hw => ?_, fun s c => ⟨fun hs hm hl ht => ?_, fun hs h => ?_⟩⟩
  · obtain rfl : g = fun c => (s.valve c).ramped := by
      funext c
      rw [hg c]
      unfold ValveGroup.ramped
      dsimp only
      split <;> rfl
    have hunit (a : ArmId) :
        (s.weighUnit a).besidePacker ((s.valve .packer0).ramped.moving || (s.valve .packer1).ramped.moving) = w a := by
      rw [hw a]
      unfold WeighUnit.besidePacker
      simp only [Bool.and_eq_true, Bool.or_eq_true, ValveGroup.moving_iff]
      rfl
    rw [exec_valveTick]
    obtain ⟨t, ht, hpages⟩ := run_afterPages (c := .valveTick) rfl (State.tick_eq hs.disarmed rfl rfl) (by
      obtain ⟨v, p, hparts⟩ := State.allTicked_eq (State.withParts { s with valveTimer := .start 20 } s.arms _ s.bins s.log)
        fun c => (s.valve c).ramped
      rw [hparts]
      exact hs)
    rw [hunit, hunit] at hpages
    exact ⟨t, _, ht, rfl, hpages⟩
  · rw [exec_stillFrameInterval]
    have hplaced := State.stillFrame_places hs.disarmed hm ht
    unfold State.placed at hplaced
    rw [State.commandFrame_of_zero hm hl] at hplaced
    exact run_afterPages rfl hplaced hs
  · rw [exec_stillFrameInterval]
    exact run_settled rfl (State.stillFrame_waits h) hs

end Sys2Proof.Machine
end

section
/-! SUPPORT. The acts of a Compaction Controller in the terms of Safety.lean: a state at rest, a phase resumed, flow claimed
for a stroke (R79, R124 to R129). -/

namespace Sys2Proof.Machine

section
variable {s w : State} {c : ChamberId} {x y : Chamber} {st : ChamberState} {e : Ev}

/-! ## States and phases -/

theorem ChamberState.isPhase_iff : st.isPhase = true ↔ st = .sweep ∨ st = .pack ∨ st = .ret := by
  rw [ChamberState.isPhase_eq, decide_eq_true_iff]

/-- The state of a stroke in its phase. -/
theorem StrokePhase.state_of {p : StrokePhase} (h : p = .sweep ∧ st = .sweep ∨ p = .pack ∧ st = .pack ∨ p = .ret ∧ st = .ret) :
    st = p.toState ∧ st.isPhase = true := by
  rcases h with ⟨rfl, rfl⟩ | ⟨rfl, rfl⟩ | ⟨rfl, rfl⟩ <;> exact ⟨rfl, rfl⟩

/-- A controller that leaves its phases stops its group (R79). -/
theorem State.setChamberState_rests (h : s.disarmed) (hd : st.isPhase = false) :
    s.setChamberState c st = (s.setChamber c { s.chamber c with state := st }).stopped c.consumer := by
  unfold State.setChamberState
  dsimp only
  rw [hd, if_neg Bool.false_ne_true, State.stopGroup_of_disarmed (by exact h)]

/-- What drives the group of a controller in a phase depends on that phase alone. -/
theorem State.stroking_eq (hy : y.state = y.phase.toState) (hp : y.state.isPhase = true) :
    s.stroking c y = (s.setChamber c y).drivenIn c y.phase := by
  unfold State.stroking
  dsimp only
  rw [hy] at hp ⊢
  generalize y.phase = p at hp
  cases p with
  | none => cases hp
  | sweep => rfl
  | pack => rfl
  | ret => rfl

theorem State.stroking_parts (s : State) (c : ChamberId) (y : Chamber) :
    ∃ v p, s.stroking c y = { s.setChamber c y with valves := v, ports := p } := by
  unfold State.stroking
  dsimp only
  split <;> exact State.driven_eq _ _ _ _ _

theorem State.calm_stroking : (s.stroking c y).calm ↔ s.calm := by
  obtain ⟨v, p, hv⟩ := s.stroking_parts c y
  rw [hv]
  exact .rfl

/-- A phase entered before runs on with what its timer has left, and is tested in its turn (R125). -/
theorem State.enterPhase_resumes (h : s.calm) (hx : x = s.chamber c) (he : x.entered = true)
    (hst : st = x.phase.toState ∧ st.isPhase = true) :
    s.enterPhase c =
      (s.stroking c { x with state := st, phaseTimer := { x.phaseTimer with running := true }, quietTimer := .stopped }).handing
        [.phaseTest c] := by
  obtain ⟨rfl, hp⟩ := hst
  subst hx
  rw [State.enterPhase_again h he hp, State.stroking_eq rfl hp]
  rfl

/-! ## Flow for a stroke (R73, R124) -/

/-- A stroke that resumes with its flow granted at once enters its phase. -/
theorem State.claimStroke_resumes (h : s.calm) (hx : x = s.chamber c) (he : x.entered = true)
    (hst : st = x.phase.toState ∧ st.isPhase = true) (hf : s.fits c.consumer (s.chamberSettings c).strokeDemand) :
    s.claimStroke c =
      ((s.granted c.consumer (s.chamberSettings c).strokeDemand).stroking c
        { x with
          state := st, phaseTimer := { x.phaseTimer with running := true }, quietTimer := .stopped, grantFlag := true }).handing
        [.phaseTest c] := by
  obtain ⟨t, ht⟩ : ∃ t, t = s.granted c.consumer (s.chamberSettings c).strokeDemand := ⟨_, rfl⟩
  have hchamber : t.chamber c = x := by
    obtain ⟨v, p, hv, -⟩ := s.granted_eq c.consumer (s.chamberSettings c).strokeDemand
    rw [ht, hv, hx]
    rfl
  have hcalm : t.calm := by rw [ht]; exact (State.calm_granted _ _).2 h
  unfold State.claimStroke
  rw [State.claim_at_once h.disarmed hf, ← ht]
  dsimp only
  rw [hchamber, State.enterPhase_resumes (s := t.setChamber c { x with grantFlag := true }) hcalm
    (State.setChamber_chamber _ _ _).symm he hst]
  unfold State.stroking
  dsimp only
  simp only [State.setChamber_setChamber]
  rfl

/-- A stroke without its place or grant: the group stopped, the claim of 0 made (R74). -/
theorem State.setChamberState_claimNone (h : s.disarmed) (hd : st.isPhase = false) (hw : s.noneWaitsBut c.consumer) :
    (s.setChamberState c st).claimNone c.consumer =
      ((s.setChamber c { s.chamber c with state := st }).stopped c.consumer).granted c.consumer 0 := by
  rw [State.setChamberState_rests h hd]
  exact State.claimNone_of_disarmed (State.disarmed_stopped.2 h)
    (State.noneWaitsBut_stopped (s := s.setChamber c { s.chamber c with state := st }) hw)

/-! ## Tests that find nothing to do -/

/-- Neither the end of a phase nor a quiet request is found for a stroke quieted once whose roles are unavailable (R126, R128). -/
theorem State.phaseEntered_of_quieted (hb : s.roleValue c.bladeRole = none) (hp : s.roleValue c.pressRole = none)
    (hq : (s.chamber c).quieted = true) : s.phaseEntered c = s := by
  unfold State.phaseEntered
  rw [State.testPhase_of_unread hb hp]
  exact if_neg fun ⟨_, hn, _⟩ => hn hq

theorem State.strokeTest_of_noPermit (h : s.given c.packPermit = false) : s.strokeTest c = s :=
  if_neg fun ⟨_, _, hg, _⟩ => Bool.false_ne_true (h.symm.trans hg)

theorem State.strokeTest_of_noRequest (h : (s.chamber c).state = .idle → (s.chamber c).pending = false) : s.strokeTest c = s :=
  if_neg fun ⟨hi, hp, _⟩ => Bool.false_ne_true ((h hi).symm.trans hp)

/-- A hand-over that finds nothing to do ends the command with status pages alone. -/
theorem State.finish_handing_unheard (h : w.calm) (hidle : ∀ v, w.AfterPages v → handle e v = v) :
    w.AfterPages (w.handing [e]).finish := by
  obtain ⟨n, hb⟩ := cascadeBudget_eq
  obtain ⟨v, hv, hnote⟩ := State.notePages_handing h.unwatched h.1 [e]
  have hva := hv.agenda_eq.trans h.1
  have hhead : (v.handing [e]).takeHead e [] = v.notePages := by
    unfold State.takeHead
    rw [show ({ v.handing [e] with agenda := [] } : State) = v from State.handing_self hva, State.postAll_nil, hidle v hv]
  have hpages := State.notePages_afterPages (hv.calm h)
  unfold State.finish
  rw [hnote, hb, drain_cons (s := v.handing [e]) rfl, hhead, drain_of_empty (hpages.agenda_eq.trans hva)]
  exact hv.trans hpages

end

end Sys2Proof.Machine
end

section
/-! The statement on what stops a stroke and starts it again, and on tips (R123, R128, R129). -/

namespace Sys2Proof.Machine

section
variable {s : State} {c : ChamberId} {x : Chamber} {st : ChamberState}

/-! ## A quiet request (R128) -/

theorem State.quietEvent_raised (hq : s.quietRaised = true) : s.quietEvent c = s.quietTest c := if_pos hq

theorem State.quietTest_stops (h : s.disarmed) (hx : x = s.chamber c) (hp : x.state.isPhase = true) (hn : x.quieted = false)
    (hq : s.quietRaised = true) :
    s.quietTest c =
      (s.setChamber c { x with
        state := .quiet, quieted := true, phaseTimer := { x.phaseTimer with running := false },
        quietTimer := .start (s.chamberSettings c).quietLimit }).stopped c.consumer := by
  subst hx
  have hact : s.quietTest c = s.enterQuiet c := if_pos ⟨hp, by rw [hn]; exact Bool.false_ne_true, hq⟩
  rw [hact]
  unfold State.enterQuiet
  dsimp only
  rw [State.setChamberState_rests (by exact h) rfl, State.setChamber_chamber, State.setChamber_setChamber]
  rfl

theorem State.quietTest_stays (h : (s.chamber c).state.isPhase = false ∨ (s.chamber c).quieted = true) : s.quietTest c = s :=
  if_neg fun ⟨hp, hn, _⟩ => h.elim (fun h => Bool.false_ne_true (h.symm.trans hp)) hn

theorem State.quietEvent_resumes (hq : s.quietRaised = false) (hs : (s.chamber c).state = .quiet) :
    s.quietEvent c = s.enterPhase c := by
  unfold State.quietEvent
  rw [hq, if_neg Bool.false_ne_true, hs]

/-! ## The permit (R129) -/

theorem State.packPermitChange_suspends (h : s.disarmed) (hx : x = s.chamber c) (hg : s.given c.packPermit = false)
    (hs : x.state.isPhase = true ∨ x.state = .quiet) :
    s.packPermitChange c =
      (s.setChamber c { x with
        state := .suspended, phaseTimer := { x.phaseTimer with running := false }, quietTimer := .stopped }).stopped c.consumer := by
  subst hx
  have hact : s.packPermitChange c = s.suspendStroke c := by
    unfold State.packPermitChange
    dsimp only
    rw [hg, if_neg Bool.false_ne_true]
    rw [ChamberState.isPhase_iff] at hs
    rcases hs with (hs | hs | hs) | hs <;> rw [hs]
  rw [hact]
  unfold State.suspendStroke
  dsimp only
  rw [State.setChamberState_rests (by exact h) rfl, State.setChamber_chamber, State.setChamber_setChamber]
  rfl

theorem State.packPermitChange_leaves (h : s.disarmed) (hx : x = s.chamber c) (hg : s.given c.packPermit = false)
    (hs : x.state = .waitSupply) (hw : s.noneWaitsBut c.consumer) :
    s.packPermitChange c =
      ((s.setChamber c { x with state := .suspended, grantFlag := false }).stopped c.consumer).granted c.consumer 0 := by
  subst hx
  have hact : s.packPermitChange c = s.suspendWaiting c := by
    unfold State.packPermitChange
    dsimp only
    rw [hg, if_neg Bool.false_ne_true, hs]
  rw [hact]
  unfold State.suspendWaiting
  dsimp only
  rw [State.setChamberState_claimNone (by exact h) rfl (by exact hw), State.setChamber_chamber, State.setChamber_setChamber]

theorem State.packPermitChange_lost_stays (hg : s.given c.packPermit = false)
    (hs : (s.chamber c).state = .idle ∨ (s.chamber c).state = .suspended ∨ (s.chamber c).state = .held ∨
      (s.chamber c).state = .faulted) : s.packPermitChange c = s := by
  unfold State.packPermitChange
  dsimp only
  rw [hg, if_neg Bool.false_ne_true]
  rcases hs with hs | hs | hs | hs <;> rw [hs]

theorem State.packPermitChange_given_stays (hg : s.given c.packPermit = true)
    (hi : (s.chamber c).state = .idle → (s.chamber c).pending = false)
    (hs : (s.chamber c).state = .suspended → (s.chamber c).operatorFlag = true) : s.packPermitChange c = s := by
  unfold State.packPermitChange
  dsimp only
  rw [if_pos hg]
  split
  · exact State.strokeTest_of_noRequest hi
  · next hsus => exact if_pos (hs hsus)
  all_goals rfl

/-- A SUSPENDED stroke that does not wait for the operator resumes with the permit. -/
theorem State.packPermitChange_resumes (hg : s.given c.packPermit = true) (hs : (s.chamber c).state = .suspended)
    (ho : (s.chamber c).operatorFlag = false) :
    s.packPermitChange c = if (s.chamber c).grantFlag = true then s.enterPhase c else s.claimStroke c := by
  have hact : s.packPermitChange c = s.resumeStroke c := by
    unfold State.packPermitChange
    dsimp only
    rw [if_pos hg, hs]
    exact if_neg (ne_true_of_eq_false ho)
  have hsame : s.setChamber c { s.chamber c with operatorFlag := false } = s := by
    rw [← ho, State.setChamber_self]
  rw [hact]
  unfold State.resumeStroke
  rw [hsame]

/-! ## Tips (R123) -/

/-- A tip is counted, then the auto-pack threshold is tested. -/
theorem State.takeTip_eq (hx : x = s.chamber c) :
    s.takeTip c =
      (s.setChamber c { x with
        tipCounter := min (x.tipCounter + 1) 65535,
        tipsSinceDischarge := min (x.tipsSinceDischarge + 1) 65535 }).autoPackTest c := by
  subst hx; rfl

theorem State.autoPackTest_below (h : (s.chamber c).tipCounter < (s.chamberSettings c).autoPack) : s.autoPackTest c = s :=
  if_neg (Nat.not_le.2 h)

theorem State.autoPackTest_reached (ha : s.agenda = []) (h : (s.chamberSettings c).autoPack ≤ (s.chamber c).tipCounter) :
    s.autoPackTest c = (s.setChamber c { s.chamber c with pending := true }).handing [.strokeTest c] :=
  (if_pos h).trans (State.postNext_of_nil (by exact ha) _)

end

/-- Settles O46: each act on a stroke is a state at rest (`State.setChamberState_rests`) or its phase resumed
(`State.enterPhase_resumes`). -/
theorem strokesGiveWay : Obligations.StrokesGiveWay := by
  unfold Obligations.StrokesGiveWay
  intro s c x k phases hs hx hk hphases
  rw [← ChamberState.isPhase_iff] at hphases
  refine ⟨?_, fun st hst he y hy => ⟨fun hq hquiet => ?_, fun hg hsus ho => ⟨fun hf => ?_, fun hf hfits => ?_⟩⟩,
    fun hq hn hi => ?_, fun hg => ⟨fun h => ?_, fun h hw => ?_, fun h => ?_⟩, fun hg hi hsus => ?_,
    fun y hy => ⟨fun h => ?_, fun h => ?_⟩⟩
  · rintro y rfl ⟨a, ha⟩
    have hq : s.quietRaised = true := Bool.ne_false_iff.1 fun hq =>
      Bool.false_ne_true ((State.quietRaised_iff.1 hq a).symm.trans ha)
    rw [State.quietEvent_raised hq, hk]
    refine ⟨fun hp hn => State.quietTest_stops hs.disarmed hx (hphases.1 hp) hn hq, fun h => State.quietTest_stays ?_⟩
    rw [← hx]
    exact h.imp_left fun hp => Bool.eq_false_iff.2 (hp ∘ hphases.2)
  · rw [State.quietEvent_resumes (State.quietRaised_iff.2 hq) (hx ▸ hquiet),
      State.enterPhase_resumes hs hx he (StrokePhase.state_of hst), hy]
    rfl
  · rw [State.packPermitChange_resumes hg (hx ▸ hsus) (hx ▸ ho), if_pos (hx ▸ hf),
      State.enterPhase_resumes hs hx he (StrokePhase.state_of hst), hy]
    rfl
  · rw [State.packPermitChange_resumes hg (hx ▸ hsus) (hx ▸ ho), if_neg (ne_true_of_eq_false (hx ▸ hf)),
      State.claimStroke_resumes hs hx he (StrokePhase.state_of hst) (hk ▸ hfits), hy, hk]
    rfl
  · exact State.quietEvent_of_dropped (State.quietRaised_iff.2 hq) ⟨hx ▸ hn, hx ▸ hi⟩
  · exact State.packPermitChange_suspends hs.disarmed hx hg (h.imp_left hphases.1)
  · exact State.packPermitChange_leaves hs.disarmed hx hg h hw
  · exact State.packPermitChange_lost_stays hg (hx ▸ h)
  · exact State.packPermitChange_given_stays hg (hx ▸ hi) (hx ▸ hsus)
  · rw [State.takeTip_eq hx, ← hy]
    exact State.autoPackTest_below (by rw [State.setChamber_chamber]; exact hk ▸ h)
  · rw [State.takeTip_eq hx, ← hy,
      State.autoPackTest_reached (by exact hs.1) (by rw [State.setChamber_chamber]; exact hk ▸ h),
      State.setChamber_chamber, State.setChamber_setChamber]
    rfl

end Sys2Proof.Machine
end

section
/-! The statement on the timers of a stroke and on FAULT_CLEAR for a chamber (R122, R125, R127, R128). -/

namespace Sys2Proof.Machine

section
variable {s : State} {c : ChamberId} {x : Chamber} {st : ChamberState}

/-! ## The timers (R127, R128) -/

theorem State.phaseExpired_faults (h : s.disarmed) (hx : x = s.chamber c) (hp : x.state.isPhase = true)
    (ht : x.phaseTimer.running = true) (hw : s.noneWaitsBut c.consumer) :
    s.phaseExpired c =
      ((s.setChamber c
        { x with
          state := .faulted, phase := .none, phaseTimer := .stopped, quietTimer := .stopped, quieted := false,
          grantFlag := false, operatorFlag := false, pending := false, grantedHeld := false, entered := false,
          fault := .strokeTimeout, strokeFaults := min (x.strokeFaults + 1) 65535 }).stopped c.consumer).granted c.consumer 0 := by
  subst hx
  unfold State.phaseExpired
  dsimp only
  rw [if_pos ⟨hp, ht⟩, State.setChamberState_claimNone (by exact h) rfl (by exact hw), State.setChamber_chamber,
    State.setChamber_setChamber]
  rfl

theorem State.phaseExpired_stays (h : (s.chamber c).state.isPhase = false ∨ (s.chamber c).phaseTimer.running = false) :
    s.phaseExpired c = s :=
  if_neg fun ⟨hp, ht⟩ => h.elim (fun h => Bool.false_ne_true (h.symm.trans hp)) fun h => Bool.false_ne_true (h.symm.trans ht)

theorem State.quietExpired_resumes (hs : (s.chamber c).state = .quiet) (ht : (s.chamber c).quietTimer.running = true) :
    s.quietExpired c = s.enterPhase c := if_pos ⟨hs, ht⟩

theorem State.quietExpired_stays (h : (s.chamber c).state ≠ .quiet ∨ (s.chamber c).quietTimer.running = false) :
    s.quietExpired c = s :=
  if_neg fun ⟨hs, ht⟩ => h.elim (· hs) fun h => Bool.false_ne_true (h.symm.trans ht)

/-- The test of a phase resumed without its roles after a quiet request, and after pages, finds nothing to do. -/
theorem State.phaseTest_stroking {v : State} (hb : s.roleValue c.bladeRole = none) (hr : s.roleValue c.pressRole = none)
    (hq : x.quieted = true) (h : (s.stroking c x).AfterPages v) : handle (.phaseTest c) v = v := by
  obtain ⟨p, m, rfl, -⟩ := h.shape
  obtain ⟨g, r, hparts⟩ := s.stroking_parts c x
  rw [hparts]
  refine State.phaseEntered_of_quieted hb hr ?_
  show ((s.setChamber c x).chamber c).quieted = true
  rw [State.setChamber_chamber]
  exact hq

/-! ## Chamber commands (R122, R127) -/

theorem State.settled.badChamberCommand (h : s.settled) : s.badChamberCommand.settled := h.congr rfl rfl rfl rfl

/-- A chamber command that names no chamber is counted, and nothing else. -/
theorem chamberCommand_unnamed {i : Instr} {args : List Byte} {f : State → ChamberId → State}
    (hi : exec i s = run i (fun s => s.unlessHeld (fun s => s.toChamber args f)) s) (hc : i.wellFormed = true)
    (hw : s.watch.isHeld = false) (hs : s.settled) (hn : chamberNamed args = none) :
    exec i s = .next { s with chbCmdBad := min (s.chbCmdBad + 1) 65535 } :=
  operator_settled (effect := fun s => s.toChamber args f) hi hc hw (by unfold State.toChamber; rw [hn]; rfl) hs.badChamberCommand

/-- Each of the three chamber commands finds no chamber in the same bytes. -/
theorem chamberCommands_unnamed {args : List Byte} (hl : args.length ≤ 7) (hw : s.watch.isHeld = false) (hs : s.settled)
    (hn : chamberNamed args = none) {i : Instr} (hi : i ∈ [Instr.packNow args, .discharged args, .chamberFaultClear args]) :
    exec i s = .next { s with chbCmdBad := min (s.chbCmdBad + 1) 65535 } := by
  have hwf : argsWellFormed args = true := decide_eq_true hl
  simp only [List.mem_cons, List.not_mem_nil, or_false] at hi
  rcases hi with rfl | rfl | rfl
  · exact chamberCommand_unnamed (exec_packNow args s) hwf hw hs hn
  · exact chamberCommand_unnamed (exec_discharged args s) hwf hw hs hn
  · exact chamberCommand_unnamed (exec_chamberFaultClear args s) hwf hw hs hn

theorem chamberNamed_of_number {b : Byte} (h : b.toNat = c.number) (l : List Byte) : chamberNamed (b :: l) = some c := by
  unfold chamberNamed
  dsimp only
  rw [h]
  cases c <;> rfl

theorem chamberNamed_of_large {b : Byte} (h : 2 ≤ b.toNat) (l : List Byte) : chamberNamed (b :: l) = none := by
  unfold chamberNamed
  dsimp only
  split
  · omega
  · omega
  · rfl

theorem State.toChamber_of_number {b : Byte} (h : b.toNat = c.number) (l : List Byte) (f : State → ChamberId → State) :
    s.toChamber (b :: l) f = f s c := by
  unfold State.toChamber
  rw [chamberNamed_of_number h]

theorem chamberFaultClear_wellFormed {b : Byte} {l : List Byte} (h : l.length ≤ 6) :
    (Instr.chamberFaultClear (b :: l)).wellFormed = true := decide_eq_true (Nat.succ_le_succ h)

/-- A chamber out of FAULTED is IDLE, its pending request judged again. -/
theorem State.chamberFaultClear_faulted (h : s.calm) (hx : x = s.chamber c) (hs : x.state = .faulted)
    (hv : (s.valve c.consumer).driving = false) :
    s.chamberFaultClear c =
      (s.setChamber c { x with
        state := .idle, fault := .none,
        pending := x.pending || decide ((s.chamberSettings c).autoPack ≤ x.tipCounter) }).handing [.strokeTest c] := by
  subst hx
  unfold State.chamberFaultClear
  dsimp only
  rw [if_pos hs, State.setChamberState_rests (by exact h.2) rfl, State.stopped_of_still (by exact hv),
    State.postNext_of_nil (by exact h.1)]
  simp only [State.setChamber_chamber, State.setChamber_setChamber]
  rfl

theorem State.chamberFaultClear_ignored (hs : (s.chamber c).state ≠ .faulted) :
    s.chamberFaultClear c = s.ignoreChamberCommand c := if_neg hs

theorem State.allPages_setChamber (h : x.pageBytes = (s.chamber c).pageBytes) : (s.setChamber c x).allPages = s.allPages := by
  have h1 : (s.setChamber c x).pageBytes 1 = s.pageBytes 1 := by
    cases c
    · exact congrArg (· ++ s.chambers.snd.pageBytes) h
    · exact congrArg (s.chambers.fst.pageBytes ++ ·) h
  show [_, _, _, _] = [_, _, _, _]
  rw [h1]
  rfl

theorem State.settled.setChamber (h : s.settled) (hx : x.pageBytes = (s.chamber c).pageBytes) : (s.setChamber c x).settled :=
  h.congr rfl rfl rfl (State.allPages_setChamber hx)

end

/-- Settles O44: a phase that runs out faults its chamber, one that resumes is tested for nothing (`State.phaseTest_stroking`), and a
FAULT_CLEAR without the permit starts no stroke. -/
theorem strokeTimersExpire : Obligations.StrokeTimersExpire := by
  unfold Obligations.StrokeTimersExpire
  intro s c x hx
  refine ⟨fun hs hp ht hw => ?_, fun hs h => ?_, fun st hst hs hq ht hquieted he hb hr => ?_, fun hs h => ?_, fun hs hw i hi => ?_,
    fun b l hw hl => ⟨fun hs hb hf hv hg => ?_, fun hs hb hf => ?_, fun hs hb i hi => ?_⟩⟩
  · rw [exec_phaseTimerExpiry]
    refine run_afterPages rfl (State.phaseExpired_faults hs.disarmed hx (ChamberState.isPhase_iff.2 hp) ht hw) ?_
    exact (State.calm_granted _ _).2 ((State.calm_stopped _).2 hs)
  · rw [exec_phaseTimerExpiry]
    refine run_settled rfl (State.phaseExpired_stays ?_) hs
    rw [← hx]
    exact h.imp_left fun ⟨h1, h2, h3⟩ => Bool.eq_false_iff.2 fun hp => (ChamberState.isPhase_iff.1 hp).elim h1 (Or.elim · h2 h3)
  · rw [exec_quietTimerExpiry]
    refine ⟨_, run_wellFormed rfl _ s, ?_⟩
    rw [State.quietExpired_resumes (hx ▸ hq) (hx ▸ ht), State.enterPhase_resumes hs hx he (StrokePhase.state_of hst)]
    exact State.finish_handing_unheard (State.calm_stroking.2 hs) fun v hv => State.phaseTest_stroking hb hr (by exact hquieted) hv
  · rw [exec_quietTimerExpiry]
    exact run_settled rfl (State.quietExpired_stays (hx ▸ h)) hs
  · exact chamberCommands_unnamed (Nat.zero_le _) hw hs rfl hi
  · rw [exec_chamberFaultClear]
    refine ⟨_, run_wellFormed (chamberFaultClear_wellFormed hl) _ s, ?_⟩
    rw [State.unlessHeld_of_free hw, State.toChamber_of_number hb, State.chamberFaultClear_faulted hs hx hf hv]
    refine State.finish_handing_unheard (by exact hs) fun v hv => ?_
    obtain ⟨p, m, rfl, -⟩ := hv.shape
    exact State.strokeTest_of_noPermit hg
  · subst hx
    exact operator_settled (exec_chamberFaultClear (b :: l) s) (chamberFaultClear_wellFormed hl) hw
      ((State.toChamber_of_number hb l _).trans (State.chamberFaultClear_ignored hf)) (hs.setChamber rfl)
  · exact chamberCommands_unnamed (args := b :: l) (Nat.succ_le_succ hl) hw hs (chamberNamed_of_large hb l) hi

end Sys2Proof.Machine
end

section
/-! The statement on the Bin Table's order of tags (R86), with what it needs: all but a few operations keep the words of every bin
entry (`State.fixed`), an INSERT or REMOVE completing keeps the order, and a CLEAR leaves no entry. -/

namespace Sys2Proof.Machine

/-! ## Management: what an answer leaves fixed -/

section
variable (s : State)

@[simp] theorem State.offerReply_fixed (b : Bool) (f : Frame) : (s.offerReply b f).fixed = s.fixed := State.offerOwn_fixed s _ f

@[simp] theorem State.reply_fixed (op : MgmtOp) (n : Nat) (q : Request) (i : BitVec 16) (w : Word) :
    (s.reply op n q i w).fixed = s.fixed := State.offerReply_fixed s _ _

@[simp] theorem State.requestEnds_fixed : s.requestEnds.fixed = s.fixed := rfl

@[simp] theorem State.answer_fixed (op : MgmtOp) (n : Nat) (q : Request) (w : Word) : (s.answer op n q w).fixed = s.fixed := by
  simp [State.answer]

@[simp] theorem State.refusedValue_fixed (op : MgmtOp) (q : Request) (n : Nat) : (s.refusedValue op q n).1.fixed = s.fixed := by
  unfold State.refusedValue; repeat' split
  all_goals rfl

@[simp] theorem State.answerBusy_fixed (op : MgmtOp) (q : Request) : (s.answerBusy op q).fixed = s.fixed := by
  simp [State.answerBusy]

@[simp] theorem State.refuse_fixed (op : MgmtOp) (q : Request) (n : Nat) : (s.refuse op q n).fixed = s.fixed := by
  simp [State.refuse]

/-! ## Operations that leave it fixed -/

@[simp] theorem State.doIdentify_fixed (q : Request) : (s.doIdentify q).fixed = s.fixed := by
  unfold State.doIdentify; split <;> simp

@[simp] theorem State.doExamine_fixed (q : Request) : (s.doExamine q).fixed = s.fixed := by
  unfold State.doExamine; split <;> simp

@[simp] theorem State.doInsert_fixed (q : Request) : (s.doInsert q).fixed = s.fixed := by
  unfold State.doInsert; dsimp only; repeat' split
  all_goals simp

@[simp] theorem State.doRemove_fixed (q : Request) : (s.doRemove q).fixed = s.fixed := by
  unfold State.doRemove; split <;> simp

@[simp] theorem State.doRelease_fixed (q : Request) : (s.doRelease q).fixed = s.fixed := by
  simp [State.doRelease]

/-- DAY changes counts and last lifts alone (R91). -/
@[simp] theorem State.doDay_fixed (q : Request) : (s.doDay q).fixed = s.fixed := by
  unfold State.doDay
  split
  · simp
  · rw [State.answer_fixed]
    exact State.setBins_fixed (by simp [dayBins])

@[simp] theorem State.doStep_fixed (q : Request) : (s.doStep q).fixed = s.fixed := by
  unfold State.doStep; dsimp only; repeat' split
  all_goals simp

@[simp] theorem State.doWatchContinue_fixed (q : Request) : (s.doWatchContinue q).fixed = s.fixed := by
  unfold State.doWatchContinue State.handHoldEnd; dsimp only; repeat' split
  all_goals simp

@[simp] theorem State.doReset_fixed (q : Request) : (s.doReset q).fixed = s.fixed := State.reply_fixed s _ _ _ _ _

@[simp] theorem State.doPort_fixed (q : Request) : (s.doPort q).fixed = s.fixed := by
  unfold State.doPort; split <;> simp

/-! ## The events of an accepted DEPOSIT -/

@[simp] theorem State.configChanged_fixed (i w : Nat) (old : State) : (s.configChanged i w old).fixed = s.fixed := by
  unfold State.configChanged; dsimp only; repeat' split
  all_goals simp

@[simp] theorem State.putSignal_fixed (i : Nat) (old new : SignalEntry) : (s.putSignal i old new).fixed = s.fixed := by
  unfold State.putSignal; dsimp only; split <;> simp

@[simp] theorem State.putTerm_fixed (i : Nat) (old new : TermEntry) : (s.putTerm i old new).fixed = s.fixed := by
  unfold State.putTerm; dsimp only; split <;> simp

@[simp] theorem State.putGroup_fixed (i : Nat) (old new : GroupEntry) : (s.putGroup i old new).fixed = s.fixed := by
  unfold State.putGroup; dsimp only; split <;> simp

/-! ## Timers and port states -/

@[simp] theorem State.secondPassed_fixed : s.secondPassed.fixed = s.fixed := by
  unfold State.secondPassed; split <;> simp

@[simp] theorem State.repeatHighIdle_fixed : s.repeatHighIdle.fixed = s.fixed := by
  unfold State.repeatHighIdle; dsimp only; repeat' split
  all_goals simp

@[simp] theorem State.endRunDown_fixed : s.endRunDown.fixed = s.fixed := by
  unfold State.endRunDown; dsimp only; repeat' split
  all_goals simp

@[simp] theorem State.tick_fixed : s.tick.fixed = s.fixed := by
  unfold State.tick
  simp only [State.disturb_fixed, State.tickGroup_fixed]
  rfl

@[simp] theorem State.periodExpired_fixed (p : Nat) : (s.periodExpired p).fixed = s.fixed := by
  unfold State.periodExpired; repeat' split
  all_goals simp

@[simp] theorem State.spacingExpired_fixed (p : Nat) : (s.spacingExpired p).fixed = s.fixed := by
  unfold State.spacingExpired; dsimp only; repeat' split
  all_goals simp

@[simp] theorem State.goBusOff_fixed (p : PortId) : (s.goBusOff p).fixed = s.fixed := by
  unfold State.goBusOff; dsimp only; repeat' split
  all_goals simp

@[simp] theorem State.recover_fixed (p : PortId) : (s.recover p).fixed = s.fixed := by
  unfold State.recover; split <;> simp

theorem State.unlessHeld_fixed {f : State → State} (h : (f s).fixed = s.fixed) : (s.unlessHeld f).fixed = s.fixed := by
  unfold State.unlessHeld; split
  · rfl
  · exact h

/-! ## Frames that are not requests -/

@[simp] theorem State.holdAfter_fixed (i : Nat) : (s.holdAfter i).fixed = s.fixed := by
  unfold State.holdAfter; dsimp only; split <;> simp

@[simp] theorem State.watchedFrame_fixed (p : PortId) (f : Frame) : (s.watchedFrame p f).fixed = s.fixed := by
  have e := s.watchTest_fixed (some p) p f
  unfold State.watchedFrame
  split <;> rename_i h <;> rw [h] at e <;> simp only at e <;> simp [e]

@[simp] theorem State.answerMalformed_fixed (n : BitVec 4) (f : Frame) : (s.answerMalformed n f).fixed = s.fixed :=
  State.offerReply_fixed s _ _

end

/-! ## The words of the bin entries -/

section
variable {s t : State}

/-- Words 0 to 5 of every bin entry, in the order of the table. -/
def State.binWords (s : State) : List BinData := s.bins.entries.map BinEntry.data

theorem State.binWords_of_fixed (h : t.fixed = s.fixed) : t.binWords = s.binWords := by
  simp only [State.fixed, Prod.mk.injEq] at h
  exact h.2.2.2.2.2.2.2.2

/-- The order of the table is read from the words of its entries alone. -/
theorem State.binsAscending_iff_binWords : s.binsAscending ↔ (s.binWords.map BinData.tag).Pairwise (· < ·) := by
  rw [State.binWords, List.map_map]
  rfl

theorem State.binsAscending.of_binWords (h : s.binsAscending) (e : t.binWords = s.binWords) : t.binsAscending := by
  rw [State.binsAscending_iff_binWords, e]
  exact State.binsAscending_iff_binWords.1 h

theorem State.binsAscending.of_fixed (h : s.binsAscending) (e : t.fixed = s.fixed) : t.binsAscending :=
  h.of_binWords (State.binWords_of_fixed e)

/-- An accepted DEPOSIT, whatever its table: the Bin Table takes its words from the staging entry alone (R87). -/
theorem State.depositWord_binWords {q : Request} {r : State × Bool} (hr : s.depositWord q = .ok r) :
    r.1.binWords = s.binWords := by
  have entry {α : Type} {l : List α} {i : Nat} {f : α → Except Nat (α × Bool)} {put : α → α → State}
      (hw : writeEntry l i f put = .ok r) (hput : ∀ old new, (put old new).binWords = s.binWords) :
      r.1.binWords = s.binWords := by
    obtain ⟨old, new, e⟩ := writeEntry_put hw
    rw [e]
    exact hput old new
  unfold State.depositWord at hr
  dsimp only at hr
  split at hr
  · obtain ⟨x, rfl⟩ := exceptMap_ok hr
    have configured : ({ s with cfg := x.1 } : State).binWords = s.binWords := rfl
    exact (State.binWords_of_fixed (State.configChanged_fixed _ _ _ _)).trans configured
  · exact entry hr fun _ _ => rfl
  · exact entry hr fun _ _ => State.binWords_of_fixed (State.putSignal_fixed _ _ _ _)
  · exact entry hr fun _ _ => State.binWords_of_fixed (State.putTerm_fixed _ _ _ _)
  · split at hr
    · cases hr
    · exact entry hr fun _ _ => State.binWords_of_fixed (State.putGroup_fixed _ _ _ _)
  · exact entry (liveWhenCleared_ok hr) fun _ _ => rfl
  · exact entry (liveWhenCleared_ok hr) fun _ _ => rfl
  · unfold State.writeSelect taken inRange at hr
    repeat' split at hr
    all_goals cases hr
    all_goals rfl
  · unfold State.writeStaging at hr
    split at hr
    · obtain ⟨x, rfl⟩ := exceptMap_ok hr
      rfl
    · cases hr
  · obtain ⟨x, rfl⟩ := exceptMap_ok hr
    rfl
  · exact entry hr fun _ _ => rfl
  · exact entry hr fun _ _ => rfl
  · cases hr

/-! ## What changes the table -/

/-- An accepted CLEAR, whatever its table: the Bin Table stands, or has no entry (R90, R163). -/
theorem State.clearTable_ascending (h : s.binsAscending) {n : Nat} (ht : s.clearTable n = .ok t) : t.binsAscending := by
  unfold State.clearTable at ht
  repeat' split at ht
  all_goals cases ht
  · exact h
  · exact h.of_fixed (State.settleFrom_fixed _ _ _)
  · exact h.of_fixed (State.settleFrom_fixed _ _ _)
  · exact h.of_fixed (State.settleFrom_fixed _ _ _)
  · exact h
  · exact h
  · exact h
  · exact .nil
  · exact h
  · exact h

/-- The change in flight is entered at the place its tag has in the order, or taken out (R88, R89). -/
theorem State.applyUpdate_ascending (h : s.binsAscending) (c : BinChange) : (s.applyUpdate c).binsAscending :=
  match c with
  | .insert _ => putBin_tagsRise h
  | .remove _ => dropBin_tagsRise h

theorem State.completeUpdate_ascending (h : s.binsAscending) : s.completeUpdate.binsAscending := by
  unfold State.completeUpdate
  split
  · exact h
  · rename_i c _
    have applied := State.applyUpdate_ascending h c
    dsimp only
    split
    · exact applied.of_fixed (by simp)
    · exact applied.of_fixed (by simp)

/-! ## Requests -/

theorem State.operate_ascending (h : s.binsAscending) (op : MgmtOp) (q : Request) : (s.operate op q).binsAscending := by
  cases op with
  | deposit =>
    show (s.doDeposit q).binsAscending
    unfold State.doDeposit
    split
    · exact h.of_fixed (State.refuse_fixed _ _ _ _)
    · rename_i hr
      exact (h.of_binWords (State.depositWord_binWords hr)).of_fixed (State.answer_fixed _ _ _ _ _)
  | clear =>
    show (s.doClear q).binsAscending
    unfold State.doClear
    split
    · exact h.of_fixed (State.refuse_fixed _ _ _ _)
    · rename_i ht
      exact (State.clearTable_ascending h ht).of_fixed (State.answer_fixed _ _ _ _ _)
  | lock =>
    have locked : ({ s with cal := { s.cal with unlocked := false } } : State).binsAscending := h
    exact locked.of_fixed (State.answer_fixed _ _ _ _ _)
  | identify => exact h.of_fixed (State.doIdentify_fixed s q)
  | examine => exact h.of_fixed (State.doExamine_fixed s q)
  | insert => exact h.of_fixed (State.doInsert_fixed s q)
  | remove => exact h.of_fixed (State.doRemove_fixed s q)
  | release => exact h.of_fixed (State.doRelease_fixed s q)
  | day => exact h.of_fixed (State.doDay_fixed s q)
  | step => exact h.of_fixed (State.doStep_fixed s q)
  | watchContinue => exact h.of_fixed (State.doWatchContinue_fixed s q)
  | reset => exact h.of_fixed (State.doReset_fixed s q)
  | port => exact h.of_fixed (State.doPort_fixed s q)

theorem State.manage_ascending (h : s.binsAscending) (op : MgmtOp) (q : Request) : (s.manage op q).binsAscending := by
  have taken : (s.setMgmt { s.mgmt with inProgress := some (op, q) }).binsAscending := h
  unfold State.manage; dsimp only
  split
  · exact h.of_fixed (State.answerBusy_fixed _ _ _)
  · split
    · exact taken.of_fixed (State.refuse_fixed _ _ _ _)
    · exact State.operate_ascending taken op q

/-- A frame taken from a FIFO moves the table as a request alone (R13). -/
theorem State.takeFrame_ascending (h : s.binsAscending) (p : PortId) : (s.takeFrame p).binsAscending := by
  unfold State.takeFrame
  split
  · exact h
  · rename_i f r _
    have taken : (s.setPort p { s.port p with fifo := r }).binsAscending := h
    unfold State.handleFrame State.managementFrame
    repeat' split
    · exact taken.of_fixed (State.watchedFrame_fixed _ _ _)
    · exact taken.of_fixed (State.answerMalformed_fixed _ _ _)
    · exact taken.of_fixed (State.answerMalformed_fixed _ _ _)
    · exact State.manage_ascending taken _ _
    · exact taken.of_fixed (State.watchedFrame_fixed _ _ _)

/-! ## Resets and the idle block -/

/-- A reset keeps the entries of the Bin Table (R86). -/
theorem State.startUp_binWords (s : State) : s.startUp.binWords = s.binWords := by
  have fresh : s.volatileFresh.binWords = s.binWords := rfl
  rw [← fresh]
  refine State.binWords_of_fixed ?_
  simp only [State.startUp, State.firstPages, State.firstFrames, State.judgeAtStart, State.sendPage_fixed,
    State.placeValveFrame_fixed, State.setChamber_fixed]

theorem State.idle_binWords (s : State) : s.idle.binWords = s.binWords := by
  have queued (l : List (List Instr)) : (s.queueOne l).binWords = s.binWords := by unfold State.queueOne; split <;> rfl
  unfold State.idle
  repeat' split
  · rfl
  · exact queued _
  · exact queued _
  · rfl

/-! ## Commands -/

section
variable {c : Instr} {effect : State → State}

theorem exec_ascending_of_effect (e : exec c s = run c effect s) (he : (effect s).binsAscending) (ht : exec c s = .next t) :
    t.binsAscending := by
  rw [e] at ht
  unfold run at ht
  split at ht
  · cases ht
    exact he.of_fixed (State.finish_fixed _)
  · cases ht

theorem exec_ascending_of_fixed (e : exec c s = run c effect s) (he : (effect s).fixed = s.fixed) (h : s.binsAscending)
    (ht : exec c s = .next t) : t.binsAscending := exec_ascending_of_effect e (h.of_fixed he) ht

/-- An operator command moves no entry of the Bin Table, whether it reaches its consumer or not (R156). -/
theorem exec_ascending_of_operator (e : exec c s = run c (fun s => s.unlessHeld effect) s) (he : (effect s).fixed = s.fixed)
    (h : s.binsAscending) (ht : exec c s = .next t) : t.binsAscending :=
  exec_ascending_of_fixed e (State.unlessHeld_fixed s he) h ht

theorem exec_ascending_of_request {op : MgmtOp} {q : Request} (e : exec c s = run c (fun s => s.manage op q) s)
    (h : s.binsAscending) (ht : exec c s = .next t) : t.binsAscending :=
  exec_ascending_of_effect e (State.manage_ascending h op q) ht

end

/-- Every command keeps the order of tags. -/
theorem exec_ascending (h : s.binsAscending) {c : Instr} (ht : exec c s = .next t) : t.binsAscending := by
  cases c with
  | powerOn j =>
    rw [exec_powerOn] at ht
    exact Host.Outcome.next.inj ht ▸ h.of_binWords (State.startUp_binWords _)
  | warmReset =>
    rw [exec_warmReset] at ht
    exact Host.Outcome.next.inj ht ▸ h.of_binWords (State.startUp_binWords _)
  | frameTaken p => exact exec_ascending_of_effect (exec_frameTaken p s) (State.takeFrame_ascending h p) ht
  | binUpdateComplete => exact exec_ascending_of_effect (exec_binUpdateComplete s) (State.completeUpdate_ascending h) ht
  | identify q => exact exec_ascending_of_request (exec_identify q s) h ht
  | examine q => exact exec_ascending_of_request (exec_examine q s) h ht
  | deposit q => exact exec_ascending_of_request (exec_deposit q s) h ht
  | insertBin q => exact exec_ascending_of_request (exec_insertBin q s) h ht
  | removeBin q => exact exec_ascending_of_request (exec_removeBin q s) h ht
  | release q => exact exec_ascending_of_request (exec_release q s) h ht
  | day q => exact exec_ascending_of_request (exec_day q s) h ht
  | stepArm q => exact exec_ascending_of_request (exec_stepArm q s) h ht
  | watchContinueProcess q => exact exec_ascending_of_request (exec_watchContinueProcess q s) h ht
  | watchContinueDiscard q => exact exec_ascending_of_request (exec_watchContinueDiscard q s) h ht
  | lock q => exact exec_ascending_of_request (exec_lock q s) h ht
  | reset q => exact exec_ascending_of_request (exec_reset q s) h ht
  | clear q => exact exec_ascending_of_request (exec_clear q s) h ht
  | portClear q => exact exec_ascending_of_request (exec_portClear q s) h ht
  | portSet q => exact exec_ascending_of_request (exec_portSet q s) h ht
  | portRestart q => exact exec_ascending_of_request (exec_portRestart q s) h ht
  | start a args => exact exec_ascending_of_operator (exec_start a args s) (State.startCommand_fixed s a args) h ht
  | pauseArm a => exact exec_ascending_of_operator (exec_pauseArm a s) (State.pauseCommand_fixed s a) h ht
  | continueArm a => exact exec_ascending_of_operator (exec_continueArm a s) (State.continueCommand_fixed s a) h ht
  | abortArm a => exact exec_ascending_of_operator (exec_abortArm a s) (State.abortCommand_fixed s a) h ht
  | manualEnter a => exact exec_ascending_of_operator (exec_manualEnter a s) (State.enterManual_fixed s a) h ht
  | manualExit a => exact exec_ascending_of_operator (exec_manualExit a s) (State.exitManual_fixed s a) h ht
  | faultClear a => exact exec_ascending_of_operator (exec_faultClear a s) (State.armFaultClear_fixed s a) h ht
  | packNow args =>
    exact exec_ascending_of_operator (exec_packNow args s) (State.toChamber_fixed s args _ (State.packNow_fixed s)) h ht
  | discharged args =>
    exact exec_ascending_of_operator (exec_discharged args s) (State.toChamber_fixed s args _ (State.discharge_fixed s)) h ht
  | chamberFaultClear args =>
    exact exec_ascending_of_operator (exec_chamberFaultClear args s)
      (State.toChamber_fixed s args _ (State.chamberFaultClear_fixed s)) h ht
  | frameArrival p f => exact exec_ascending_of_fixed (exec_frameArrival p f s) (State.setPort_fixed s p _) h ht
  | errorPassive p => exact exec_ascending_of_fixed (exec_errorPassive p s) (State.setPort_fixed s p _) h ht
  | returnToActive p => exact exec_ascending_of_fixed (exec_returnToActive p s) (State.setPort_fixed s p _) h ht
  | busOff p => exact exec_ascending_of_fixed (exec_busOff p s) (State.goBusOff_fixed s p) h ht
  | recoveryTimerExpiry p => exact exec_ascending_of_fixed (exec_recoveryTimerExpiry p s) (State.recover_fixed s p) h ht
  | transmissionEnd p => exact exec_ascending_of_fixed (exec_transmissionEnd p s) (State.noteLeft_fixed _ _) h ht
  | freshnessLimitExpiry i =>
    exact exec_ascending_of_fixed (exec_freshnessLimitExpiry i s) (State.freshnessExpired_fixed s i) h ht
  | holdTimeExpiry i => exact exec_ascending_of_fixed (exec_holdTimeExpiry i s) (State.holdExpired_fixed s i) h ht
  | oneSecondTimerExpiry => exact exec_ascending_of_fixed (exec_oneSecondTimerExpiry s) (State.secondPassed_fixed s) h ht
  | trueDelayExpiry g => exact exec_ascending_of_fixed (exec_trueDelayExpiry g s) (State.delayExpired_fixed s g) h ht
  | stepTimerExpiry a => exact exec_ascending_of_fixed (exec_stepTimerExpiry a s) (State.stepTimeout_fixed s a) h ht
  | durationTimerExpiry a => exact exec_ascending_of_fixed (exec_durationTimerExpiry a s) (State.durationRun_fixed s a) h ht
  | repeatTimerExpiry => exact exec_ascending_of_fixed (exec_repeatTimerExpiry s) (State.repeatHighIdle_fixed s) h ht
  | runDownTimerExpiry => exact exec_ascending_of_fixed (exec_runDownTimerExpiry s) (State.endRunDown_fixed s) h ht
  | valveTick => exact exec_ascending_of_fixed (exec_valveTick s) (State.tick_fixed s) h ht
  | stillFrameInterval c => exact exec_ascending_of_fixed (exec_stillFrameInterval c s) (State.stillFrame_fixed s c) h ht
  | gapTimerExpiry a => exact exec_ascending_of_fixed (exec_gapTimerExpiry a s) (State.gapExpired_fixed s a) h ht
  | phaseTimerExpiry c => exact exec_ascending_of_fixed (exec_phaseTimerExpiry c s) (State.phaseExpired_fixed s c) h ht
  | quietTimerExpiry c => exact exec_ascending_of_fixed (exec_quietTimerExpiry c s) (State.quietExpired_fixed s c) h ht
  | periodTimerExpiry p => exact exec_ascending_of_fixed (exec_periodTimerExpiry p s) (State.periodExpired_fixed s p) h ht
  | spacingTimerExpiry p => exact exec_ascending_of_fixed (exec_spacingTimerExpiry p s) (State.spacingExpired_fixed s p) h ht

end

/-- Settles O5: the command at the front of the queue keeps the order (`exec_ascending`), and the block going on by itself
moves no entry. -/
theorem binTableStaysAscending : Obligations.BinTableStaysAscending := by
  unfold Obligations.BinTableStaysAscending
  intro s t h ht
  unfold step at ht
  split at ht
  · cases ht
    exact h.of_binWords (State.idle_binWords s)
  · exact exec_ascending (by exact h) ht

end Sys2Proof.Machine
end

section
/-! The statements on INSERT and REMOVE (R88, R89) and on DAY, LOCK and RESET (R91, R104, R164). -/

namespace Sys2Proof.Machine

section
variable {d : BinData} {l : List BinEntry} {x : BinEntry} {tag : Nat}

/-! ## What an INSERT enters (R88) -/

theorem findBin_isNone : (findBin tag l).isNone = true ↔ ∀ e ∈ l, e.data.tag ≠ tag := by
  rw [Option.isNone_iff_eq_none, findBin_eq_none]

/-- An INSERT leaves exactly the entries of other tags. -/
theorem mem_putBin_of_ne (hx : x.data.tag ≠ d.tag) : x ∈ putBin d l ↔ x ∈ l := by
  refine ⟨fun h => ?_, fun h => mem_putBin_of_mem h hx⟩
  rcases putBin_mem h with rfl | ⟨e, -, -, rfl⟩ | h
  · exact absurd rfl hx
  · exact absurd rfl hx
  · exact h

/-- An INSERT of a tag in the table replaces the words of its entry, whose lift count and last lift stand. -/
theorem mem_putBin_replaced (hl : tagsRise l) (hx : x ∈ l) (ht : x.data.tag = d.tag) : { x with data := d } ∈ putBin d l := by
  induction l with
  | nil => cases hx
  | cons e r ih =>
    obtain ⟨he, hr⟩ := tagsRise_cons.1 hl
    unfold putBin
    rcases List.mem_cons.1 hx with rfl | hx
    · rw [if_neg (by omega), if_pos ht.symm]
      exact List.mem_cons_self
    · have := he x hx
      rw [if_neg (by omega), if_neg (by omega)]
      exact List.mem_cons_of_mem _ (ih hr hx)

/-- An INSERT of a tag not in the table makes a new entry. -/
theorem ofData_mem_putBin (h : ∀ e ∈ l, e.data.tag ≠ d.tag) : BinEntry.ofData d ∈ putBin d l := by
  induction l with
  | nil => exact List.mem_cons_self
  | cons e r ih =>
    unfold putBin
    split
    · exact List.mem_cons_self
    · rw [if_neg (h e List.mem_cons_self).symm]
      exact List.mem_cons_of_mem _ (ih fun e he => h e (List.mem_cons_of_mem _ he))

end

section
variable {s : State} {q : Request} {op : MgmtOp} {c : BinChange}

/-! ## Put in flight, and completed (R88, R89) -/

/-- The change `c` is in flight, to complete after a time that is a free value (assumption 7). -/
theorem State.startUpdate_eq (s : State) (c : BinChange) :
    ∃ ms ≤ 50, s.startUpdate c =
      { s with freeCount := s.freeCount + 1, bins := { s.bins with update := some c, updateTimer := .start ms } } :=
  ⟨_, Nat.min_le_right _ _, rfl⟩

/-- The status pages show nothing of the update in flight. -/
theorem State.startUpdate_settled (h : s.settled) : ((s.taking op q).startUpdate c).settled := h.congr rfl rfl rfl rfl

theorem State.doInsert_starts (ht : s.bins.staging.tag ≠ 0) (hh : s.bins.staging.household ≠ 0)
    (hroom : (∃ e ∈ s.bins.entries, e.data.tag = s.bins.staging.tag) ∨ s.bins.entries.length < 4096) :
    s.doInsert q = s.startUpdate (.insert s.bins.staging) := by
  unfold State.doInsert
  dsimp only
  rw [if_neg (not_or.2 ⟨ht, hh⟩), if_neg]
  rintro ⟨hnone, hfull⟩
  rcases hroom with ⟨e, he, htag⟩ | hlt
  · exact findBin_isNone.1 hnone e he htag
  · exact absurd hlt (Nat.not_lt.2 hfull)

theorem State.doRemove_starts (h : ∃ e ∈ s.bins.entries, e.data.tag = q.value.toNat) :
    s.doRemove q = s.startUpdate (.remove q.value.toNat) := by
  obtain ⟨e, he, htag⟩ := h
  exact if_neg fun hnone => findBin_isNone.1 hnone e he htag

/-- An accepted INSERT or REMOVE puts its change in flight and stays the request in progress. -/
theorem exec_starts_update {i : Instr} (hi : i.wellFormed = true) (e : exec i s = run i (fun s => s.manage op q) s)
    (hs : s.settled) (hm : s.manage op q = (s.taking op q).startUpdate c) :
    ∃ ms ≤ 50, exec i s = .next
      { s with
        freeCount := s.freeCount + 1, bins := { s.bins with update := some c, updateTimer := .start ms },
        mgmt := { s.mgmt with inProgress := some (op, q) } } := by
  obtain ⟨ms, hms, hstart⟩ := (s.taking op q).startUpdate_eq c
  refine ⟨ms, hms, ?_⟩
  rw [e, run_settled (effect := fun s => s.manage op q) hi hm (State.startUpdate_settled hs), hstart]
  rfl

theorem State.serveLookups_of_nil (h : s.bins.waiting = []) : s.serveLookups = s := by
  have hw : s.setBins { s.bins with waiting := [] } = s := by rw [← h]; rfl
  unfold State.serveLookups
  rw [h, hw]
  exact State.postAnyOrder_nil

/-- With no lookup waiting a completed change is entered and its request answered OK. -/
theorem State.completeUpdate_eq (hw : s.disarmed) (hu : s.bins.update = some c) (hn : s.bins.waiting = [])
    (hp : s.mgmt.inProgress = some (op, q)) (hr : op ≠ .reset) :
    s.completeUpdate =
      ((s.applyUpdate c).inProgressAs none).offerQueue .portB (s.replyTo q op.code 0 q.index 0) := by
  have answered : ((s.applyUpdate c).reply op statusOk q q.index 0).requestEnds =
      ((s.applyUpdate c).inProgressAs none).offerQueue .portB (s.replyTo q op.code 0 q.index 0) := by
    rw [State.reply_eq (s := s.applyUpdate c) (State.unwatched_of_disarmed hw) (.inl hr), State.requestEnds_eq,
      ← State.offerQueue_inProgressAs]
    rfl
  unfold State.completeUpdate
  simp only [hu, show (s.applyUpdate c).mgmt.inProgress = some (op, q) from hp]
  rw [answered, State.serveLookups_of_nil]
  rw [State.offerQueue_eq]
  exact hn

theorem State.completeUpdate_idle (h : s.bins.update = none) : s.completeUpdate = s := by
  unfold State.completeUpdate; rw [h]

end

/-- Settles O49: an accepted change starts its update (`State.doInsert_starts`, `State.doRemove_starts`), and at its completion
it is entered (`mem_putBin_of_ne` and its like) and answered (`State.completeUpdate_eq`). -/
theorem binChangesGoInFlightAndComplete : Obligations.BinChangesGoInFlightAndComplete := by
  unfold Obligations.BinChangesGoInFlightAndComplete
  intro s
  refine ⟨fun q hs hi => ⟨fun ht hh hroom => ?_, fun hfound => ?_⟩, fun c op q code hs hasc hu hn hp hop => ?_, fun hs hu => ?_⟩
  · refine exec_starts_update rfl (exec_insertBin q s) hs
      ((State.manage_operates hi ?_).trans (State.doInsert_starts ht hh hroom))
    exact State.judgeRequest_of_level nofun nofun nofun rfl
  · refine exec_starts_update rfl (exec_removeBin q s) hs ((State.manage_operates hi ?_).trans (State.doRemove_starts hfound))
    exact State.judgeRequest_of_level nofun nofun nofun rfl
  · have hreset : op ≠ .reset := by rcases hop with ⟨rfl, -⟩ | ⟨rfl, -⟩ <;> nofun
    have hcode : code = op.code := by rcases hop with ⟨rfl, rfl⟩ | ⟨rfl, rfl⟩ <;> rfl
    rw [exec_binUpdateComplete, hcode]
    obtain ⟨t, ht, hpages⟩ := run_afterPages (c := .binUpdateComplete) rfl
      (State.completeUpdate_eq hs.1.2 hu hn hp hreset) ((State.calm_offerQueue _ _).2 hs.1)
    refine ⟨t, c.apply s.bins.entries, ht, hpages, fun tag hc e => ?_,
      fun d hc => ⟨fun e he => ?_, fun e he htag => ?_, fun hnew => ?_⟩⟩
    all_goals subst hc
    · exact mem_dropBin
    · exact mem_putBin_of_ne he
    · exact mem_putBin_replaced hasc he htag
    · exact ofData_mem_putBin hnew
  · rw [exec_binUpdateComplete]
    exact run_settled rfl (State.completeUpdate_idle hu) hs

/-! ## DAY, LOCK and RESET -/

section
variable {s : State} {q : Request}

theorem State.manage_day (hi : s.mgmt.inProgress = none) (hu : s.bins.update = none) :
    s.manage .day q =
      ((s.setBins { s.bins with entries := dayBins s.bins.entries }).taking .day q).answer .day statusOk q 0 := by
  rw [State.manage_operates hi (State.judgeRequest_of_level (op := .day) nofun nofun nofun rfl)]
  exact if_neg (by rw [show (s.taking .day q).bins.update = none from hu]; nofun)

theorem State.manage_lock (hi : s.mgmt.inProgress = none) (hl : s.cal.unlocked = true) :
    s.manage .lock q =
      (({ s with cal := { s.cal with unlocked := false } } : State).taking .lock q).answer .lock statusOk q 0 := by
  rw [State.manage_operates hi (State.judgeRequest_of_level (op := .lock) nofun nofun nofun hl)]
  rfl

/-- A LOCK of the LOCKED lock is refused by its access condition (Table 10-3). -/
theorem State.manage_lock_locked (hi : s.mgmt.inProgress = none) (hl : s.cal.unlocked = false) :
    s.manage .lock q = (s.drawn.taking .lock q).answer .lock statusLevel q (Config.freeReplyValue s.freeCount) := by
  have hj : s.judgeRequest .lock q = some statusLevel := if_neg (by rw [State.levelHolds, hl]; nofun)
  rw [State.manage_judged hi hj]
  exact State.refuse_drawn nofun nofun rfl

/-- The reply to a RESET is marked, and the request stays in progress (R164). -/
theorem State.manage_reset (hw : s.unwatched) (hi : s.mgmt.inProgress = none) (hl : s.mgmt.service = true) :
    s.manage .reset q = (s.taking .reset q).offerQueue .portB { s.replyTo q 11 0 q.index 0 with ofReset := true } := by
  rw [State.manage_operates hi (State.judgeRequest_of_level (op := .reset) nofun nofun nofun hl)]
  show (s.taking .reset q).offerOwn _ _ = _
  rw [State.offerOwn_of_unwatched (by exact hw), replyFrame_eq]
  rfl

end

/-- Settles O54: each operation's act by `State.manage_day`, `State.manage_lock` and `State.manage_reset`, then its reply. -/
theorem dayLockAndReset : Obligations.DayLockAndReset := by
  unfold Obligations.DayLockAndReset
  intro s q
  refine ⟨fun hi => ⟨fun hs hu => ?_, fun hc hl => ?_, fun hs hl => ?_, fun hc hl => ?_⟩, fun hp hd => ?_⟩
  · have hset : (s.setBins { s.bins with entries := dayBins s.bins.entries }).settled := hs.congr rfl rfl rfl rfl
    obtain ⟨t, ht, hpages⟩ := run_replied (c := .day q) rfl (State.manage_day hi hu) hset.1.1 hset.1.unwatched hset.2 hi
      (.inl nofun)
    exact ⟨t, ht, hpages⟩
  · obtain ⟨t, ht, hreply⟩ := run_afterReply (c := .lock q) (u := { s with cal := { s.cal with unlocked := false } }) rfl
      (State.manage_lock hi hl) hc.1 hc.unwatched hi (.inl nofun)
    exact ⟨t, ht, hreply⟩
  · obtain ⟨t, ht, hpages⟩ := run_replied (c := .lock q) (u := s.drawn) rfl (State.manage_lock_locked hi hl) hs.1.1
      hs.1.unwatched hs.2 hi (.inl nofun)
    exact ⟨t, _, ht, hpages⟩
  · obtain ⟨t, ht, hpages⟩ := run_afterPages (c := .reset q) rfl (State.manage_reset hc.unwatched hi hl)
      ((State.calm_offerQueue _ _).2 hc)
    exact ⟨t, ht, hpages⟩
  · unfold step State.idle
    rw [hp]
    simp only [hd, if_true]

end Sys2Proof.Machine
end

section
/-! The statement on the lock (R103, R104), with what it needs: the ways in which a command changes the state, and the few operations
among them that reach the Calibration Table. -/

namespace Sys2Proof.Machine

/-! ## The ways in which a command changes the state -/

section
variable {s t u : State}

/-- What a command other than a start makes of the state, before all that it sets off. -/
inductive ActsAs (s : State) : State → Prop
  | fixed {t : State} (h : t.fixed = s.fixed) : ActsAs s t
  | request (op : MgmtOp) (q : Request) : ActsAs s (s.manage op q)
  | frame (p : PortId) : ActsAs s (s.takeFrame p)
  | update : ActsAs s s.completeUpdate

/-- Every command but the two starts is run with an effect that leaves `State.fixed`, takes a request or a frame, or completes an update
of the Bin Table. -/
theorem exec_actsAs {c : Instr} (hp : ∀ j, c ≠ .powerOn j) (hw : c ≠ .warmReset) (s : State) :
    ∃ effect : State → State, exec c s = run c effect s ∧ ActsAs s (effect s) := by
  cases c with
  | powerOn j => exact absurd rfl (hp j)
  | warmReset => exact absurd rfl hw
  | identify q => exact ⟨_, exec_identify q s, .request _ q⟩
  | examine q => exact ⟨_, exec_examine q s, .request _ q⟩
  | deposit q => exact ⟨_, exec_deposit q s, .request _ q⟩
  | insertBin q => exact ⟨_, exec_insertBin q s, .request _ q⟩
  | removeBin q => exact ⟨_, exec_removeBin q s, .request _ q⟩
  | release q => exact ⟨_, exec_release q s, .request _ q⟩
  | day q => exact ⟨_, exec_day q s, .request _ q⟩
  | stepArm q => exact ⟨_, exec_stepArm q s, .request _ q⟩
  | watchContinueProcess q => exact ⟨_, exec_watchContinueProcess q s, .request _ q⟩
  | watchContinueDiscard q => exact ⟨_, exec_watchContinueDiscard q s, .request _ q⟩
  | lock q => exact ⟨_, exec_lock q s, .request _ q⟩
  | reset q => exact ⟨_, exec_reset q s, .request _ q⟩
  | clear q => exact ⟨_, exec_clear q s, .request _ q⟩
  | portClear q => exact ⟨_, exec_portClear q s, .request _ q⟩
  | portSet q => exact ⟨_, exec_portSet q s, .request _ q⟩
  | portRestart q => exact ⟨_, exec_portRestart q s, .request _ q⟩
  | frameTaken p => exact ⟨_, exec_frameTaken p s, .frame p⟩
  | binUpdateComplete => exact ⟨_, exec_binUpdateComplete s, .update⟩
  | start a args => exact ⟨_, exec_start a args s, .fixed (State.unlessHeld_fixed s (by simp))⟩
  | pauseArm a => exact ⟨_, exec_pauseArm a s, .fixed (State.unlessHeld_fixed s (by simp))⟩
  | continueArm a => exact ⟨_, exec_continueArm a s, .fixed (State.unlessHeld_fixed s (by simp))⟩
  | abortArm a => exact ⟨_, exec_abortArm a s, .fixed (State.unlessHeld_fixed s (by simp))⟩
  | manualEnter a => exact ⟨_, exec_manualEnter a s, .fixed (State.unlessHeld_fixed s (by simp))⟩
  | manualExit a => exact ⟨_, exec_manualExit a s, .fixed (State.unlessHeld_fixed s (by simp))⟩
  | faultClear a => exact ⟨_, exec_faultClear a s, .fixed (State.unlessHeld_fixed s (by simp))⟩
  | packNow args =>
    exact ⟨_, exec_packNow args s, .fixed (State.unlessHeld_fixed s (State.toChamber_fixed s _ _ (State.packNow_fixed s)))⟩
  | discharged args =>
    exact ⟨_, exec_discharged args s, .fixed (State.unlessHeld_fixed s (State.toChamber_fixed s _ _ (State.discharge_fixed s)))⟩
  | chamberFaultClear args =>
    exact ⟨_, exec_chamberFaultClear args s,
      .fixed (State.unlessHeld_fixed s (State.toChamber_fixed s _ _ (State.chamberFaultClear_fixed s)))⟩
  | frameArrival p f => exact ⟨_, exec_frameArrival p f s, .fixed (State.setPort_fixed s p _)⟩
  | errorPassive p => exact ⟨_, exec_errorPassive p s, .fixed (by simp)⟩
  | returnToActive p => exact ⟨_, exec_returnToActive p s, .fixed (by simp)⟩
  | busOff p => exact ⟨_, exec_busOff p s, .fixed (by simp)⟩
  | recoveryTimerExpiry p => exact ⟨_, exec_recoveryTimerExpiry p s, .fixed (by simp)⟩
  | freshnessLimitExpiry i => exact ⟨_, exec_freshnessLimitExpiry i s, .fixed (by simp)⟩
  | holdTimeExpiry i => exact ⟨_, exec_holdTimeExpiry i s, .fixed (by simp)⟩
  | oneSecondTimerExpiry => exact ⟨_, exec_oneSecondTimerExpiry s, .fixed (by simp)⟩
  | trueDelayExpiry g => exact ⟨_, exec_trueDelayExpiry g s, .fixed (by simp)⟩
  | stepTimerExpiry a => exact ⟨_, exec_stepTimerExpiry a s, .fixed (by simp)⟩
  | durationTimerExpiry a => exact ⟨_, exec_durationTimerExpiry a s, .fixed (by simp)⟩
  | repeatTimerExpiry => exact ⟨_, exec_repeatTimerExpiry s, .fixed (by simp)⟩
  | runDownTimerExpiry => exact ⟨_, exec_runDownTimerExpiry s, .fixed (by simp)⟩
  | valveTick => exact ⟨_, exec_valveTick s, .fixed (by simp)⟩
  | stillFrameInterval d => exact ⟨_, exec_stillFrameInterval d s, .fixed (by simp)⟩
  | gapTimerExpiry a => exact ⟨_, exec_gapTimerExpiry a s, .fixed (by simp)⟩
  | phaseTimerExpiry d => exact ⟨_, exec_phaseTimerExpiry d s, .fixed (by simp)⟩
  | quietTimerExpiry d => exact ⟨_, exec_quietTimerExpiry d s, .fixed (by simp)⟩
  | periodTimerExpiry p => exact ⟨_, exec_periodTimerExpiry p s, .fixed (by simp)⟩
  | spacingTimerExpiry p => exact ⟨_, exec_spacingTimerExpiry p s, .fixed (by simp)⟩
  | transmissionEnd p => exact ⟨_, exec_transmissionEnd p s, .fixed (State.noteLeft_fixed _ _)⟩

/-! ## What the lock lets stand (R103, R104) -/

/-- The counter stands, and with the lock LOCKED the whole Calibration Table. -/
def State.calStands (s t : State) : Prop := (s.cal.unlocked = false → t.cal = s.cal) ∧ t.cal.counter = s.cal.counter

theorem State.calStands_of_cal (h : t.cal = s.cal) : s.calStands t := ⟨fun _ => h, congrArg Calibration.counter h⟩

theorem State.cal_of_fixed (h : t.fixed = s.fixed) : t.cal = s.cal := by
  simp only [State.fixed, Prod.mk.injEq] at h
  obtain ⟨-, -, -, -, -, -, hcal, -⟩ := h
  exact hcal

theorem State.calStands_of_fixed (h : t.fixed = s.fixed) : s.calStands t := State.calStands_of_cal (State.cal_of_fixed h)

/-- What follows and changes nothing fixed lets stand what has stood. -/
theorem State.calStands.of_fixed (h : s.calStands t) (hu : u.fixed = t.fixed) : s.calStands u := by
  have hcal := State.cal_of_fixed hu
  unfold State.calStands
  rw [hcal]
  exact h

/-! ## Operations that reach the Calibration Table -/

/-- No word of the Calibration Table is its counter (R103). -/
theorem Calibration.write_counter {c : Calibration} {q : Request} {r : Calibration × Bool} (h : c.write q = .ok r) :
    r.1.counter = c.counter := by
  unfold Calibration.write inRange taken at h
  repeat' split at h
  case h_1 | h_2 =>
    obtain ⟨x, rfl⟩ := exceptMap_ok h
    rfl
  all_goals cases h
  all_goals rfl

/-- An accepted DEPOSIT reaches the Calibration Table by its own table number alone, and never the counter. -/
theorem State.depositWord_cal {q : Request} {r : State × Bool} (hr : s.depositWord q = .ok r) :
    r.1.cal = s.cal ∨ q.table = 9 ∧ r.1.cal.counter = s.cal.counter := by
  have entry {α : Type} {l : List α} {i : Nat} {f : α → Except Nat (α × Bool)} {put : α → α → State}
      (hw : writeEntry l i f put = .ok r) (hput : ∀ old new, (put old new).cal = s.cal) : r.1.cal = s.cal := by
    obtain ⟨old, new, e⟩ := writeEntry_put hw
    rw [e]
    exact hput old new
  by_cases h9 : q.table = 9
  · refine .inr ⟨h9, ?_⟩
    rw [State.depositWord, h9] at hr
    cases hw : s.cal.write q with
    | error n => rw [hw] at hr; cases hr
    | ok x =>
      rw [hw] at hr
      cases hr
      exact Calibration.write_counter hw
  · refine .inl ?_
    unfold State.depositWord at hr
    dsimp only at hr
    split at hr
    · obtain ⟨x, rfl⟩ := exceptMap_ok hr
      have configured : ({ s with cfg := x.1 } : State).cal = s.cal := rfl
      exact (State.cal_of_fixed (State.configChanged_fixed _ _ _ _)).trans configured
    · exact entry hr fun _ _ => rfl
    · exact entry hr fun _ _ => State.cal_of_fixed (State.putSignal_fixed _ _ _ _)
    · exact entry hr fun _ _ => State.cal_of_fixed (State.putTerm_fixed _ _ _ _)
    · split at hr
      · cases hr
      · exact entry hr fun _ _ => State.cal_of_fixed (State.putGroup_fixed _ _ _ _)
    · exact entry (liveWhenCleared_ok hr) fun _ _ => rfl
    · exact entry (liveWhenCleared_ok hr) fun _ _ => rfl
    · unfold State.writeSelect taken inRange at hr
      repeat' split at hr
      all_goals cases hr
      all_goals rfl
    · unfold State.writeStaging at hr
      split at hr
      · obtain ⟨x, rfl⟩ := exceptMap_ok hr
        rfl
      · cases hr
    · exact absurd ‹_› h9
    · exact entry hr fun _ _ => rfl
    · exact entry hr fun _ _ => rfl
    · cases hr

/-- The Calibration Table is none of those that CLEAR is accepted for (R163). -/
theorem State.clearTable_cal {n : Nat} (ht : s.clearTable n = .ok t) : t.cal = s.cal := by
  unfold State.clearTable at ht
  repeat' split at ht
  all_goals cases ht
  case h_2 | h_3 | h_4 => exact State.cal_of_fixed (State.settleFrom_fixed _ _ _)
  all_goals rfl

/-! ## Requests -/

/-- A DEPOSIT to the Calibration Table has passed METROLOGY, so that with the lock LOCKED no DEPOSIT reaches it (Table 10-3). -/
theorem State.doDeposit_calStands {q : Request} (hlevel : s.depositAllowed q.table = true) : s.calStands (s.doDeposit q) := by
  unfold State.doDeposit
  split
  · exact State.calStands_of_fixed (State.refuse_fixed _ _ _ _)
  · next hr =>
    refine State.calStands.of_fixed ?_ (State.answer_fixed _ _ _ _ _)
    rcases State.depositWord_cal hr with hcal | ⟨h9, hcounter⟩
    · exact State.calStands_of_cal hcal
    · have hunlocked : s.cal.unlocked = true := by rw [h9] at hlevel; exact hlevel
      exact ⟨fun hl => absurd (hunlocked.symm.trans hl) nofun, hcounter⟩

theorem State.doClear_calStands (q : Request) : s.calStands (s.doClear q) := by
  unfold State.doClear
  split
  · exact State.calStands_of_fixed (State.refuse_fixed _ _ _ _)
  · next ht => exact (State.calStands_of_cal (State.clearTable_cal ht)).of_fixed (State.answer_fixed _ _ _ _ _)

/-- A LOCK sets the lock LOCKED and leaves the rest (R104). -/
theorem State.doLock_calStands (q : Request) : s.calStands (s.doLock q) := by
  have locked : s.calStands { s with cal := { s.cal with unlocked := false } } := ⟨fun hl => by rw [← hl], rfl⟩
  exact locked.of_fixed (State.answer_fixed _ _ _ _ _)

theorem State.operate_calStands {op : MgmtOp} {q : Request} (hlevel : s.levelHolds op q.table = true) :
    s.calStands (s.operate op q) := by
  cases op with
  | deposit => exact State.doDeposit_calStands hlevel
  | clear => exact State.doClear_calStands q
  | lock => exact State.doLock_calStands q
  | identify => exact State.calStands_of_fixed (State.doIdentify_fixed s q)
  | examine => exact State.calStands_of_fixed (State.doExamine_fixed s q)
  | insert => exact State.calStands_of_fixed (State.doInsert_fixed s q)
  | remove => exact State.calStands_of_fixed (State.doRemove_fixed s q)
  | release => exact State.calStands_of_fixed (State.doRelease_fixed s q)
  | day => exact State.calStands_of_fixed (State.doDay_fixed s q)
  | step => exact State.calStands_of_fixed (State.doStep_fixed s q)
  | watchContinue => exact State.calStands_of_fixed (State.doWatchContinue_fixed s q)
  | reset => exact State.calStands_of_fixed (State.doReset_fixed s q)
  | port => exact State.calStands_of_fixed (State.doPort_fixed s q)

/-- A request that passes the judging has its level (R161, R162). -/
theorem State.levelHolds_of_judged {op : MgmtOp} {q : Request} (h : s.judgeRequest op q = none) : s.levelHolds op q.table = true := by
  unfold State.judgeRequest at h
  dsimp only at h
  repeat' split at h
  case isFalse.isFalse.isFalse.isTrue => assumption
  all_goals cases h

theorem State.manage_calStands (s : State) (op : MgmtOp) (q : Request) : s.calStands (s.manage op q) := by
  by_cases hi : s.mgmt.inProgress = none
  · cases hj : s.judgeRequest op q with
    | some status =>
      rw [State.manage_judged hi hj]
      exact State.calStands_of_fixed (State.refuse_fixed (s.taking op q) _ _ _)
    | none =>
      rw [State.manage_operates hi hj]
      exact State.operate_calStands (s := s.taking op q) (State.levelHolds_of_judged hj)
  · rw [State.manage_busy hi]
    exact State.calStands_of_fixed (State.answerBusy_fixed _ _ _)

/-- A frame taken from a FIFO reaches the Calibration Table as a request alone (R13). -/
theorem State.takeFrame_calStands (s : State) (p : PortId) : s.calStands (s.takeFrame p) := by
  unfold State.takeFrame
  split
  · exact State.calStands_of_cal rfl
  · next f r _ =>
    unfold State.handleFrame State.managementFrame
    repeat' split
    · exact State.calStands_of_fixed (State.watchedFrame_fixed _ _ _)
    · exact State.calStands_of_fixed (State.answerMalformed_fixed _ _ _)
    · exact State.calStands_of_fixed (State.answerMalformed_fixed _ _ _)
    · exact State.manage_calStands (s.setPort _ _) _ _
    · exact State.calStands_of_fixed (State.watchedFrame_fixed _ _ _)

/-- The end of an update changes the Bin Table, and its reply nothing fixed (R88 to R90). -/
theorem State.completeUpdate_calStands (s : State) : s.calStands s.completeUpdate := by
  unfold State.completeUpdate
  split
  · exact State.calStands_of_cal rfl
  · next c _ =>
    have applied : s.calStands (s.applyUpdate c) := State.calStands_of_cal rfl
    dsimp only
    split
    all_goals exact applied.of_fixed (by simp)

/-! ## Starts and the idle block -/

/-- A start keeps the Calibration Table (R104). -/
theorem State.startUp_cal (s : State) : s.startUp.cal = s.cal := by
  have fresh : s.volatileFresh.cal = s.cal := rfl
  rw [← fresh]
  refine State.cal_of_fixed ?_
  simp only [State.startUp, State.firstPages, State.firstFrames, State.judgeAtStart, State.sendPage_fixed,
    State.placeValveFrame_fixed, State.setChamber_fixed]

theorem State.idle_cal (s : State) : s.idle.cal = s.cal := by
  have queued (l : List (List Instr)) : (s.queueOne l).cal = s.cal := by unfold State.queueOne; split <;> rfl
  unfold State.idle
  repeat' split
  case isFalse.isTrue => exact queued _
  case isFalse.isFalse.isTrue => exact queued _
  all_goals rfl

/-! ## Commands -/

theorem ActsAs.calStands (h : ActsAs s t) : s.calStands t := by
  cases h with
  | fixed hfixed => exact State.calStands_of_fixed hfixed
  | request op q => exact State.manage_calStands s op q
  | frame p => exact State.takeFrame_calStands s p
  | update => exact State.completeUpdate_calStands s

/-- Every command but a POWER_ON lets the Calibration Table stand as the lock says. -/
theorem exec_calStands {c : Instr} (hp : ∀ j, c ≠ .powerOn j) (ht : exec c s = .next t) : s.calStands t := by
  by_cases hw : c = .warmReset
  · subst hw
    rw [exec_warmReset] at ht
    exact Host.Outcome.next.inj ht ▸ State.calStands_of_cal (State.startUp_cal s)
  · obtain ⟨effect, hrun, hacts⟩ := exec_actsAs hp hw s
    rw [hrun] at ht
    unfold run at ht
    split at ht
    · cases ht
      exact hacts.calStands.of_fixed (State.finish_fixed _)
    · cases ht

end

/-- Settles O8: the command at the front of the queue lets the table stand (`exec_calStands`), and the block going on by itself does not
touch it. -/
theorem lockedCalibrationStands : Obligations.LockedCalibrationStands := by
  unfold Obligations.LockedCalibrationStands
  intro s t hfront ht
  show s.calStands t
  unfold step at ht
  split at ht
  · cases ht
    exact State.calStands_of_cal (State.idle_cal s)
  · next c rest hpending => exact exec_calStands (s := { s with pending := rest }) (fun j hj => hfront j rest (hj ▸ hpending)) ht

end Sys2Proof.Machine
end

section
/-! The statements on the weight computation (R115 to R118), on the end of a weighing window (R102 to R120) and on the charge of a LIFT
record (R119, R137). -/

namespace Sys2Proof.Machine

/-! ## The weight computation (R115 to R118) -/

section
variable {m : List Nat} {k tau : Nat}

theorem tiltTau_eq (tilt : Int) : tiltTau tilt = if tilt.natAbs ≤ 1500 then tilt.natAbs else 1500 := Nat.min_def

theorem tiltFactor_eq {x : Nat} (h : m[k]? = some x) : tiltFactor m k = x := by
  unfold tiltFactor
  rw [List.getD_eq_getElem?_getD, h]
  rfl

/-- The share of the step between two whole degrees (R116). -/
def tiltPart (m : List Nat) (tau : Nat) : Int :=
  roundDiv ((tiltFactor m (tau / 100 + 1) - tiltFactor m (tau / 100)) * (tau % 100 : Nat)) 100

theorem interpolatedTilt_of_lt (h : tau / 100 < 15) : interpolatedTilt m tau = tiltFactor m (tau / 100) + tiltPart m tau := if_pos h

theorem interpolatedTilt_of_top (h : tau = 1500) : interpolatedTilt m tau = tiltFactor m 15 := by
  unfold interpolatedTilt
  dsimp only
  exact if_neg (by omega)

end

theorem capacityDivisions_eq (c : ArmCalibration) (d : Nat) : capacityDivisions c d = c.capacityKg * 1000 / d := rfl

section
variable {c : ArmCalibration} {d : Nat} {gross tare : Int} {heavy : Bool}

theorem netOf_of_negative (h : gross < tare) : netOf c d gross tare heavy = (0, { negative := true, belowMin := true }) :=
  if_pos (by omega)

/-- A net of 0 or more is a whole number of divisions, the nearest (R118). -/
theorem exists_divisions (hd : 1 ≤ d) (h : tare ≤ gross) :
    ∃ q : Nat, Rounds q (gross - tare) d ∧ roundDiv (gross - tare) d = q := by
  have hnonneg : 0 ≤ roundDiv (gross - tare) d := by
    rw [roundDiv_of_nonneg (by omega)]
    exact Int.ediv_nonneg (by omega) (by omega)
  refine ⟨(roundDiv (gross - tare) d).toNat, ?_, (Int.toNat_of_nonneg hnonneg).symm⟩
  rw [Int.toNat_of_nonneg hnonneg]
  exact roundDiv_rounds (by omega) _

theorem netOf_of_over {q : Nat} (h : tare ≤ gross) (hq : roundDiv (gross - tare) d = q)
    (hover : c.capacityKg * 1000 / d < q ∨ heavy = true) :
    netOf c d gross tare heavy =
      (c.capacityKg * 1000 / d, { overrange := true, belowMin := decide (c.capacityKg * 1000 / d < 20) }) := by
  unfold netOf
  dsimp only
  rw [if_neg (by omega), hq, Int.toNat_natCast, capacityDivisions_eq, if_pos hover]

theorem netOf_of_within {q : Nat} (h : tare ≤ gross) (hq : roundDiv (gross - tare) d = q) (hcap : q ≤ c.capacityKg * 1000 / d)
    (hlight : heavy = false) : netOf c d gross tare heavy = (q, { belowMin := decide (q < 20) }) := by
  unfold netOf
  dsimp only
  rw [if_neg (by omega), hq, Int.toNat_natCast, capacityDivisions_eq,
    if_neg fun hover => hover.elim (Nat.not_lt.2 hcap) (by rw [hlight]; exact nofun)]

end

/-- Settles O40: every quotient is the model's divider (`roundDiv_rounds`), and the net follows the three ways of `netOf`. -/
theorem weightIsComputedInStages : Obligations.WeightIsComputedInStages := by
  unfold Obligations.WeightIsComputedInStages
  refine ⟨fun c m tilt window w hw hm => ?_, fun c d gross tare heavy n f hd hnet => ?_⟩
  · refine ⟨windowMean window w, tiltPart m (tiltTau tilt), _, tiltTau tilt, interpolatedTilt m (tiltTau tilt),
      roundDiv_rounds (by omega) _, tiltTau_eq tilt, fun x y hx hy => ⟨?_, ?_⟩, fun x htop hx => ?_,
      roundDiv_rounds (by omega) _, roundDiv_rounds (by omega) _⟩
    · rw [← tiltFactor_eq hx, ← tiltFactor_eq hy]
      exact roundDiv_rounds (by omega) _
    · have hlt := (List.getElem?_eq_some_iff.1 hy).1
      rw [interpolatedTilt_of_lt (by omega), tiltFactor_eq hx]
    · rw [interpolatedTilt_of_top htop, tiltFactor_eq hx]
  · rcases lt_or_ge gross tare with hneg | hpos
    · rw [netOf_of_negative hneg] at hnet
      cases hnet
      exact ⟨fun _ => ⟨rfl, rfl⟩, fun h => absurd hneg (by omega), Nat.zero_le _⟩
    · obtain ⟨q, hrounds, hq⟩ := exists_divisions hd hpos
      by_cases hover : c.capacityKg * 1000 / d < q ∨ heavy = true
      · rw [netOf_of_over hpos hq hover] at hnet
        cases hnet
        refine ⟨fun h => absurd hpos (by omega), fun _ => ⟨q, hrounds, fun _ => ⟨rfl, rfl⟩, fun hcap hlight => ?_⟩, le_rfl⟩
        exact absurd hover (not_or.2 ⟨Nat.not_lt.2 hcap, by rw [hlight]; exact nofun⟩)
      · obtain ⟨hcap, hlight⟩ := not_or.1 hover
        rw [netOf_of_within hpos hq (Nat.not_lt.1 hcap) (Bool.not_eq_true _ ▸ hlight)] at hnet
        cases hnet
        exact ⟨fun h => absurd hpos (by omega), fun _ => ⟨_, hrounds, fun h => absurd h hover, fun _ _ => ⟨rfl, rfl⟩⟩,
          Nat.not_lt.1 hcap⟩

/-! ## The charge of a LIFT record (R119, R137) -/

section
variable {t : TariffEntry} {d : Nat} {r : LogRecord}

theorem RecFlags.billableByWeight_iff (f : RecFlags) :
    f.billableByWeight = true ↔
      f.gUnsettled = false ∧ f.tUnsettled = false ∧ f.gTilt = false ∧ f.tTilt = false ∧ f.tiltLost = false ∧
        f.overrange = false ∧ f.belowMin = false ∧ f.negative = false ∧ f.noGross = false ∧ f.noTare = false ∧
        f.lockOpen = false := by
  simp [RecFlags.billableByWeight, and_assoc]

theorem weightPart_eq (n d rate : Nat) : weightPart n d rate = (n * d * rate + 500) / 1000 := by
  unfold weightPart
  rw [← Nat.cast_mul, ← Nat.cast_mul]
  generalize n * d * rate = x
  rw [roundDiv_of_nonneg (Int.natCast_nonneg x)]
  omega

/-- A last digit of 5 to 9 goes upward (R137). -/
theorem roundTen_spec (n : Nat) : roundTen n % 10 = 0 ∧ roundTen n ≤ n + 5 ∧ n < roundTen n + 5 := by
  unfold roundTen
  omega

theorem liftCharge_of_untipped (h : r.flags.tipped = false) : liftCharge t d r = 0 := if_neg (by rw [h]; exact nofun)

theorem liftCharge_of_accept (h : r.flags.tipped = true) (hd : r.decision = .accept) :
    liftCharge t d r =
      if r.flags.billableByWeight then roundTen (t.liftFee + weightPart (r.nDiv.getD 0) d t.rate) else t.unweighedFee := by
  unfold liftCharge
  rw [if_pos h, hd]

theorem liftCharge_of_relift (h : r.flags.tipped = true) (hd : r.decision = .relift) :
    liftCharge t d r = if r.flags.billableByWeight then roundTen (weightPart (r.nDiv.getD 0) d t.rate) else 0 := by
  unfold liftCharge
  rw [if_pos h, hd]

theorem liftCharge_of_neither (ha : r.decision ≠ .accept) (hr : r.decision ≠ .relift) : liftCharge t d r = 0 := by
  unfold liftCharge
  split
  · split
    · exact absurd ‹_› ha
    · exact absurd ‹_› hr
    · rfl
  · rfl

/-- A tipped bin billed by weight pays its fee part, 0 at a relift, and its weight part, rounded together. -/
theorem liftCharge_of_billed {n fee : Nat} (ht : r.flags.tipped = true) (hb : r.flags.billableByWeight = true) (hn : r.nDiv = some n)
    (hfee : r.decision = .accept ∧ fee = t.liftFee ∨ r.decision = .relift ∧ fee = 0) :
    liftCharge t d r = roundTen (fee + (n * d * t.rate + 500) / 1000) := by
  rcases hfee with ⟨hdec, rfl⟩ | ⟨hdec, rfl⟩
  · rw [liftCharge_of_accept ht hdec, if_pos hb, hn, weightPart_eq]
    rfl
  · rw [liftCharge_of_relift ht hdec, if_pos hb, hn, weightPart_eq, Nat.zero_add]
    rfl

end

/-- Settles O47: row by row of the table, the sum rounded by `roundTen_spec`. -/
theorem chargeTable : Obligations.ChargeTable := by
  unfold Obligations.ChargeTable
  intro t d r billable hbillable
  have hb : r.flags.billableByWeight = billable :=
    Bool.eq_iff_iff.2 ((RecFlags.billableByWeight_iff r.flags).trans hbillable.symm)
  refine ⟨liftCharge_of_untipped, liftCharge_of_neither, fun ht hnot => ⟨fun hdec => ?_, fun hdec => ?_⟩,
    fun ht hyes n fee hn hfee => ⟨_, rfl, ?_⟩⟩
  · rw [liftCharge_of_accept ht hdec, hb, hnot]
    rfl
  · rw [liftCharge_of_relift ht hdec, hb, hnot]
    rfl
  · rw [liftCharge_of_billed ht (hb.trans hyes) hn hfee]
    exact roundTen_spec _

/-! ## The counts of a window (R109) -/

/-- The counts differ by at most the band exactly when the largest and the smallest do. -/
theorem windowSpread_le_iff {w : List Int} {band : Nat} : windowSpread w ≤ band ↔ ∀ x ∈ w, ∀ y ∈ w, x - y ≤ band := by
  cases w with
  | nil => exact ⟨fun _ => nofun, fun _ => Int.natCast_nonneg band⟩
  | cons x r =>
    obtain ⟨hmax, hle⟩ := List.max?_eq_some_iff.1 (List.max?_cons' (x := x) (xs := r))
    obtain ⟨hmin, hge⟩ := List.min?_eq_some_iff.1 (List.min?_cons' (x := x) (xs := r))
    refine ⟨fun h y hy z hz => ?_, fun h => h _ hmax _ hmin⟩
    have hspread : r.foldl max x - r.foldl min x ≤ band := h
    have := hle y hy
    have := hge z hz
    omega

theorem WeighUnit.settled_iff {u : WeighUnit} {band : Nat} :
    u.settled band = true ↔ u.window.length = u.lengthInForce ∧ ∀ x ∈ u.window, ∀ y ∈ u.window, x - y ≤ band := by
  unfold WeighUnit.settled
  rw [Bool.and_eq_true, decide_eq_true_iff, decide_eq_true_iff, windowSpread_le_iff]

/-! ## The end of a window (R111 to R113, R117, R118, R120) -/

section
variable {s : State} {a : ArmId} {n : Nat} {u v : WeighUnit} {tare unsettled : Bool} {grams : Option Int} {r : WeighResult}

/-- A Weighing Unit that has ended its window with a result. -/
def WeighUnit.endedWith (u : WeighUnit) (tare : Bool) (r : WeighResult) : WeighUnit :=
  let w := { u with window := [], isOpen := false, gapTimer := .stopped, quiet := false }
  if tare = true then { w with state := .done, tare := some r } else { w with state := .grossDone, gross := some r }

theorem WeighUnit.endedWith_quiet : (u.endedWith tare r).quiet = false := by
  unfold WeighUnit.endedWith; dsimp only; split <;> rfl

/-- A record that takes the result of a window, with the net that a tare gives. -/
def LogRecord.withResult (tare : Bool) (r : WeighResult) (net : Option (Nat × RecFlags)) (e : LogRecord) : LogRecord :=
  if tare = true then
    { e with
      tare := r.grams, nDiv := net.map Prod.fst, flags := (e.flags.join r.flags).join ((net.map Prod.snd).getD {}) }
  else { e with gross := r.grams, flags := e.flags.join r.flags }

theorem RecFlags.join_empty (f : RecFlags) : f.join {} = f := by simp [RecFlags.join]

theorem LogRecord.withResult_tare (net : Option (Nat × RecFlags)) : LogRecord.withResult true r net = LogRecord.withTare r net := by
  funext e
  cases net with
  | none => simp [LogRecord.withResult, LogRecord.withTare, RecFlags.join_empty]
  | some x => rfl

/-- The flags of a window's result, without a value and with one (R113, R117). -/
def State.resultFlags (s : State) (a : ArmId) (disturbed : Bool) (grams : Option Int) (unsettled tare : Bool) : RecFlags :=
  { disturbed,
    gUnsettled := grams.isSome && unsettled && !tare, tUnsettled := grams.isSome && unsettled && tare,
    tiltLost := grams.isSome && (s.roleValue .tilt).isNone,
    gTilt := grams.isSome && decide ((s.armCal a).tiltLimit < ((s.roleValue .tilt).getD 0).natAbs) && !tare,
    tTilt := grams.isSome && decide ((s.armCal a).tiltLimit < ((s.roleValue .tilt).getD 0).natAbs) && tare,
    overrange := grams.any (fun g : Int =>
      !tare && decide (((s.armCal a).capacityKg * 1000 + 9 * s.cal.division : Nat) < g)) }

/-- The result of a window as its grams and its flags. -/
def State.resultOf (s : State) (a : ArmId) (u : WeighUnit) (grams : Option Int) (unsettled tare : Bool) : WeighResult :=
  { grams, flags := s.resultFlags a u.disturbed grams unsettled tare }

/-- The grams of a window as it stands. -/
def State.gramsOf (s : State) (a : ArmId) (u : WeighUnit) : Int :=
  windowGrams (s.armCal a) s.cal.tiltFactors ((s.roleValue .tilt).getD 0) u.window u.lengthInForce

theorem State.windowResult_of_value :
    (s.setWeighUnit a u).windowResult a true unsettled false tare = s.resultOf a u (some (s.gramsOf a u)) unsettled tare := by
  unfold State.windowResult
  rw [State.setWeighUnit_weighUnit]
  simp only [if_true, State.resultOf, State.resultFlags, Option.isSome_some, Bool.true_and, Option.any_some]
  rfl

theorem State.windowResult_of_none :
    (s.setWeighUnit a u).windowResult a false unsettled false tare = s.resultOf a u none unsettled tare := by
  unfold State.windowResult
  rw [State.setWeighUnit_weighUnit]
  rfl

theorem State.netResult_of_values {k : WeighResult} {g x : Int} (hk : u.gross = some k) (hg : k.grams = some g)
    (hx : r.grams = some x) :
    (s.setWeighUnit a u).netResult a r = some (netOf (s.armCal a) s.cal.division g x k.flags.overrange) := by
  unfold State.netResult
  rw [State.setWeighUnit_weighUnit, hk, hx, Option.bind_some, hg]
  rfl

theorem State.netResult_of_none (h : r.grams = none ∨ u.gross.bind WeighResult.grams = none) :
    (s.setWeighUnit a u).netResult a r = none := by
  unfold State.netResult
  rw [State.setWeighUnit_weighUnit]
  rcases h with h | h
  · rw [h]
    cases u.gross.bind WeighResult.grams <;> rfl
  · rw [h]

/-- A net needs a tare with a value and a gross with one standing in the unit (R118). -/
theorem State.netResult_spec :
    (∃ k g x, u.gross = some k ∧ k.grams = some g ∧ r.grams = some x ∧
        (s.setWeighUnit a u).netResult a r = some (netOf (s.armCal a) s.cal.division g x k.flags.overrange)) ∨
      (r.grams = none ∨ ∀ k, u.gross = some k → k.grams = none) ∧ (s.setWeighUnit a u).netResult a r = none := by
  cases hx : r.grams with
  | none => exact .inr ⟨.inl rfl, State.netResult_of_none (.inl hx)⟩
  | some x =>
    cases hb : u.gross.bind WeighResult.grams with
    | none => exact .inr ⟨.inr (Option.bind_eq_none_iff.1 hb), State.netResult_of_none (.inr hb)⟩
    | some g =>
      obtain ⟨k, hk, hg⟩ := Option.bind_eq_some_iff.1 hb
      exact .inl ⟨k, g, x, hk, hg, rfl, State.netResult_of_values hk hg hx⟩

/-- A unit that drops its quiet request hands this to both chambers, either first. -/
theorem State.putWeigh_of_dropped (hu : u.quiet = true) (hv : v.quiet = false) :
    (s.setWeighUnit a u).putWeigh a v = (s.setWeighUnit a v).postAnyOrder [.quietChanged .chamber0, .quietChanged .chamber1] := by
  unfold State.putWeigh
  rw [State.setWeighUnit_weighUnit, State.setWeighUnit_setWeighUnit]
  exact if_neg (by rw [hu, hv]; nofun)

/-- The end of a collecting window: the unit and the record take the result, both chambers hear of the dropped request, the arm of the
end. -/
theorem State.endWindow_ends {hasValue void : Bool} (hst : u.state = if tare = true then .collectTare else .collectGross)
    (hq : u.quiet = true) (hn : u.record = some n) (hr : (s.setWeighUnit a u).windowResult a hasValue unsettled void tare = r) :
    ∃ l : List Ev, l.Perm [.quietChanged .chamber0, .quietChanged .chamber1] ∧
      (s.setWeighUnit a u).endWindow a hasValue unsettled void =
        { s with
          weigh := s.weigh.put a.second (u.endedWith tare r),
          log := s.log.enter n (LogRecord.withResult tare r ((s.setWeighUnit a u).netResult a r)),
          agenda := s.agenda ++ l ++ [.windowEnd a], freeCount := s.freeCount + 1 } := by
  obtain ⟨l, hl, hpost⟩ :=
    (s.setWeighUnit a (u.endedWith tare r)).postAnyOrder_two (.quietChanged .chamber0) (.quietChanged .chamber1)
  refine ⟨l, hl, ?_⟩
  have hput := (State.putWeigh_of_dropped (s := s) (a := a) hq (u.endedWith_quiet (tare := tare) (r := r))).trans hpost
  unfold State.endWindow
  rw [State.setWeighUnit_weighUnit]
  dsimp only
  cases tare
  · rw [show u.state = .collectGross from hst]
    dsimp only
    rw [hr]
    show (((s.setWeighUnit a u).putWeigh a (u.endedWith false r)).enterRecord (u.record.getD 0) _).post _ = _
    rw [hput, hn]
    rfl
  · rw [show u.state = .collectTare from hst]
    dsimp only
    rw [hr, LogRecord.withResult_tare]
    show (((s.setWeighUnit a u).putWeigh a (u.endedWith true r)).enterRecord (u.record.getD 0) _).post _ = _
    rw [hput, hn]
    rfl

/-! ## A sample and the time limit at an OPEN window (R102, R109, R112) -/

theorem joinWindow_eq (w : List Int) (k : Nat) (x : Int) : joinWindow w k x = (w ++ [x]).drop (w.length + 1 - k) := by
  unfold joinWindow
  rw [List.length_append, List.length_singleton]

/-- A sample joins an OPEN window, which ends when it has settled. -/
theorem State.sampleFrame_of_open {f : Frame} (hu : u = s.weighUnit a) (ho : u.isOpen = true)
    (hlen : s.cfg.lcOffset + 3 ≤ f.data.length)
    (hv : v = { u with
      live := some (sampleOf s.cfg.lcOffset f, s.now), window := joinWindow u.window u.lengthInForce (sampleOf s.cfg.lcOffset f),
      gapTimer := .start Config.gapMs }) :
    s.sampleFrame a f =
      if v.settled (s.armCal a).settleBand then (s.setWeighUnit a v).endWindow a true false false else s.setWeighUnit a v := by
  subst hv
  subst hu
  unfold State.sampleFrame
  dsimp only
  rw [if_neg (show ¬ f.dlc < _ from Nat.not_lt.2 hlen), if_pos ho]
  rfl

/-- At the time limit an OPEN window has a value when it is full. -/
theorem State.weighTimeLimit_of_open (hu : u = s.weighUnit a) (ho : u.isOpen = true) :
    s.weighTimeLimit a = (s.setWeighUnit a u).endWindow a (decide (u.window.length = u.lengthInForce)) true false := by
  subst hu
  rw [State.setWeighUnit_self]
  unfold State.weighTimeLimit
  dsimp only
  rw [ho]
  rfl

end

/-- Settles O38: a settled window and one at its time limit end as `State.endWindow_ends` says, with a value or without. -/
theorem windowSettlesOrTimesOut : Obligations.WindowSettlesOrTimesOut := by
  unfold Obligations.WindowSettlesOrTimesOut
  intro s a n u tare ended hu hst ho hq hn hended
  have ends {v : WeighUnit} {grams : Option Int} {hasValue unsettled : Bool}
      (hvst : v.state = u.state) (hvq : v.quiet = u.quiet) (hvn : v.record = u.record)
      (hr : (s.setWeighUnit a v).windowResult a hasValue unsettled false tare = s.resultOf a v grams unsettled tare) :
      ended v grams unsettled ((s.setWeighUnit a v).endWindow a hasValue unsettled false) := by
    obtain ⟨l, hl, heq⟩ := State.endWindow_ends (hvst.trans hst) (hvq.trans hq) (hvn.trans hn) hr
    rw [heq, hended]
    refine ⟨s.resultFlags a v.disturbed grams unsettled tare,
      if tare = true then (s.setWeighUnit a v).netResult a (s.resultOf a v grams unsettled tare) else none,
      _, l, rfl, ?_, rfl, List.perm_pair.1 hl, ?_⟩
    · cases tare with
      | false => exact .inr ⟨.inl rfl, rfl⟩
      | true =>
        rcases State.netResult_spec (s := s) (a := a) (u := v) (r := s.resultOf a v grams unsettled true) with
          ⟨k, g, x, hk, hg, hx, hnet⟩ | ⟨hnone, hnet⟩
        · exact .inl ⟨rfl, k, g, x, hk, hg, hx, hnet⟩
        · exact .inr ⟨.inr hnone, hnet⟩
    · cases tare <;> rfl
  refine ⟨fun f w v hlen hw hv => ?_, fun hfull => ?_, fun hshort => ?_⟩
  · have hwindow : v.window = w := by rw [hv]
    have hforce : v.lengthInForce = u.lengthInForce := by rw [hv]
    have hsample := State.sampleFrame_of_open (v := v) hu ho hlen (by rw [hv, hw, joinWindow_eq]; rfl)
    refine ⟨fun hnot => ?_, fun hcount hband => ?_⟩
    · rw [hsample, if_neg]
      rw [WeighUnit.settled_iff, hwindow, hforce]
      rintro ⟨hcount, hband⟩
      rcases hnot with h | ⟨x, hx, y, hy, h⟩
      · exact h hcount
      · exact absurd (hband x hx y hy) (not_le.2 h)
    · rw [hsample, if_pos (WeighUnit.settled_iff.2 (by rw [hwindow, hforce]; exact ⟨hcount, hband⟩)), ← hwindow, ← hforce]
      exact ends (by rw [hv]) (by rw [hv]) (by rw [hv]) State.windowResult_of_value
  · rw [State.weighTimeLimit_of_open hu ho, decide_eq_true hfull]
    exact ends rfl rfl rfl State.windowResult_of_value
  · rw [State.weighTimeLimit_of_open hu ho, decide_eq_false hshort.ne]
    exact ends rfl rfl rfl State.windowResult_of_none

end Sys2Proof.Machine
end

section
/-! SUPPORT. The phases of a stroke: entered for the first time, ended, and their end tested (R125, R126), the load judged (R132), and a
hand-over that sets off another. -/

namespace Sys2Proof.Machine

section
variable {s v w : State} {c : ChamberId} {x : Chamber} {l : LoadState} {e e' : Ev}

/-! ## A phase entered for the first time (R125) -/

theorem State.stroking_handing (y : Chamber) (m : List Ev) : (s.handing m).stroking c y = (s.stroking c y).handing m := by
  unfold State.stroking
  dsimp only
  split <;> exact State.driven_handing (s := s.setChamber c y) _ _ _ m

theorem State.stroking_setChamber (x y : Chamber) : (s.setChamber c x).stroking c y = s.stroking c y := by
  unfold State.stroking
  dsimp only
  simp only [State.setChamber_setChamber]
  rfl

/-- A phase never entered before starts its time limit, drives its group and is tested in its turn. -/
theorem State.enterPhase_first (h : s.disarmed) (hx : x = s.chamber c) (he : x.entered = false)
    (hp : x.phase.toState.isPhase = true) :
    s.enterPhase c =
      (s.stroking c { x with
        state := x.phase.toState, phaseTimer := .start (phaseLimit (s.chamberSettings c) x.phase), quietTimer := .stopped,
        entered := true }).postNext (.phaseTest c) := by
  subst hx
  rw [State.stroking_eq rfl hp]
  unfold State.enterPhase State.setChamberState
  dsimp only
  rw [if_neg (ne_true_of_eq_false he), if_pos hp, State.setChamber_chamber, State.setChamber_setChamber,
    State.driveGroup_setTargets (by exact h)]
  rfl

theorem State.nextPhase_enters {p : StrokePhase} (h : s.disarmed) (hp : p.toState.isPhase = true) :
    s.nextPhase c p =
      (s.stroking c { s.chamber c with
        state := p.toState, phase := p, phaseTimer := .start (phaseLimit (s.chamberSettings c) p), quietTimer := .stopped,
        entered := true }).postNext (.phaseTest c) := by
  unfold State.nextPhase
  rw [State.enterPhase_first (by exact h) (State.setChamber_chamber _ _ _).symm rfl hp, State.stroking_setChamber]
  rfl

/-! ## The load (R132) -/

/-- The load state of a chamber as it has become is judged; one become FULL is handed to its arm. -/
theorem State.judgeLoad_setChamber (ha : s.agenda = []) (hl : l = loadOf (s.chamberSettings c) x.fill x.mass) :
    (s.setChamber c x).judgeLoad c =
      (s.setChamber c { x with load := l }).handing (if l = .full ∧ x.load ≠ .full then [.chamberFull c.arm] else []) := by
  unfold State.judgeLoad
  simp only [State.setChamber_chamber, State.setChamber_setChamber]
  rw [show loadOf ((s.setChamber c x).chamberSettings c) x.fill x.mass = l from hl.symm]
  by_cases hsame : l = x.load
  · rw [if_pos hsame, if_neg fun ⟨hf, hn⟩ => hn (hsame ▸ hf), hsame]
    exact (State.handing_self (by exact ha)).symm
  · rw [if_neg hsame]
    by_cases hf : l = .full
    · rw [if_pos hf, if_pos ⟨hf, fun hx => hsame (hf.trans hx.symm)⟩, State.postNext_of_nil (by exact ha)]
    · rw [if_neg hf, if_neg fun h => hf h.1, State.handing_self (by exact ha)]

/-! ## The conditions that end a phase (R126) -/

/-- BLADE stands at the sweep end or past it. -/
def State.bladeSwept (s : State) (c : ChamberId) : Prop :=
  ∃ b, s.roleValue c.bladeRole = some b ∧ ((s.chamberSettings c).sweepEnd : Int) ≤ b

/-- PRESS stands at the packing pressure or above it. -/
def State.packPressed (s : State) (c : ChamberId) : Prop :=
  ∃ p, s.roleValue c.pressRole = some p ∧ ((s.chamberSettings c).packPressure : Int) ≤ p

/-- BLADE stands within the end band. -/
def State.bladeNearEnd (s : State) (c : ChamberId) : Prop :=
  ∃ b, s.roleValue c.bladeRole = some b ∧ 1000 - ((s.chamberSettings c).endBand : Int) ≤ b

/-- BLADE stands within the home band. -/
def State.bladeHome (s : State) (c : ChamberId) : Prop :=
  ∃ b, s.roleValue c.bladeRole = some b ∧ b ≤ ((s.chamberSettings c).homeBand : Int)

theorem any_value_iff {o : Option Int} {p : Int → Prop} [DecidablePred p] :
    o.any (fun b => decide (p b)) = true ↔ ∃ b, o = some b ∧ p b := by
  simp only [Option.any_eq_true, decide_eq_true_iff]

theorem State.testPhase_of_swept (hs : (s.chamber c).state = .sweep) (h : s.bladeSwept c) :
    s.testPhase c = some (s.nextPhase c .pack) := by
  unfold State.testPhase
  rw [hs]
  exact if_pos (any_value_iff.2 h)

theorem State.testPhase_of_pressed (hs : (s.chamber c).state = .pack) (h : s.packPressed c) :
    s.testPhase c = some (s.endPack c true) := by
  unfold State.testPhase
  rw [hs]
  exact if_pos (any_value_iff.2 h)

theorem State.testPhase_of_nearEnd (hs : (s.chamber c).state = .pack) (hn : ¬ s.packPressed c) (h : s.bladeNearEnd c) :
    s.testPhase c = some (s.endPack c false) := by
  unfold State.testPhase
  rw [hs]
  exact (if_neg fun hp => hn (any_value_iff.1 hp)).trans (if_pos (any_value_iff.2 h))

theorem State.testPhase_of_home (hs : (s.chamber c).state = .ret) (h : s.bladeHome c) :
    s.testPhase c = some (s.endStroke c) := by
  unfold State.testPhase
  rw [hs]
  exact if_pos (any_value_iff.2 h)

/-- Without the end condition of its phase a stroke stays in it. -/
theorem State.testPhase_unended (hsweep : (s.chamber c).state = .sweep → ¬ s.bladeSwept c)
    (hpack : (s.chamber c).state = .pack → ¬ s.packPressed c ∧ ¬ s.bladeNearEnd c)
    (hret : (s.chamber c).state = .ret → ¬ s.bladeHome c) : s.testPhase c = none := by
  unfold State.testPhase
  dsimp only
  split
  · next hs => exact if_neg fun h => hsweep hs (any_value_iff.1 h)
  · next hs =>
    obtain ⟨hpressed, hnear⟩ := hpack hs
    rw [if_neg fun h => hpressed (any_value_iff.1 h)]
    exact if_neg fun h => hnear (any_value_iff.1 h)
  · next hs => exact if_neg fun h => hret hs (any_value_iff.1 h)
  all_goals rfl

theorem State.phaseRole_ends (h : s.testPhase c = some v) : s.phaseRole c = v := by
  unfold State.phaseRole
  rw [h]
  rfl

theorem State.phaseRole_stays (h : s.testPhase c = none) : s.phaseRole c = s := by
  unfold State.phaseRole
  rw [h]
  rfl

/-- Neither the end of a phase nor a quiet request is found (R125). -/
theorem State.phaseEntered_unended (h : s.testPhase c = none) (hq : s.quietRaised = false) : s.phaseEntered c = s := by
  unfold State.phaseEntered
  rw [h]
  exact if_neg fun ⟨_, _, hr⟩ => Bool.false_ne_true (hq.symm.trans hr)

/-! ## A hand-over that sets off another -/

/-- A hand-over that finds nothing to do is the last of its command. -/
theorem drain_handing_unheard (h : v.calm) (hidle : ∀ t, v.AfterPages t → handle e' t = t) (hw : v.AfterPages w) (n : Nat) :
    v.AfterPages (drain (n + 1) (w.handing [e'])) := by
  have hwa := hw.agenda_eq.trans h.1
  have hpages := State.notePages_afterPages (hw.calm h)
  have hhead : (w.handing [e']).takeHead e' [] = w.notePages := by
    unfold State.takeHead
    rw [show ({ w.handing [e'] with agenda := [] } : State) = w from State.handing_self hwa, State.postAll_nil, hidle w hw]
  rw [drain_cons (s := w.handing [e']) rfl, hhead, drain_of_empty (hpages.agenda_eq.trans hwa)]
  exact hw.trans hpages

/-- A hand-over whose act hands on one that finds nothing to do: the act stands between status pages. -/
theorem State.finish_handing_acts {act : State → State} (h : w.calm)
    (hact : ∀ u, w.AfterPages u →
      handle e u = (act u).handing [e'] ∧ (act u).calm ∧ ∀ t, (act u).AfterPages t → handle e' t = t) :
    ∃ u, w.AfterPages u ∧ (act u).AfterPages (w.handing [e]).finish := by
  obtain ⟨n, hb⟩ := cascadeBudget_eq
  obtain ⟨u, hu, hnote⟩ := State.notePages_handing h.unwatched h.1 [e]
  obtain ⟨hhandle, hcalm, hidle⟩ := hact u hu
  obtain ⟨z, hz, hnext⟩ := State.notePages_handing hcalm.unwatched hcalm.1 [e']
  have hhead : (u.handing [e]).takeHead e [] = z.handing [e'] := by
    unfold State.takeHead
    rw [show ({ u.handing [e] with agenda := [] } : State) = u from State.handing_self (hu.agenda_eq.trans h.1),
      State.postAll_nil, hhandle, hnext]
  refine ⟨u, hu, ?_⟩
  unfold State.finish
  rw [hnote, hb, drain_cons (s := u.handing [e]) rfl, hhead]
  exact drain_handing_unheard hcalm hidle hz _

end

end Sys2Proof.Machine
end

section
/-! The statement on the end of the stroke phases (R124, R125, R126, R132). -/

namespace Sys2Proof.Machine

section
variable {s : State} {c : ChamberId} {p : Consumer} {x : Chamber} {l : LoadState} {fill : Nat}

/-! ## The end of RETURN (R126) -/

theorem State.flowChanged_placed (g : ValveGroup) (y : Arbiter) : (s.placed p g).flowChanged y = (s.flowChanged y).placed p g := by
  unfold State.flowChanged
  split <;> simp only [apply_ite (State.placed · p g)] <;> rfl

theorem State.flowChanged_valve (y : Arbiter) : (s.flowChanged y).valve p = s.valve p := by
  unfold State.flowChanged
  split <;> split <;> rfl

/-- Flow given back and a group stopped: neither reads what the other changes. -/
theorem State.granted_stopped (d : Nat) : (s.granted p d).stopped p = (s.stopped p).granted p d := by
  unfold State.granted State.stopped
  dsimp only
  rw [State.flowChanged_valve]
  split
  · exact (State.flowChanged_placed _ _).symm
  · rfl

theorem State.granted_chamber (d : Nat) : (s.granted p d).chamber c = s.chamber c := by
  obtain ⟨y, q, hy, -⟩ := s.granted_eq p d
  rw [hy]
  rfl

/-- The stroke is over: IDLE, its claim given back with nobody else waiting, and a new stroke is tried. -/
theorem State.endStroke_eq (h : s.calm) (hw : s.noneWaitsBut c.consumer) (hx : x = s.chamber c) :
    s.endStroke c =
      (((s.setChamber c { x with
          state := .idle, phase := .none, phaseTimer := .stopped, grantFlag := false, quieted := false,
          entered := false }).stopped c.consumer).granted c.consumer 0).handing [.strokeTest c] := by
  subst hx
  unfold State.endStroke
  dsimp only
  rw [State.claimNone_of_disarmed h.disarmed hw, State.granted_chamber,
    State.setChamberState_rests (by exact State.disarmed_granted.2 h.disarmed) rfl, State.setChamber_chamber,
    State.setChamber_setChamber,
    ← State.granted_setChamber, State.granted_stopped]
  exact State.postNext_of_nil ((State.calm_granted _ _).2 ((State.calm_stopped _).2 (by exact h))).1 _

/-! ## The end of PACK (R126, R132) -/

/-- A chamber that returns from PACK. -/
def Chamber.returning (x : Chamber) (k : ChamberSettings) : Chamber :=
  { x with state := .ret, phase := .ret, phaseTimer := .start k.returnLimit, quietTimer := .stopped, entered := true }

/-- The fill and the load that the end of PACK on pressure leaves. -/
def State.packs (s : State) (c : ChamberId) (x : Chamber) (fill : Nat) (l : LoadState) : Prop :=
  s.roleValue c.bladeRole = none ∧ fill = x.fill ∧ l = x.load ∨
    (∃ b, s.roleValue c.bladeRole = some b ∧ (fill : Int) = max 0 (min 1000 (1000 - b))) ∧
      l = loadOf (s.chamberSettings c) fill x.mass

theorem State.nextPhase_returns (h : s.disarmed) (hx : x = s.chamber c) :
    s.nextPhase c .ret = (s.stroking c (x.returning (s.chamberSettings c))).postNext (.phaseTest c) := by
  subst hx
  exact State.nextPhase_enters h rfl

/-- A block's own continuation stands before the news of a FULL chamber. -/
theorem State.postNext_handing_news {a : ArmId} {e : Ev} (full : Prop) [Decidable full] :
    (s.handing (if full then [.chamberFull a] else [])).postNext e = s.handing (e :: if full then [.chamberFull a] else []) := by
  split <;> rfl

theorem State.endPack_keeps (h : s.calm) (hx : x = s.chamber c) :
    s.endPack c false = (s.stroking c (x.returning (s.chamberSettings c))).handing [.phaseTest c] :=
  (State.nextPhase_returns h.disarmed hx).trans (State.postNext_of_nil (State.calm_stroking.2 h).1 _)

/-- On pressure the fill is taken when BLADE is available; the phase is tested before the arm hears of a FULL chamber. -/
theorem State.endPack_packs (h : s.calm) (hx : x = s.chamber c) (hp : s.packs c x fill l) :
    s.endPack c true =
      (s.stroking c (Chamber.returning { x with fill, load := l } (s.chamberSettings c))).handing
        (.phaseTest c :: if l = .full ∧ x.load ≠ .full then [.chamberFull c.arm] else []) := by
  unfold State.endPack
  dsimp only
  rcases hp with ⟨hb, rfl, rfl⟩ | ⟨⟨b, hb, hfill⟩, hl⟩
  · rw [hb, if_neg fun hf => hf.2 hf.1]
    exact State.endPack_keeps h hx
  · have htaken : (holdTo 0 1000 (1000 - b)).toNat = fill := by rw [holdTo_eq (by decide), ← hfill, Int.toNat_natCast]
    have hjudged : (s.setChamber c { x with fill }).judgeLoad c =
        (s.setChamber c { x with fill, load := l }).handing (if l = .full ∧ x.load ≠ .full then [.chamberFull c.arm] else []) :=
      State.judgeLoad_setChamber h.1 hl
    rw [hb]
    dsimp only
    rw [htaken, ← hx, hjudged,
      State.nextPhase_returns (s := State.handing _ _) (by exact h.disarmed) (by exact (State.setChamber_chamber s c _).symm),
      State.stroking_handing, State.stroking_setChamber]
    exact State.postNext_handing_news _

end

/-- Settles O45: the test finds the end of the phase (`State.testPhase_of_swept` and its like), and the next phase is entered for the
first time (`State.nextPhase_enters`), behind which the arm hears of a FULL chamber (`State.endPack_packs`). -/
theorem strokePhasesEnd : Obligations.StrokePhasesEnd := by
  unfold Obligations.StrokePhasesEnd
  intro s c x k swept pressed near home enter hs hx hk hswept hpressed hnear hhome henter
  obtain rfl : enter = fun y => y.returning k := funext henter
  subst hk hx
  refine ⟨fun hst h => ?_, fun hst h fill load hp => ?_, fun hst hn h => ?_, fun hst h hw => ?_, fun hsweep hpack hret => ?_⟩
  · rw [State.phaseRole_ends (State.testPhase_of_swept hst (hswept.1 h)), State.nextPhase_enters hs.disarmed rfl,
      State.postNext_of_nil (State.calm_stroking.2 hs).1]
    rfl
  · exact (State.phaseRole_ends (State.testPhase_of_pressed hst (hpressed.1 h))).trans (State.endPack_packs hs rfl hp)
  · exact (State.phaseRole_ends (State.testPhase_of_nearEnd hst (hn ∘ hpressed.2) (hnear.1 h))).trans (State.endPack_keeps hs rfl)
  · exact (State.phaseRole_ends (State.testPhase_of_home hst (hhome.1 h))).trans (State.endStroke_eq hs hw rfl)
  · refine State.phaseRole_stays (State.testPhase_unended (fun h => hsweep h ∘ hswept.2) (fun h => ?_) fun h => hret h ∘ hhome.2)
    exact (hpack h).imp (· ∘ hpressed.2) (· ∘ hnear.2)

end Sys2Proof.Machine
end

section
/-! The statement on DISCHARGED (R132 to R134, R144, R145). -/

namespace Sys2Proof.Machine

section
variable {s : State} {c : ChamberId} {b : Byte} {l : List Byte}

/-! ## A DISCHARGED refused (R133) -/

theorem discharged_wellFormed (h : l.length ≤ 6) : (Instr.discharged (b :: l)).wellFormed = true :=
  decide_eq_true (Nat.succ_le_succ h)

/-- The first check that fails, in the order of R133. -/
def State.dischargeFails (s : State) (c : ChamberId) (r : DischargeRefusal) : Prop :=
  (s.chamber c).state ≠ .idle ∧ r = .notIdle ∨
    (s.chamber c).state = .idle ∧
      (s.given c.dischargePermit = false ∧ r = .noPermit ∨
        s.given c.dischargePermit = true ∧
          ((s.arm c.arm).inCycle = true ∧ r = .armInCycle ∨
            (s.arm c.arm).inCycle = false ∧ 2048 ≤ s.log.records.length ∧ r = .logFull))

theorem State.discharge_refused {r : DischargeRefusal} (h : s.dischargeFails c r) : s.discharge c = s.refuseDischarge c r := by
  unfold State.discharge
  rcases h with ⟨hs, rfl⟩ | ⟨hs, h⟩
  · exact if_pos hs
  rw [if_neg (not_not_intro hs)]
  rcases h with ⟨hg, rfl⟩ | ⟨hg, h⟩
  · rw [hg]
    rfl
  rw [hg]
  rcases h with ⟨ha, rfl⟩ | ⟨ha, hfull, rfl⟩
  · rw [ha]
    rfl
  · have hfree : s.log.free = 0 := Nat.sub_eq_zero_of_le hfull
    rw [ha, hfree]
    rfl

/-! ## A DISCHARGED accepted (R132, R134, R144) -/

/-- The DISCHARGE record that the Log places, its check word apart. -/
def State.placedDischarge (s : State) (c : ChamberId) : LogRecord :=
  { LogRecord.blank .discharge c.second s.cal.counter s.cal.unlocked with
    seq := s.log.nextSeq, closed := true, outcome := .completed,
    mass := (s.chamber c).mass, tips := (s.chamber c).tipsSinceDischarge, fill := (s.chamber c).fill,
    time := s.clock.count,
    latitude := (s.place.map Prod.fst).getD 0, longitude := (s.place.map Prod.snd).getD 0,
    flags := { lockOpen := s.cal.unlocked, timeUnset := !s.clock.isSet, posAbsent := s.place.isNone } }

theorem State.dischargeRecord_eq (s : State) (c : ChamberId) :
    { s.dischargeRecord c with seq := s.log.nextSeq } = s.placedDischarge c := by
  unfold State.dischargeRecord State.placedDischarge
  dsimp only
  rw [State.stampRecord_eq _ _ rfl rfl]
  rfl

theorem State.placeClosed_discharge (s : State) (c : ChamberId) :
    s.placeClosed (s.dischargeRecord c) =
      s.setLog { s.log with
        records := s.log.records ++ [{ s.placedDischarge c with check := (s.placedDischarge c).crc }],
        nextSeq := if s.log.nextSeq = 4294967295 then 1 else s.log.nextSeq + 1 } := by
  rw [State.placeClosed, State.dischargeRecord_eq]
  rfl

/-- The load of an empty chamber, under thresholds that do not make it FULL (assumption 42). -/
theorem loadOf_empty {k : ChamberSettings} (h : ¬ (k.fillFull = 0 ∨ k.massFull = 0)) :
    loadOf k 0 0 = if k.fillWarn = 0 ∨ k.massWarn = 0 then .warn else .normal := by
  have hzero (n m : Nat) : n ≤ 0 ∨ m * 1000 ≤ 0 ↔ n = 0 ∨ m = 0 := by omega
  unfold loadOf
  simp only [hzero]
  exact if_neg h

/-- A chamber that begins again from 0. -/
def Chamber.emptied (x : Chamber) (k : ChamberSettings) : Chamber :=
  { x with
    mass := 0, fill := 0, tipCounter := 0, tipsSinceDischarge := 0, pending := false, refusal := .none,
    load := if k.fillWarn = 0 ∨ k.massWarn = 0 then .warn else .normal }

theorem State.resetChamber_eq (ha : s.agenda = [])
    (h : ¬ ((s.chamberSettings c).fillFull = 0 ∨ (s.chamberSettings c).massFull = 0)) :
    s.resetChamber c = s.setChamber c ((s.chamber c).emptied (s.chamberSettings c)) := by
  have hjudged := State.judgeLoad_setChamber (c := c) (x := { s.chamber c with
    mass := 0, fill := 0, tipCounter := 0, tipsSinceDischarge := 0, pending := false, refusal := .none }) ha rfl
  have hload := loadOf_empty h
  have hnews : loadOf (s.chamberSettings c) 0 0 ≠ .full := by
    rw [hload]
    split <;> decide
  rw [if_neg fun hf => hnews hf.1, State.handing_self (by exact ha)] at hjudged
  unfold Chamber.emptied
  rw [← hload]
  exact hjudged

theorem State.discharge_accepted (hs : (s.chamber c).state = .idle) (hg : s.given c.dischargePermit = true)
    (ha : (s.arm c.arm).inCycle = false) (hl : s.log.records.length < 2048) :
    s.discharge c = (s.placeClosed (s.dischargeRecord c)).resetChamber c := by
  have hfree : s.log.free ≠ 0 := (Nat.sub_pos_of_lt hl).ne'
  unfold State.discharge
  rw [if_neg (not_not_intro hs), hg, ha, if_neg hfree]
  rfl

end

/-- Settles O43: the checks of R133 in order (`State.discharge_refused`), then the record placed (`State.placeClosed_discharge`) and
the chamber emptied (`State.resetChamber_eq`). -/
theorem dischargeIsJudgedInOrder : Obligations.DischargeIsJudgedInOrder := by
  unfold Obligations.DischargeIsJudgedInOrder
  intro s c b l hs hw hl hb
  refine ⟨fun r hr => ?_, fun hi hg ha hroom hk => ?_⟩
  · exact operator_afterPages (exec_discharged (b :: l) s) (discharged_wellFormed hl) hw
      ((State.toChamber_of_number hb l _).trans (State.discharge_refused hr)) (by exact hs)
  · have hact := State.discharge_accepted hi hg ha hroom
    rw [State.placeClosed_discharge, State.resetChamber_eq (by exact hs.1) (by exact hk)] at hact
    obtain ⟨t, ht, hpages⟩ := operator_afterPages (exec_discharged (b :: l) s) (discharged_wellFormed hl) hw
      ((State.toChamber_of_number hb l _).trans hact) (by exact hs)
    exact ⟨t, _, _, ht, rfl, hpages, rfl⟩

end Sys2Proof.Machine
end

section
/-! The statement on PACK_NOW in IDLE (R122, R124, R125). -/

namespace Sys2Proof.Machine

section
variable {s v : State} {c : ChamberId} {x : Chamber} {b : Byte} {l : List Byte}

/-! ## What status pages do not touch -/

theorem State.AfterPages.chamber_eq (h : s.AfterPages v) (c : ChamberId) : v.chamber c = s.chamber c := by
  obtain ⟨p, m, rfl, -⟩ := h.shape
  rfl

theorem State.AfterPages.chamberSettings_eq (h : s.AfterPages v) (c : ChamberId) : v.chamberSettings c = s.chamberSettings c := by
  obtain ⟨p, m, rfl, -⟩ := h.shape
  rfl

theorem State.AfterPages.arbiter_eq (h : s.AfterPages v) : v.arbiter = s.arbiter := by
  obtain ⟨p, m, rfl, -⟩ := h.shape
  rfl

theorem State.AfterPages.given_eq (h : s.AfterPages v) (g : RoleGroup) : v.given g = s.given g := by
  obtain ⟨p, m, rfl, -⟩ := h.shape
  rfl

theorem State.AfterPages.roleValue_eq (h : s.AfterPages v) (r : Role) : v.roleValue r = s.roleValue r := by
  obtain ⟨p, m, rfl, -⟩ := h.shape
  rfl

theorem State.AfterPages.quietRaised_eq (h : s.AfterPages v) : v.quietRaised = s.quietRaised := by
  obtain ⟨p, m, rfl, -⟩ := h.shape
  rfl

/-! ## PACK_NOW -/

theorem packNow_wellFormed (h : l.length ≤ 6) : (Instr.packNow (b :: l)).wellFormed = true :=
  decide_eq_true (Nat.succ_le_succ h)

/-- PACK_NOW in IDLE sets the pending request, and the start of a stroke is tested. -/
theorem State.packNow_idle (ha : s.agenda = []) (hs : (s.chamber c).state = .idle) :
    s.packNow c = (s.setChamber c { s.chamber c with pending := true }).handing [.strokeTest c] := by
  unfold State.packNow
  dsimp only
  rw [hs]
  exact State.postNext_of_nil (by exact ha) _

/-- A chamber whose stroke has started with its flow granted. -/
def Chamber.sweeping (x : Chamber) (k : ChamberSettings) : Chamber :=
  { x with
    state := .sweep, phase := .sweep, phaseTimer := .start k.sweepLimit, quietTimer := .stopped, quieted := false,
    grantFlag := true, pending := false, tipCounter := 0, entered := true }

/-- The stroke of chamber `c`, now `x`, has started with its flow granted at once. -/
def State.strokeStarted (s : State) (c : ChamberId) (x : Chamber) : State :=
  ((s.setChamber c (x.sweeping (s.chamberSettings c))).granted c.consumer (s.chamberSettings c).strokeDemand).driven c.consumer
    (s.chamberSettings c).sweepFns (List.replicate 6 (s.chamberSettings c).sweepLevel) (s.chamberSettings c).ramp

theorem State.strokeStarted_shape (s : State) (c : ChamberId) (x : Chamber) :
    ∃ v y p, s.strokeStarted c x =
      { s.setChamber c (x.sweeping (s.chamberSettings c)) with valves := v, arbiter := y, ports := p } := by
  obtain ⟨y, p, hy, -⟩ := (s.setChamber c (x.sweeping (s.chamberSettings c))).granted_eq c.consumer (s.chamberSettings c).strokeDemand
  unfold State.strokeStarted
  rw [hy]
  obtain ⟨v, q, hv⟩ := State.driven_eq _ c.consumer _ _ _
  exact ⟨v, y, q, hv⟩

theorem State.granted_chamberSettings (s : State) (p : Consumer) (n : Nat) (c : ChamberId) :
    (s.granted p n).chamberSettings c = s.chamberSettings c := by
  unfold State.chamberSettings
  rw [(s.granted_cfg_mgmt p n).1]

theorem State.setChamber_chamberSettings (s : State) (c : ChamberId) (x : Chamber) :
    (s.setChamber c x).chamberSettings c = s.chamberSettings c := rfl

theorem State.strokeStarted_eq :
    s.strokeStarted c x =
      (s.granted c.consumer (s.chamberSettings c).strokeDemand).stroking c (x.sweeping (s.chamberSettings c)) := by
  unfold State.strokeStarted State.stroking
  dsimp only
  rw [State.granted_setChamber, State.granted_chamberSettings]
  rfl

theorem State.calm_strokeStarted : (s.strokeStarted c x).calm ↔ s.calm := by
  obtain ⟨v, y, p, hv⟩ := s.strokeStarted_shape c x
  rw [hv]
  exact .rfl

/-- A claim granted at once enters a phase never entered before (R73, R125). -/
theorem State.claimStroke_first (h : s.calm) (hx : x = s.chamber c) (he : x.entered = false) (hp : x.phase.toState.isPhase = true)
    (hf : s.fits c.consumer (s.chamberSettings c).strokeDemand) :
    s.claimStroke c =
      ((s.granted c.consumer (s.chamberSettings c).strokeDemand).stroking c { x with
        state := x.phase.toState, phaseTimer := .start (phaseLimit (s.chamberSettings c) x.phase), quietTimer := .stopped,
        grantFlag := true, entered := true }).handing [.phaseTest c] := by
  have hcalm := (State.calm_granted c.consumer (s.chamberSettings c).strokeDemand).2 h
  unfold State.claimStroke
  rw [State.claim_at_once h.disarmed hf]
  dsimp only
  rw [State.granted_chamber, ← hx,
    State.enterPhase_first (x := { x with grantFlag := true }) (by exact hcalm.disarmed) (State.setChamber_chamber _ _ _).symm he hp,
    State.stroking_setChamber, State.postNext_of_nil (State.calm_stroking.2 hcalm).1, State.setChamber_chamberSettings,
    State.granted_chamberSettings]

/-- The stroke starts: its flow is granted at once and SWEEP entered (R73, R124). -/
theorem State.strokeTest_starts (h : s.calm) (hx : x = s.chamber c) (hi : x.state = .idle) (hp : x.pending = true)
    (hg : s.given c.packPermit = true) (hq : s.quietRaised = false) (hw : s.watch.isHeld = false)
    (hf : s.fits c.consumer (s.chamberSettings c).strokeDemand) :
    s.strokeTest c = (s.strokeStarted c x).handing [.phaseTest c] := by
  subst hx
  have hstart : s.strokeTest c = (s.setChamber c { s.chamber c with
      pending := false, tipCounter := 0, phase := .sweep, quieted := false, entered := false }).claimStroke c :=
    if_pos ⟨hi, hp, hg, ne_true_of_eq_false hq, ne_true_of_eq_false hw⟩
  rw [hstart, State.claimStroke_first (by exact h) (State.setChamber_chamber _ _ _).symm rfl rfl (by exact hf),
    State.granted_setChamber, State.stroking_setChamber, State.strokeStarted_eq]
  rfl

/-- A stroke just started and short of the sweep end finds nothing to do, after pages too (R125). -/
theorem State.phaseTest_strokeStarted {t : State} (hb : ∀ b, s.roleValue c.bladeRole = some b → b < (s.chamberSettings c).sweepEnd)
    (hq : s.quietRaised = false) (h : (s.strokeStarted c x).AfterPages t) : handle (.phaseTest c) t = t := by
  obtain ⟨p, m, rfl, -⟩ := h.shape
  obtain ⟨v, y, q, hv⟩ := s.strokeStarted_shape c x
  rw [hv]
  have hstate : ((s.setChamber c (x.sweeping (s.chamberSettings c))).chamber c).state = .sweep := by
    rw [State.setChamber_chamber]
    rfl
  refine State.phaseEntered_unended (State.testPhase_unended ?_ ?_ ?_) hq
  · rintro - ⟨b, hread, hswept⟩
    exact absurd (hb b hread) (not_lt.2 hswept)
  · exact fun hpack => nomatch hstate.symm.trans hpack
  · exact fun hret => nomatch hstate.symm.trans hret

/-- After pages too the stroke starts and is then tested for nothing. -/
theorem State.strokeTest_acts (h : s.calm) (hx : x = s.chamber c) (hi : x.state = .idle) (hp : x.pending = true)
    (hg : s.given c.packPermit = true) (hq : s.quietRaised = false) (hw : s.watch.isHeld = false)
    (hf : s.fits c.consumer (s.chamberSettings c).strokeDemand)
    (hb : ∀ b, s.roleValue c.bladeRole = some b → b < (s.chamberSettings c).sweepEnd) (u : State) (hu : s.AfterPages u) :
    handle (.strokeTest c) u = (u.strokeStarted c x).handing [.phaseTest c] ∧ (u.strokeStarted c x).calm ∧
      ∀ t, (u.strokeStarted c x).AfterPages t → handle (.phaseTest c) t = t := by
  have hcalm := hu.calm h
  have hsettings := hu.chamberSettings_eq c
  have hquiet := hu.quietRaised_eq.trans hq
  refine ⟨State.strokeTest_starts hcalm (hx.trans (hu.chamber_eq c).symm) hi hp ((hu.given_eq _).trans hg) hquiet
    ((congrArg Watch.isHeld hu.watch_eq).trans hw) ?_, State.calm_strokeStarted.2 hcalm,
    fun t ht => State.phaseTest_strokeStarted ?_ hquiet ht⟩
  · rwa [hsettings, State.fits, hu.arbiter_eq]
  · rwa [hsettings, hu.roleValue_eq]

end

/-- Settles O42: the start of the stroke is tested behind the pending request, and behind its start the phase
(`State.finish_handing_acts`), which finds nothing to do. -/
theorem packNowStartsTheStroke : Obligations.PackNowStartsTheStroke := by
  unfold Obligations.PackNowStartsTheStroke
  intro s c b l hs hw hl hb hi
  have hrun : exec (.packNow (b :: l)) s =
      .next ((s.setChamber c { s.chamber c with pending := true }).handing [.strokeTest c]).finish := by
    rw [exec_packNow, run_wellFormed (packNow_wellFormed hl), State.unlessHeld_of_free hw, State.toChamber_of_number hb,
      State.packNow_idle hs.1 hi]
  refine ⟨fun hg => ⟨_, hrun, ?_⟩, fun hg hq hf hblade => ?_⟩
  · refine State.finish_handing_unheard (by exact hs) fun v hv => ?_
    obtain ⟨p, m, rfl, -⟩ := hv.shape
    exact State.strokeTest_of_noPermit hg
  · obtain ⟨u, hu, hend⟩ := State.finish_handing_acts (by exact hs) (State.strokeTest_acts (by exact hs)
      (State.setChamber_chamber s c { s.chamber c with pending := true }).symm hi rfl hg (State.quietRaised_iff.2 hq) hw hf hblade)
    obtain ⟨p, m, rfl, -⟩ := hu.shape
    exact ⟨_, _, hrun, hu, hend⟩

end Sys2Proof.Machine
end

section
/-! The statements on RELEASE (R147, R148) and on IDENTIFY and EXAMINE (R146, R147, R161, R163). -/

namespace Sys2Proof.Machine

/-! ## What a RELEASE frees (R148) -/

/-- The counter runs through 4294967295 numbers: the modulus of `covered` and the run that ends at `n` name the same of them. -/
theorem covered_iff_run {n m : Nat} (hn : n ≤ 4294967295) (hm : 1 ≤ m ∧ m ≤ 4294967295) :
    covered n m = true ↔ n ≠ 0 ∧ ∃ k : Nat, k ≤ 2147483647 ∧ ((n : Int) - 1 - k) % 4294967295 + 1 = m := by
  have hrun : (n + 4294967295 - m) % 4294967295 ≤ 2147483647 ↔
      ∃ k : Nat, k ≤ 2147483647 ∧ ((n : Int) - 1 - k) % 4294967295 + 1 = m :=
    ⟨fun h => ⟨_, h, by omega⟩, fun ⟨k, hk, e⟩ => by omega⟩
  simp only [covered, Bool.and_eq_true, decide_eq_true_iff, hrun]

/-- RELEASE frees the CLOSED and covered records up to the first that is not both. -/
theorem releaseSplit_append {n : Nat} {freed kept : List LogRecord}
    (hf : ∀ r ∈ freed, r.closed = true ∧ covered n r.seq = true)
    (hk : ∀ r l, kept = r :: l → ¬ (r.closed = true ∧ covered n r.seq = true)) :
    releaseSplit n (freed ++ kept) = (freed, kept) := by
  induction freed with
  | nil =>
    cases kept with
    | nil => rfl
    | cons r l => exact if_neg (mt Bool.and_eq_true_iff.1 (hk r l rfl))
  | cons r freed ih =>
    have hr : (r.closed && covered n r.seq) = true := Bool.and_eq_true_iff.2 (hf r List.mem_cons_self)
    rw [List.cons_append, releaseSplit, if_pos hr, ih fun x hx => hf x (List.mem_cons_of_mem _ hx)]

theorem LiftLog.release_eq {l : LiftLog} {n : Nat} {freed kept : List LogRecord} (h : releaseSplit n l.records = (freed, kept)) :
    l.release n =
      ({ l with records := kept, pointer := l.pointer - freed.length }, (freed.getLast?.map LogRecord.seq).getD 0) := by
  unfold LiftLog.release
  rw [h]
  dsimp only
  cases freed.getLast? <;> rfl

section
variable {s : State} {q : Request} {l : LiftLog} {n : Nat}

theorem State.manage_release (hi : s.mgmt.inProgress = none) (h : s.log.release q.value.toNat = (l, n)) :
    s.manage .release q = ((s.setLog l).taking .release q).answer .release statusOk q (BitVec.ofNat 32 n) := by
  rw [State.manage_operates hi (State.judgeRequest_of_level (op := .release) nofun nofun nofun rfl)]
  show (s.taking .release q).doRelease q = _
  unfold State.doRelease
  rw [show (s.taking .release q).log.release q.valueN = (l, n) from h]
  rfl

end

/-- Settles O53: the Log splits where the statement says (`releaseSplit_append`, `covered_iff_run`), and the reply follows. -/
theorem releaseFreesTheCoveredRecords : Obligations.ReleaseFreesTheCoveredRecords := by
  unfold Obligations.ReleaseFreesTheCoveredRecords
  intro s q freed kept cov hs hi hcov hseq hsplit hfreed hkept
  have hcovered : ∀ r ∈ s.log.records, (covered q.value.toNat r.seq = true ↔ cov r.seq) := fun r hr => by
    have hv : q.value ≠ 0 ↔ q.value.toNat ≠ 0 := by rw [Ne, ← BitVec.toNat_inj]; rfl
    rw [hcov, hv, covered_iff_run (by have := q.value.isLt; omega) (hseq r hr)]
  rw [hsplit] at hcovered
  have hreleased := releaseSplit_append (n := q.value.toNat) (freed := freed) (kept := kept)
    (fun r hr => ⟨(hfreed r hr).1, (hcovered r (List.mem_append_left _ hr)).2 (hfreed r hr).2⟩)
    fun r l e h => hkept r l e ⟨h.1, (hcovered r (by simp [e])).1 h.2⟩
  rw [← hsplit] at hreleased
  obtain ⟨t, ht, hreply⟩ := run_afterReply (c := .release q) rfl (State.manage_release hi (LiftLog.release_eq hreleased)) hs.1
    hs.unwatched hi (.inl nofun)
  exact ⟨t, ht, hreply⟩

/-! ## IDENTIFY and EXAMINE -/

section
variable {s : State} {q : Request} {w : Word} {n m : Nat}

/-- A refusal with NO_SUCH carries all ones, whatever the operation (R161). -/
theorem State.refuse_noSuch {op : MgmtOp} : s.refuse op q statusNoSuch = s.answer op statusNoSuch q 0xFFFFFFFF :=
  State.refuse_eq State.refusedValue_noSuch

/-- The capability record of a table is answered with the index of the next, 0x00FF after the last (R163). -/
theorem State.manage_identify (hi : s.mgmt.inProgress = none) (h : tableSizes[q.index.toNat]? = some (n, m)) :
    s.manage .identify q =
      (s.taking .identify q).answer .identify statusOk { q with index := if q.index = 14 then 255 else q.index + 1 }
        (BitVec.ofNat 32 (q.index.toNat * 2 ^ 24 + n * 2 ^ 8 + m)) := by
  have hnext : BitVec.ofNat 16 (if q.indexN = 14 then 0x00FF else q.indexN + 1) = if q.index = 14 then 255 else q.index + 1 := by
    have h14 : q.index = 14 ↔ q.indexN = 14 := by rw [← BitVec.toNat_inj]; rfl
    simp only [h14]
    split
    · rfl
    · simp [Request.indexN, BitVec.ofNat_add]
  rw [State.manage_operates hi (State.judgeRequest_of_level (op := .identify) nofun nofun nofun rfl)]
  show (s.taking .identify q).doIdentify q = _
  unfold State.doIdentify
  rw [show tableSizes[q.indexN]? = _ from h]
  dsimp only
  rw [hnext]
  rfl

theorem State.manage_identify_noSuch (hi : s.mgmt.inProgress = none) (h : 15 ≤ q.index.toNat) :
    s.manage .identify q = (s.taking .identify q).answer .identify statusNoSuch q 0xFFFFFFFF := by
  rw [State.manage_operates hi (State.judgeRequest_of_level (op := .identify) nofun nofun nofun rfl)]
  show (s.taking .identify q).doIdentify q = _
  unfold State.doIdentify
  rw [show tableSizes[q.indexN]? = none from List.getElem?_eq_none h]
  exact State.refuse_noSuch

/-- There is no table above 14. -/
theorem State.readWord_of_large {table : Nat} (h : 14 < table) (i w : Nat) : s.readWord table i w = none := by
  unfold State.readWord
  split
  case h_16 => rfl
  all_goals omega

theorem State.manage_examine (hi : s.mgmt.inProgress = none) (h : s.readWord q.table q.index.toNat q.word = some w) :
    s.manage .examine q = ((s.setLog (s.log.afterRead q)).taking .examine q).answer .examine statusOk q w := by
  have hj : s.judgeRequest .examine q = none := by
    unfold State.judgeRequest
    dsimp only
    rw [if_neg fun k => by rw [State.readWord_of_large k.2] at h; cases h]
    rfl
  rw [State.manage_operates hi hj]
  show (s.taking .examine q).doExamine q = _
  unfold State.doExamine
  rw [show (s.taking .examine q).readWord q.table q.indexN q.word = some w from h]
  rfl

theorem State.manage_examine_noSuch (hi : s.mgmt.inProgress = none) (h : s.readWord q.table q.index.toNat q.word = none) :
    s.manage .examine q = (s.taking .examine q).answer .examine statusNoSuch q 0xFFFFFFFF := by
  by_cases ht : 14 < q.table
  · rw [State.manage_judged (status := statusNoSuch) hi (if_pos ⟨.inl rfl, ht⟩)]
    exact State.refuse_noSuch
  · have hj : s.judgeRequest .examine q = none := by
      unfold State.judgeRequest
      dsimp only
      rw [if_neg fun k => ht k.2]
      rfl
    rw [State.manage_operates hi hj]
    show (s.taking .examine q).doExamine q = _
    unfold State.doExamine
    rw [show (s.taking .examine q).readWord q.table q.indexN q.word = none from h]
    exact State.refuse_noSuch

/-- Reading moves the read pointer alone, and only by word 11 of a CLOSED record there (R147). -/
theorem LiftLog.afterRead_eq (l : LiftLog) (q : Request) :
    ∃ pointer, l.afterRead q = { l with pointer } ∧
      ((∃ r, l.records[l.pointer]? = some r ∧ r.closed = true) ∧ q.table = 11 ∧ q.index = 0xFFFF ∧ q.word = 11 →
        pointer = l.pointer + 1) ∧
      ((∀ r, l.records[l.pointer]? = some r → r.closed = false) ∨ q.table ≠ 11 ∨ q.index ≠ 0xFFFF ∨ q.word ≠ 11 →
        pointer = l.pointer) := by
  have hindex : q.index = 0xFFFF ↔ q.indexN = 0xFFFF := by rw [← BitVec.toNat_inj]; rfl
  rw [Ne, hindex]
  unfold LiftLog.afterRead
  repeat' split
  case h_1.isTrue hword r hr hclosed => exact ⟨_, rfl, fun _ => rfl, fun h => by simp_all⟩
  all_goals exact ⟨_, rfl, fun h => by simp_all, fun _ => rfl⟩

end

/-- Settles O51: each request answers what its operation gives (`State.manage_identify` and its like); no status page shows the
read pointer, so the reply comes first. -/
theorem identifyAndExamine : Obligations.IdentifyAndExamine := by
  unfold Obligations.IdentifyAndExamine
  intro s q hs hi
  have ha := hs.1.1
  have hw := hs.1.unwatched
  have hn := hs.2
  refine ⟨fun n w h => ?_, fun h => ?_, fun w h => ?_, fun h => ?_⟩
  · obtain ⟨t, ht, hpages⟩ := run_replied (c := .identify q) rfl (State.manage_identify hi h) ha hw hn hi (.inl nofun)
    exact ⟨t, ht, hpages⟩
  · obtain ⟨t, ht, hpages⟩ := run_replied (c := .identify q) rfl (State.manage_identify_noSuch hi h) ha hw hn hi (.inl nofun)
    exact ⟨t, ht, hpages⟩
  · obtain ⟨pointer, hread, hmoves, hstays⟩ := s.log.afterRead_eq q
    have hset : (s.setLog { s.log with pointer }).settled := hs.congr rfl rfl rfl rfl
    have hexamine := State.manage_examine hi h
    rw [hread] at hexamine
    obtain ⟨t, ht, hpages⟩ := run_replied (c := .examine q) rfl hexamine hset.1.1 hset.1.unwatched hset.2 hi (.inl nofun)
    exact ⟨t, pointer, ht, hpages, hmoves, hstays⟩
  · obtain ⟨t, ht, hpages⟩ := run_replied (c := .examine q) rfl (State.manage_examine_noSuch hi h) ha hw hn hi (.inl nofun)
    exact ⟨t, ht, hpages⟩

end Sys2Proof.Machine
end

section
/-! The statement on CLOSED records (R138, R142, R148, R150), with what every operation does to the Lift Log: most leave it as it is
(`…_log`), the others place records at its end or enter in OPEN ones, so that a CLOSED record stands (`…_stands`). -/

namespace Sys2Proof.Machine

section
variable (s : State)

/-! ## What leaves the Log as it is: free orders and marks -/

@[simp] theorem State.resetReplyLeft_log : s.resetReplyLeft.log = s.log := rfl
@[simp] theorem State.eitherFirst_log : s.eitherFirst.1.log = s.log := rfl

@[simp] theorem State.permuted_log {α : Type} (n : Nat) (l : List α) : (State.permuted n l s).1.log = s.log := by
  obtain ⟨-, k, hk⟩ := State.permuted_spec n l s
  rw [hk]

@[simp] theorem State.inAnyOrder_log {α : Type} (l : List α) : (s.inAnyOrder l).1.log = s.log := State.permuted_log s _ l
@[simp] theorem State.putAnywhere_log {α : Type} (x : α) (l : List α) : (s.putAnywhere x l).1.log = s.log := by cases l <;> rfl
@[simp] theorem State.postAnyOrder_log (es : List Ev) : (s.postAnyOrder es).log = s.log := by simp [State.postAnyOrder]

/-! ## Ports and Frame Watch -/

@[simp] theorem State.noteLeft_log (l : List QFrame) : (s.noteLeft l).log = s.log := by unfold State.noteLeft; split <;> simp
@[simp] theorem State.offerQueue_log (p : PortId) (q : QFrame) : (s.offerQueue p q).log = s.log := by simp [State.offerQueue]

@[simp] theorem State.offerSlot_log (p : PortId) (n : Nat) (f : Frame) : (s.offerSlot p n f).log = s.log := by
  simp [State.offerSlot]

@[simp] theorem State.restartPort_log (p : PortId) : (s.restartPort p).log = s.log := by simp [State.restartPort]

@[simp] theorem State.forwardFrame_log (p : PortId) (cls : Nat) (f : Frame) :
    (s.forwardFrame p cls f).log = s.log := by
  unfold State.forwardFrame; dsimp only; split <;> simp

@[simp] theorem State.mirrorReport_log (i : Nat) (own : Bool) (p : PortId) (f : Frame) :
    (s.mirrorReport i own p f).log = s.log := by
  unfold State.mirrorReport; dsimp only; split <;> simp

theorem State.mirrors_log (own : Bool) (p : PortId) (f : Frame) (l : List Nat) :
    (l.foldl (fun s i => s.mirrorReport i own p f) s).log = s.log := by
  induction l generalizing s with
  | nil => rfl
  | cons i r ih => simp [ih]

@[simp] theorem State.watchTest_log (r : Option PortId) (p : PortId) (f : Frame) :
    (s.watchTest r p f).1.log = s.log := by
  unfold State.watchTest; dsimp only
  split
  · simp [State.mirrors_log]
  · split <;> simp [State.mirrors_log]

@[simp] theorem State.enterHeld_log (i : Nat) : (s.enterHeld i).log = s.log := by simp [State.enterHeld]

@[simp] theorem State.placeOwn_log (d : OwnDest) (f : Frame) : (s.placeOwn d f).log = s.log := by
  cases d <;> simp [State.placeOwn]

@[simp] theorem State.offerOwn_log (d : OwnDest) (f : Frame) : (s.offerOwn d f).log = s.log := by
  have e := s.watchTest_log none d.port f
  unfold State.offerOwn
  generalize s.watchTest none d.port f = x at e
  rcases x with ⟨t, _ | ⟨i, _ | _⟩⟩
  case some.true => dsimp only; split <;> simpa using e
  all_goals simpa using e

/-! ## Valves and supply -/

@[simp] theorem State.placeValveFrame_log (c : Consumer) : (s.placeValveFrame c).log = s.log := by simp [State.placeValveFrame]

@[simp] theorem State.stopGroup_log (c : Consumer) : (s.stopGroup c).log = s.log := by
  unfold State.stopGroup; dsimp only; split <;> simp

@[simp] theorem State.driveGroup_log (c : Consumer) : (s.driveGroup c).log = s.log := rfl

@[simp] theorem State.setTargets_log (c : Consumer) (set : FnSet) (l : List Nat) (ramp : Nat) :
    (s.setTargets c set l ramp).log = s.log := by
  unfold State.setTargets; dsimp only; repeat' split
  all_goals simp

@[simp] theorem State.tickGroup_log (c : Consumer) : (s.tickGroup c).log = s.log := by
  unfold State.tickGroup; dsimp only; split <;> simp

@[simp] theorem State.stillFrame_log (c : Consumer) : (s.stillFrame c).log = s.log := by
  unfold State.stillFrame; repeat' split
  all_goals simp

@[simp] theorem State.offerHighIdle_log (on : Bool) : (s.offerHighIdle on).log = s.log := by simp [State.offerHighIdle]

@[simp] theorem State.judgeHighIdle_log : s.judgeHighIdle.log = s.log := by
  unfold State.judgeHighIdle; dsimp only; split <;> simp

@[simp] theorem State.claim_log (c : Consumer) (d : Nat) : (s.claim c d).1.log = s.log := by simp [State.claim]
@[simp] theorem State.claimNone_log (c : Consumer) : (s.claimNone c).log = s.log := by simp [State.claimNone]

@[simp] theorem State.putCapacity_log (n : Nat) : (s.putCapacity n).log = s.log := by
  unfold State.putCapacity; dsimp only; split <;> simp

/-! ## Signals -/

@[simp] theorem State.evaluateOn_log (l : List Nat) : (s.evaluateOn l).log = s.log := rfl
@[simp] theorem State.takeSignals_log (i : Nat) (f : Frame) : (s.takeSignals i f).log = s.log := rfl

/-! ## Log and bins -/

@[simp] theorem State.setRequest_log (a : ArmId) (q : DecisionRequest) : (s.setRequest a q).log = s.log := rfl
@[simp] theorem State.dropLastTag_log (a : ArmId) : (s.dropLastTag a).log = s.log := rfl
@[simp] theorem State.withdrawRequest_log (a : ArmId) : (s.withdrawRequest a).log = s.log := rfl

@[simp] theorem State.serveClose_log (t n : Nat) (b : Bool) : (s.serveClose t n b).log = s.log := by
  unfold State.serveClose; split <;> rfl

@[simp] theorem State.closeBin_log (t n : Nat) (b : Bool) : (s.closeBin t n b).log = s.log := by
  unfold State.closeBin; split
  · rfl
  · exact State.serveClose_log s t n b

@[simp] theorem State.serveLookups_log : s.serveLookups.log = s.log := by
  unfold State.serveLookups
  rw [State.postAnyOrder_log]
  rfl

/-! ## Weighing -/

@[simp] theorem State.putWeigh_log (a : ArmId) (u : WeighUnit) : (s.putWeigh a u).log = s.log := by
  unfold State.putWeigh; dsimp only; split <;> simp

@[simp] theorem State.openWindow_log (a : ArmId) (k : WeighState) (n : Nat) : (s.openWindow a k n).log = s.log := by
  simp [State.openWindow]

@[simp] theorem State.collectGross_log (a : ArmId) (n : Nat) : (s.collectGross a n).log = s.log := by
  unfold State.collectGross; split <;> simp

@[simp] theorem State.collectTare_log (a : ArmId) (n : Nat) : (s.collectTare a n).log = s.log := by
  unfold State.collectTare; split <;> simp

@[simp] theorem State.stallWindow_log (a : ArmId) : (s.stallWindow a).log = s.log := by
  unfold State.stallWindow; dsimp only; split <;> simp

@[simp] theorem State.weighToIdle_log (a : ArmId) : (s.weighToIdle a).log = s.log := by simp [State.weighToIdle]
@[simp] theorem State.disturb_log (a : ArmId) : (s.disturb a).log = s.log := by unfold State.disturb; dsimp only; split <;> simp

/-! ## Chambers -/

@[simp] theorem State.setChamberState_log (c : ChamberId) (k : ChamberState) :
    (s.setChamberState c k).log = s.log := by
  unfold State.setChamberState; dsimp only; split <;> simp

@[simp] theorem State.judgeLoad_log (c : ChamberId) : (s.judgeLoad c).log = s.log := by
  unfold State.judgeLoad; dsimp only; repeat' split
  all_goals simp

@[simp] theorem State.addMass_log (c : ChamberId) (n : Nat) : (s.addMass c n).log = s.log := by simp [State.addMass]
@[simp] theorem State.enterPhase_log (c : ChamberId) : (s.enterPhase c).log = s.log := by simp [State.enterPhase]

@[simp] theorem State.nextPhase_log (c : ChamberId) (p : StrokePhase) : (s.nextPhase c p).log = s.log := by
  simp [State.nextPhase]

@[simp] theorem State.claimStroke_log (c : ChamberId) : (s.claimStroke c).log = s.log := by
  have e := s.claim_log c.consumer (s.chamberSettings c).strokeDemand
  unfold State.claimStroke
  generalize s.claim c.consumer _ = x at e
  rcases x with ⟨t, _ | _⟩
  all_goals simpa using e

@[simp] theorem State.strokeTest_log (c : ChamberId) : (s.strokeTest c).log = s.log := by
  unfold State.strokeTest; dsimp only; split <;> simp

@[simp] theorem State.endStroke_log (c : ChamberId) : (s.endStroke c).log = s.log := by simp [State.endStroke]

@[simp] theorem State.endPack_log (c : ChamberId) (b : Bool) : (s.endPack c b).log = s.log := by
  unfold State.endPack; dsimp only; split <;> simp

theorem State.testPhase_log {s t : State} {c : ChamberId} (h : s.testPhase c = some t) : t.log = s.log := by
  unfold State.testPhase at h; dsimp only at h
  repeat' split at h
  all_goals cases h
  all_goals simp

@[simp] theorem State.phaseRole_log (c : ChamberId) : (s.phaseRole c).log = s.log := by
  unfold State.phaseRole
  cases h : s.testPhase c with
  | none => rfl
  | some t => simpa using State.testPhase_log h

@[simp] theorem State.enterQuiet_log (c : ChamberId) : (s.enterQuiet c).log = s.log := by simp [State.enterQuiet]

@[simp] theorem State.quietTest_log (c : ChamberId) : (s.quietTest c).log = s.log := by
  unfold State.quietTest; dsimp only; split <;> simp

@[simp] theorem State.phaseEntered_log (c : ChamberId) : (s.phaseEntered c).log = s.log := by
  unfold State.phaseEntered
  split
  · exact State.testPhase_log ‹_›
  · simp

@[simp] theorem State.quietEvent_log (c : ChamberId) : (s.quietEvent c).log = s.log := by
  unfold State.quietEvent; repeat' split
  all_goals simp

@[simp] theorem State.quietExpired_log (c : ChamberId) : (s.quietExpired c).log = s.log := by
  unfold State.quietExpired; dsimp only; split <;> simp

@[simp] theorem State.autoPackTest_log (c : ChamberId) : (s.autoPackTest c).log = s.log := by
  unfold State.autoPackTest; dsimp only; split <;> simp

@[simp] theorem State.takeTip_log (c : ChamberId) : (s.takeTip c).log = s.log := by simp [State.takeTip]

@[simp] theorem State.ignoreChamberCommand_log (c : ChamberId) : (s.ignoreChamberCommand c).log = s.log := by
  simp [State.ignoreChamberCommand]

@[simp] theorem State.phaseExpired_log (c : ChamberId) : (s.phaseExpired c).log = s.log := by
  unfold State.phaseExpired; dsimp only; split <;> simp

@[simp] theorem State.chamberFaultClear_log (c : ChamberId) : (s.chamberFaultClear c).log = s.log := by
  unfold State.chamberFaultClear; dsimp only; split <;> simp

@[simp] theorem State.resumeStroke_log (c : ChamberId) : (s.resumeStroke c).log = s.log := by
  unfold State.resumeStroke; dsimp only; split <;> simp

@[simp] theorem State.packNow_log (c : ChamberId) : (s.packNow c).log = s.log := by
  unfold State.packNow; dsimp only; repeat' split
  all_goals simp

@[simp] theorem State.suspendStroke_log (c : ChamberId) : (s.suspendStroke c).log = s.log := by simp [State.suspendStroke]
@[simp] theorem State.suspendWaiting_log (c : ChamberId) : (s.suspendWaiting c).log = s.log := by simp [State.suspendWaiting]

@[simp] theorem State.packPermitChange_log (c : ChamberId) : (s.packPermitChange c).log = s.log := by
  unfold State.packPermitChange; dsimp only; repeat' split
  all_goals simp

@[simp] theorem State.chamberGranted_log (c : ChamberId) : (s.chamberGranted c).log = s.log := by
  unfold State.chamberGranted; dsimp only; repeat' split
  all_goals simp

@[simp] theorem State.holdChamber_log (c : ChamberId) : (s.holdChamber c).log = s.log := by
  unfold State.holdChamber; dsimp only; split <;> simp

@[simp] theorem State.chamberHoldEnd_log (c : ChamberId) : (s.chamberHoldEnd c).log = s.log := by
  unfold State.chamberHoldEnd; dsimp only; repeat' split
  all_goals simp

@[simp] theorem State.chamberServiceEnd_log (c : ChamberId) : (s.chamberServiceEnd c).log = s.log := by
  unfold State.chamberServiceEnd; dsimp only; split <;> simp

@[simp] theorem State.refuseDischarge_log (c : ChamberId) (r : DischargeRefusal) :
    (s.refuseDischarge c r).log = s.log := by simp [State.refuseDischarge]

@[simp] theorem State.resetChamber_log (c : ChamberId) : (s.resetChamber c).log = s.log := by simp [State.resetChamber]

/-! ## The lift cycle -/

@[simp] theorem State.setArmState_log (a : ArmId) (k : ArmState) : (s.setArmState a k).log = s.log := by
  unfold State.setArmState; dsimp only; repeat' split
  all_goals simp

@[simp] theorem State.armStop_log (a : ArmId) (k : ArmState) : (s.armStop a k).log = s.log := by simp [State.armStop]
@[simp] theorem State.ignoreArmCommand_log (a : ArmId) : (s.ignoreArmCommand a).log = s.log := by simp [State.ignoreArmCommand]
@[simp] theorem State.badArmCommand_log (a : ArmId) : (s.badArmCommand a).log = s.log := by simp [State.badArmCommand]

@[simp] theorem State.loadStep_log (a : ArmId) (p : Nat) : (s.loadStep a p).log = s.log := by
  unfold State.loadStep; dsimp only; split <;> simp

@[simp] theorem State.refuseStart_log (a : ArmId) (r : ArmRefusal) : (s.refuseStart a r).log = s.log := by
  simp [State.refuseStart]

@[simp] theorem State.admissionFault_log (a : ArmId) : (s.admissionFault a).1.log = s.log := by
  unfold State.admissionFault; dsimp only; repeat' split
  all_goals simp

/-! ## The arms outside a step -/

@[simp] theorem State.manualTargets_log (a : ArmId) : (s.manualTargets a).log = s.log := by simp [State.manualTargets]
@[simp] theorem State.manualGrant_log (a : ArmId) : (s.manualGrant a).log = s.log := by simp [State.manualGrant]

@[simp] theorem State.leaveManual_log (a : ArmId) (k : ArmState) : (s.leaveManual a k).log = s.log := by
  simp [State.leaveManual]

@[simp] theorem State.beginManual_log (a : ArmId) : (s.beginManual a).log = s.log := by
  have e (x : Arm) (d : Nat) : (((s.setArm a x).setArmState a .manual).claim a.consumer d).1.log = s.log := by simp
  unfold State.beginManual; dsimp only
  generalize hx : State.claim _ _ _ = x
  have k : x.1.log = s.log := hx ▸ e _ _
  rcases x with ⟨t, _ | _⟩
  all_goals simpa using k

@[simp] theorem State.enterManual_log (a : ArmId) : (s.enterManual a).log = s.log := by
  unfold State.enterManual; repeat' split
  all_goals simp

@[simp] theorem State.exitManual_log (a : ArmId) : (s.exitManual a).log = s.log := by unfold State.exitManual; split <;> simp
@[simp] theorem State.joyEvent_log (a : ArmId) : (s.joyEvent a).log = s.log := by unfold State.joyEvent; split <;> simp

@[simp] theorem State.pauseCommand_log (a : ArmId) : (s.pauseCommand a).log = s.log := by
  unfold State.pauseCommand; split <;> simp

@[simp] theorem State.armFaultClear_log (a : ArmId) : (s.armFaultClear a).log = s.log := by
  unfold State.armFaultClear; split <;> simp

@[simp] theorem State.manualPermitChange_log (a : ArmId) : (s.manualPermitChange a).log = s.log := by
  unfold State.manualPermitChange; split <;> simp

@[simp] theorem State.fullEvent_log (a : ArmId) : (s.fullEvent a).log = s.log := by unfold State.fullEvent; split <;> simp
@[simp] theorem State.holdArm_log (a : ArmId) : (s.holdArm a).log = s.log := by unfold State.holdArm; dsimp only; split <;> simp

@[simp] theorem State.armServiceEnd_log (a : ArmId) : (s.armServiceEnd a).log = s.log := by
  unfold State.armServiceEnd; dsimp only; repeat' split
  all_goals simp

/-! ## Readers -/

@[simp] theorem State.serviceLeft_log : s.serviceLeft.log = s.log := by unfold State.serviceLeft; dsimp only; split <;> simp

@[simp] theorem State.judgeService_log : s.judgeService.log = s.log := by
  unfold State.judgeService; dsimp only; repeat' split
  all_goals simp

@[simp] theorem State.routeTime_log : s.routeTime.log = s.log := by unfold State.routeTime; split <;> simp

@[simp] theorem State.settleFrom_log (old : State) (l : List Nat) : (State.settleFrom old l s).log = s.log := by
  unfold State.settleFrom; dsimp only
  rw [State.postAll_log]
  split <;> split <;> simp

@[simp] theorem State.signalFrame_log (i : Nat) (f : Frame) : (s.signalFrame i f).log = s.log := by simp [State.signalFrame]

@[simp] theorem State.changeSignal_log (i : Nat) (g : SignalEntry → SignalEntry) :
    (s.changeSignal i g).log = s.log := by simp [State.changeSignal]

@[simp] theorem State.freshnessExpired_log (i : Nat) : (s.freshnessExpired i).log = s.log := by
  unfold State.freshnessExpired; repeat' split
  all_goals simp

@[simp] theorem State.holdExpired_log (i : Nat) : (s.holdExpired i).log = s.log := by
  unfold State.holdExpired; repeat' split
  all_goals simp

@[simp] theorem State.delayExpired_log (g : Nat) : (s.delayExpired g).log = s.log := by
  unfold State.delayExpired; repeat' split
  all_goals simp

/-! ## Router and agenda -/

@[simp] theorem State.dropHeld_log : s.dropHeld.log = s.log := rfl
@[simp] theorem State.countRoute_log (i : Nat) (g : RouteEntry → RouteEntry) : (s.countRoute i g).log = s.log := rfl

@[simp] theorem State.missFrame_log (p : PortId) (f : Frame) : (s.missFrame p f).log = s.log := by
  unfold State.missFrame; dsimp only; split <;> simp

@[simp] theorem State.holdWeighing_log : s.holdWeighing.log = s.log := by simp [State.holdWeighing]
@[simp] theorem State.takeHold_log : s.takeHold.log = s.log := by unfold State.takeHold; dsimp only; split <;> simp
@[simp] theorem State.holdAgain_log : s.holdAgain.log = s.log := by unfold State.holdAgain; split <;> simp
@[simp] theorem State.discardHeld_log : s.discardHeld.log = s.log := rfl

/-! ## Pages -/

@[simp] theorem State.setPage_log (n : Nat) (t : PageTimers) : (s.setPage n t).log = s.log := rfl
@[simp] theorem State.noteAs_log (n : Nat) : (s.noteAs n).log = s.log := rfl
@[simp] theorem State.sendPage_log (n : Nat) : (s.sendPage n).log = s.log := by simp [State.sendPage]

@[simp] theorem State.pageChanged_log (n : Nat) : (s.pageChanged n).log = s.log := by
  unfold State.pageChanged; dsimp only; split <;> simp

@[simp] theorem noteChanges_log (n : Nat) : (noteChanges n s).log = s.log := by
  induction n generalizing s with
  | zero => rfl
  | succ n ih =>
    unfold noteChanges
    split
    · rfl
    · simp [ih]

@[simp] theorem State.notePages_log : s.notePages.log = s.log := noteChanges_log s 32

/-! ## Replies -/

@[simp] theorem State.offerReply_log (b : Bool) (f : Frame) : (s.offerReply b f).log = s.log := State.offerOwn_log s _ f

@[simp] theorem State.reply_log (op : MgmtOp) (n : Nat) (q : Request) (i : BitVec 16) (w : Word) :
    (s.reply op n q i w).log = s.log := State.offerReply_log s _ _

@[simp] theorem State.requestEnds_log : s.requestEnds.log = s.log := rfl

@[simp] theorem State.refusedValue_log (op : MgmtOp) (q : Request) (n : Nat) : (s.refusedValue op q n).1.log = s.log := by
  unfold State.refusedValue; repeat' split
  all_goals rfl

/-! ## The events of an accepted DEPOSIT -/

@[simp] theorem State.configChanged_log (i w : Nat) (old : State) : (s.configChanged i w old).log = s.log := by
  unfold State.configChanged; dsimp only; repeat' split
  all_goals simp

@[simp] theorem State.putSignal_log (i : Nat) (old new : SignalEntry) : (s.putSignal i old new).log = s.log := by
  unfold State.putSignal; dsimp only; split <;> simp

@[simp] theorem State.putTerm_log (i : Nat) (old new : TermEntry) : (s.putTerm i old new).log = s.log := by
  unfold State.putTerm; dsimp only; split
  · rfl
  · simp only [State.settleFrom_log]; rfl

@[simp] theorem State.putGroup_log (i : Nat) (old new : GroupEntry) : (s.putGroup i old new).log = s.log := by
  unfold State.putGroup; dsimp only; split <;> simp

/-! ## Timers and port states -/

@[simp] theorem State.secondPassed_log : s.secondPassed.log = s.log := by unfold State.secondPassed; split <;> simp

@[simp] theorem State.repeatHighIdle_log : s.repeatHighIdle.log = s.log := by
  unfold State.repeatHighIdle; dsimp only; repeat' split
  all_goals simp

@[simp] theorem State.endRunDown_log : s.endRunDown.log = s.log := by
  unfold State.endRunDown; dsimp only; repeat' split
  all_goals simp

@[simp] theorem State.periodExpired_log (p : Nat) : (s.periodExpired p).log = s.log := by
  unfold State.periodExpired; repeat' split
  all_goals simp

@[simp] theorem State.spacingExpired_log (p : Nat) : (s.spacingExpired p).log = s.log := by
  unfold State.spacingExpired; dsimp only; repeat' split
  all_goals simp

@[simp] theorem State.goBusOff_log (p : PortId) : (s.goBusOff p).log = s.log := by
  unfold State.goBusOff; dsimp only; repeat' split
  all_goals simp

@[simp] theorem State.recover_log (p : PortId) : (s.recover p).log = s.log := by unfold State.recover; split <;> simp

@[simp] theorem State.tick_log : s.tick.log = s.log := by
  unfold State.tick
  simp only [State.disturb_log, State.tickGroup_log]

/-- The end of an update of the Bin Table (R88 to R90). -/
@[simp] theorem State.completeUpdate_log : s.completeUpdate.log = s.log := by
  have applied (c : BinChange) : (s.applyUpdate c).log = s.log := rfl
  unfold State.completeUpdate; dsimp only; repeat' split
  all_goals simp [applied]

end

/-! ## A CLOSED record stands (R138, R142) -/

/-- `r` is stored, and CLOSED. -/
def LiftLog.Stands (l : LiftLog) (r : LogRecord) : Prop := r ∈ l.records ∧ r.closed = true

section
variable {s : State} {r : LogRecord}

/-! ## Places and entries -/

@[simp] theorem State.openLift_stands (h : s.log.Stands r) (a : ArmId) (n : Nat) : (s.openLift a n).log.Stands r :=
  h.imp_left (LiftLog.mem_place _)

@[simp] theorem State.placeClosed_stands (h : s.log.Stands r) (x : LogRecord) : (s.placeClosed x).log.Stands r :=
  h.imp_left (LiftLog.mem_place _)

/-- Entries are made in OPEN records alone (R141). -/
@[simp] theorem State.enterRecord_stands (h : s.log.Stands r) (n : Nat) (f : LogRecord → LogRecord) :
    (s.enterRecord n f).log.Stands r := ⟨LiftLog.mem_enter_of_closed n f h.1 h.2, h.2⟩

@[simp] theorem State.writeManualTip_stands (h : s.log.Stands r) (a : ArmId) (t : Option Nat) (b : Option BinData) :
    (s.writeManualTip a t b).log.Stands r := by
  unfold State.writeManualTip; split
  · simp [h]
  · exact h

/-! ## Bins and weighing -/

@[simp] theorem State.decideByTag_stands (h : s.log.Stands r) (a : ArmId) (t : Nat) : (s.decideByTag a t).log.Stands r := by
  simp [State.decideByTag, h]

@[simp] theorem State.decideNoTag_stands (h : s.log.Stands r) (a : ArmId) : (s.decideNoTag a).log.Stands r := by
  simp [State.decideNoTag, h]

@[simp] theorem State.lookUp_stands (h : s.log.Stands r) (a : ArmId) (t : Nat) : (s.lookUp a t).log.Stands r := by
  unfold State.lookUp; dsimp only; split <;> simp [h]

@[simp] theorem State.askDecision_stands (h : s.log.Stands r) (a : ArmId) (n k : Nat) : (s.askDecision a n k).log.Stands r := by
  unfold State.askDecision; dsimp only; split
  · exact State.lookUp_stands (by exact h) a _
  · exact h

@[simp] theorem State.tagTimeLimit_stands (h : s.log.Stands r) (a : ArmId) : (s.tagTimeLimit a).log.Stands r := by
  unfold State.tagTimeLimit; split <;> simp [h]

@[simp] theorem State.tagFrame_stands (h : s.log.Stands r) (a : ArmId) (f : Frame) : (s.tagFrame a f).log.Stands r := by
  unfold State.tagFrame; dsimp only; repeat' split
  case isFalse.isFalse.isTrue => exact State.lookUp_stands (by exact h) a _
  all_goals exact h

@[simp] theorem State.manualTip_stands (h : s.log.Stands r) (a : ArmId) : (s.manualTip a).log.Stands r := by
  unfold State.manualTip State.serveManualTip; dsimp only; repeat' split
  · exact State.writeManualTip_stands h a _ _
  · exact h
  · exact State.writeManualTip_stands (by exact h) a _ _

@[simp] theorem State.serveLookup_stands (h : s.log.Stands r) (w : WaitingLookup) : (s.serveLookup w).log.Stands r := by
  cases w with
  | decision a => simp only [State.serveLookup]; split <;> simp [h]
  | manualTip a t => simp [State.serveLookup, State.serveManualTip, h]
  | closeUpdate t n b => simp [State.serveLookup, h]

@[simp] theorem State.endWindow_stands (h : s.log.Stands r) (a : ArmId) (v u w : Bool) : (s.endWindow a v u w).log.Stands r := by
  unfold State.endWindow; dsimp only; split <;> simp [h]

@[simp] theorem State.sampleFrame_stands (h : s.log.Stands r) (a : ArmId) (f : Frame) : (s.sampleFrame a f).log.Stands r := by
  unfold State.sampleFrame; dsimp only; repeat' split
  case isFalse.isTrue.isTrue => exact State.endWindow_stands (by exact h) a _ _ _
  all_goals exact h

@[simp] theorem State.gapExpired_stands (h : s.log.Stands r) (a : ArmId) : (s.gapExpired a).log.Stands r := by
  unfold State.gapExpired; dsimp only; split
  · exact State.endWindow_stands (by exact h) a _ _ _
  · exact h

@[simp] theorem State.weighTimeLimit_stands (h : s.log.Stands r) (a : ArmId) : (s.weighTimeLimit a).log.Stands r := by
  simp [State.weighTimeLimit, h]

@[simp] theorem State.discharge_stands (h : s.log.Stands r) (c : ChamberId) : (s.discharge c).log.Stands r := by
  unfold State.discharge; repeat' split
  all_goals simp [h]

/-! ## The lift cycle -/

/-- A close is made in an OPEN record (R142). -/
@[simp] theorem State.closeRecord_stands (h : s.log.Stands r) (a : ArmId) (n : Nat) (o : CycleOutcome) :
    (s.closeRecord a n o).log.Stands r := by
  unfold State.closeRecord; dsimp only; repeat' split
  all_goals simp [h]

@[simp] theorem State.cycleEnd_stands (h : s.log.Stands r) (a : ArmId) (o : CycleOutcome) : (s.cycleEnd a o).log.Stands r := by
  unfold State.cycleEnd; dsimp only; split <;> simp [h]

@[simp] theorem State.armFault_stands (h : s.log.Stands r) (a : ArmId) (k : ArmFault) : (s.armFault a k).log.Stands r := by
  unfold State.armFault; split
  · exact State.cycleEnd_stands (by exact h) a _
  · exact h

@[simp] theorem State.tellBlock_stands (h : s.log.Stands r) (a : ArmId) (k : EndKind) : (s.tellBlock a k).log.Stands r := by
  unfold State.tellBlock; repeat' split
  all_goals simp [h]

@[simp] theorem State.enterRunning_stands (h : s.log.Stands r) (a : ArmId) : (s.enterRunning a).log.Stands r := by
  unfold State.enterRunning; dsimp only; repeat' split
  all_goals simp [h]

@[simp] theorem State.claimStep_stands (h : s.log.Stands r) (a : ArmId) : (s.claimStep a).log.Stands r := by
  unfold State.claimStep
  cases s.currentStep a with
  | none => exact h
  | some t =>
    rw [← State.claim_log s a.consumer t.claimed] at h
    dsimp only
    generalize s.claim a.consumer t.claimed = x at h
    rcases x with ⟨u, _ | _⟩
    · exact (State.setArmState_log u a _).symm ▸ h
    · exact State.enterRunning_stands h a

@[simp] theorem State.resumeStep_stands (h : s.log.Stands r) (a : ArmId) : (s.resumeStep a).log.Stands r := by
  unfold State.resumeStep; split <;> simp [h]

@[simp] theorem State.enterStep_stands (h : s.log.Stands r) (a : ArmId) (p : Nat) : (s.enterStep a p).log.Stands r := by
  unfold State.enterStep; dsimp only; split <;> simp [h]

@[simp] theorem State.goTo_stands (h : s.log.Stands r) (a : ArmId) (n p : Nat) : (s.goTo a n p).log.Stands r := by
  unfold State.goTo; dsimp only; repeat' split
  all_goals simp [h]

@[simp] theorem State.markTip_stands (h : s.log.Stands r) (a : ArmId) : (s.markTip a).log.Stands r := by
  unfold State.markTip; dsimp only; split <;> simp [h]

@[simp] theorem State.passOn_stands (h : s.log.Stands r) (a : ArmId) (g : ProgramEntry) (p : Nat) (t : StepEntry) :
    (s.passOn a g p t).log.Stands r := by
  unfold State.passOn State.programDone; dsimp only; repeat' split
  case isFalse.isFalse.isTrue.isTrue | isFalse.isFalse.isTrue.isFalse => exact State.cycleEnd_stands (by exact h) a _
  all_goals exact State.goTo_stands (by exact h) a _ _

@[simp] theorem State.finishStep_stands (h : s.log.Stands r) (a : ArmId) : (s.finishStep a).log.Stands r := by
  unfold State.finishStep; dsimp only; repeat' split
  · exact State.passOn_stands (State.markTip_stands (by exact h) a) a _ _ _
  · exact State.passOn_stands (by exact h) a _ _ _
  · exact h

@[simp] theorem State.stepEnded_stands (h : s.log.Stands r) (a : ArmId) : (s.stepEnded a).log.Stands r := by
  unfold State.stepEnded; split <;> simp [h]

@[simp] theorem State.endEvent_stands (h : s.log.Stands r) (a : ArmId) : (s.endEvent a).log.Stands r := by
  unfold State.endEvent; repeat' split
  all_goals simp [h]

@[simp] theorem State.takeDecision_stands (h : s.log.Stands r) (a : ArmId) (b : Bool) : (s.takeDecision a b).log.Stands r := by
  unfold State.takeDecision; split
  · exact State.endEvent_stands (by exact h) a
  · exact h

@[simp] theorem State.positionTest_stands (h : s.log.Stands r) (a : ArmId) : (s.positionTest a).log.Stands r := by
  unfold State.positionTest; split <;> simp [h]

@[simp] theorem State.stepTimeout_stands (h : s.log.Stands r) (a : ArmId) : (s.stepTimeout a).log.Stands r := by
  unfold State.stepTimeout; dsimp only; repeat' split
  · exact h
  · exact State.armFault_stands (by exact h) a _
  · exact State.endEvent_stands (by exact h) a
  · exact State.armFault_stands (by exact h) a _
  · exact State.endEvent_stands (by exact h) a
  · exact State.tagTimeLimit_stands (by exact h) a
  · exact State.weighTimeLimit_stands (by exact h) a
  · exact State.weighTimeLimit_stands (by exact h) a
  all_goals exact h

@[simp] theorem State.durationRun_stands (h : s.log.Stands r) (a : ArmId) : (s.durationRun a).log.Stands r := by
  unfold State.durationRun; dsimp only; split
  · exact State.endEvent_stands (by exact h) a
  · exact h

@[simp] theorem State.admitCycle_stands (h : s.log.Stands r) (a : ArmId) (n p : Nat) (b : Bool) :
    (s.admitCycle a n p b).log.Stands r := by
  have opened : (s.openCycle a n p b).log.Stands r := by simp [State.openCycle, h]
  rw [← State.admissionFault_log (s.openCycle a n p b) a] at opened
  unfold State.admitCycle
  generalize (s.openCycle a n p b).admissionFault a = x at opened
  rcases x with ⟨u, _ | k⟩
  · exact State.enterStep_stands opened a 1
  · exact State.armFault_stands opened a k

@[simp] theorem State.tryStart_stands (h : s.log.Stands r) (a : ArmId) (n : Nat) (b : Bool) : (s.tryStart a n b).log.Stands r := by
  unfold State.tryStart; split <;> simp [h]

/-! ## The arms outside a step -/

@[simp] theorem State.positionEvent_stands (h : s.log.Stands r) (a : ArmId) : (s.positionEvent a).log.Stands r := by
  unfold State.positionEvent; dsimp only; repeat' split
  case h_1.isTrue => exact State.armFault_stands h a _
  case h_2.isTrue.isTrue => exact State.manualTip_stands (by exact h) a
  all_goals exact h

@[simp] theorem State.startCommand_stands (h : s.log.Stands r) (a : ArmId) (l : List Byte) : (s.startCommand a l).log.Stands r := by
  unfold State.startCommand; repeat' split
  all_goals simp [h]

@[simp] theorem State.continueCommand_stands (h : s.log.Stands r) (a : ArmId) : (s.continueCommand a).log.Stands r := by
  unfold State.continueCommand; split
  · exact State.resumeStep_stands (by exact h) a
  · exact (State.ignoreArmCommand_log s a).symm ▸ h

@[simp] theorem State.abortCommand_stands (h : s.log.Stands r) (a : ArmId) : (s.abortCommand a).log.Stands r := by
  unfold State.abortCommand; split <;> simp [h]

@[simp] theorem State.armFrame_stands (h : s.log.Stands r) (a : ArmId) (f : Frame) : (s.armFrame a f).log.Stands r := by
  unfold State.armFrame; repeat' split
  all_goals simp [h]

@[simp] theorem State.guardChange_stands (h : s.log.Stands r) (a : ArmId) : (s.guardChange a).log.Stands r := by
  unfold State.guardChange; repeat' split
  all_goals simp [h]

@[simp] theorem State.armGranted_stands (h : s.log.Stands r) (a : ArmId) : (s.armGranted a).log.Stands r := by
  unfold State.armGranted; dsimp only; repeat' split
  all_goals simp [h]

@[simp] theorem State.bodyPortOff_stands (h : s.log.Stands r) (a : ArmId) : (s.bodyPortOff a).log.Stands r := by
  unfold State.bodyPortOff; dsimp only; repeat' split
  all_goals simp [h]

@[simp] theorem State.armHoldEnd_stands (h : s.log.Stands r) (a : ArmId) : (s.armHoldEnd a).log.Stands r := by
  unfold State.armHoldEnd; dsimp only; repeat' split
  case h_1.isTrue | h_2.isFalse.isTrue => exact State.enterRunning_stands (by exact h) a
  case h_3 => exact State.resumeStep_stands (by exact h) a
  all_goals simp [h]

/-! ## Readers, consumers and hand-overs -/

@[simp] theorem State.groupReader_stands (h : s.log.Stands r) (k : RoleGroup) : (s.groupReader k).log.Stands r := by
  cases k <;> simp [State.groupReader, h]

@[simp] theorem State.roleReader_stands (h : s.log.Stands r) (k : Role) : (s.roleReader k).log.Stands r := by
  cases k <;> simp [State.roleReader, h]

theorem State.toChamber_stands (h : s.log.Stands r) (args : List Byte) {f : State → ChamberId → State}
    (hf : ∀ c, (f s c).log.Stands r) : (s.toChamber args f).log.Stands r := by
  unfold State.toChamber; split
  · exact h
  · exact hf _

@[simp] theorem State.chamberFrame_stands (h : s.log.Stands r) (f : Frame) : (s.chamberFrame f).log.Stands r := by
  unfold State.chamberFrame; repeat' split
  · exact h
  · exact State.toChamber_stands h _ fun c => by simp [h]
  · exact State.toChamber_stands h _ fun c => State.discharge_stands h c
  · exact State.toChamber_stands h _ fun c => by simp [h]
  · exact h

@[simp] theorem State.deliver_stands (h : s.log.Stands r) (i : Nat) (c : RouteConsumer) (f : Frame) :
    (s.deliver i c f).log.Stands r := by
  cases c <;> simp [State.deliver, h]

@[simp] theorem State.forwardAndDeliver_stands (h : s.log.Stands r) (i : Nat) (e : RouteEntry) (p : PortId) (f : Frame) :
    (s.forwardAndDeliver i e p f).log.Stands r := by
  obtain ⟨t, ht, k | ⟨-, k⟩⟩ := s.forwardAndDeliver_spec i e p f
  all_goals
    have ht' : t.log.Stands r := by rw [ht]; exact h
    rw [k]
    simp [ht']

@[simp] theorem State.routeAction_stands (h : s.log.Stands r) (held : Bool) (i : Nat) (e : RouteEntry) (p : PortId) (f : Frame) :
    (s.routeAction held i e p f).log.Stands r := by
  unfold State.routeAction; repeat' split
  all_goals simp [h]

@[simp] theorem State.routeFrame_stands (h : s.log.Stands r) (held : Bool) (p : PortId) (f : Frame) :
    (s.routeFrame held p f).log.Stands r := by
  unfold State.routeFrame; repeat' split
  · simp [h]
  · exact h
  · exact State.routeAction_stands (by exact h) _ _ _ _ _

@[simp] theorem State.settleHeld_stands (h : s.log.Stands r) (b : Bool) (f : HeldFrame) : (s.settleHeld b f).log.Stands r := by
  unfold State.settleHeld; repeat' split
  all_goals simp [h]

@[simp] theorem State.unlessHeldAnew_stands (h : s.log.Stands r) {t : State} (ht : t.log.Stands r) :
    (s.unlessHeldAnew t).log.Stands r := by
  unfold State.unlessHeldAnew; split
  · exact h
  · exact ht

theorem handle_stands (h : s.log.Stands r) (e : Ev) : (handle e s).log.Stands r := by
  cases e <;> simp [handle, h]

theorem drain_stands (h : s.log.Stands r) (n : Nat) : (drain n s).log.Stands r := by
  induction n generalizing s with
  | zero => exact h
  | succ n ih =>
    unfold drain
    split
    · exact h
    · refine ih ?_
      rw [State.takeHead, State.notePages_log, State.postAll_log]
      exact handle_stands (by exact h) _

/-- A CLOSED record stands through the hand-overs and the pages that follow a command. -/
@[simp] theorem State.finish_stands (h : s.log.Stands r) : s.finish.log.Stands r :=
  drain_stands (by rwa [State.notePages_log]) _

/-! ## Requests but RELEASE -/

theorem State.answer_stands (h : s.log.Stands r) (op : MgmtOp) (n : Nat) (q : Request) (w : Word) :
    (s.answer op n q w).log.Stands r := by
  unfold State.answer
  rw [State.requestEnds_log, State.reply_log]
  exact State.finish_stands h

theorem State.refuse_stands (h : s.log.Stands r) (op : MgmtOp) (q : Request) (n : Nat) : (s.refuse op q n).log.Stands r :=
  State.answer_stands ((State.refusedValue_log s op q n).symm ▸ h) op n q _

/-- An accepted DEPOSIT leaves the Log: its words are read only (R146). -/
theorem State.depositWord_log {q : Request} {t : State × Bool} (ht : s.depositWord q = .ok t) : t.1.log = s.log := by
  have entry {α : Type} {l : List α} {i : Nat} {f : α → Except Nat (α × Bool)} {put : α → α → State}
      (hw : writeEntry l i f put = .ok t) (hput : ∀ old new, (put old new).log = s.log) : t.1.log = s.log := by
    obtain ⟨old, new, e⟩ := writeEntry_put hw
    rw [e]
    exact hput old new
  unfold State.depositWord at ht
  dsimp only at ht
  split at ht
  · obtain ⟨x, rfl⟩ := exceptMap_ok ht
    exact State.configChanged_log _ _ _ _
  · exact entry ht fun _ _ => rfl
  · exact entry ht fun _ _ => State.putSignal_log s _ _ _
  · exact entry ht fun _ _ => State.putTerm_log s _ _ _
  · split at ht
    · cases ht
    · exact entry ht fun _ _ => State.putGroup_log s _ _ _
  · exact entry (liveWhenCleared_ok ht) fun _ _ => rfl
  · exact entry (liveWhenCleared_ok ht) fun _ _ => rfl
  · unfold State.writeSelect taken inRange at ht
    repeat' split at ht
    all_goals cases ht
    all_goals rfl
  · unfold State.writeStaging at ht
    split at ht
    · obtain ⟨x, rfl⟩ := exceptMap_ok ht
      rfl
    · cases ht
  · obtain ⟨x, rfl⟩ := exceptMap_ok ht
    rfl
  · exact entry ht fun _ _ => rfl
  · exact entry ht fun _ _ => rfl
  · cases ht

/-- The Log is none of the tables that CLEAR is accepted for (R163). -/
theorem State.clearTable_log {n : Nat} {t : State} (ht : s.clearTable n = .ok t) : t.log = s.log := by
  unfold State.clearTable at ht
  repeat' split at ht
  all_goals cases ht
  case h_2 | h_3 | h_4 => exact State.settleFrom_log _ _ _
  all_goals rfl

theorem State.doIdentify_stands (h : s.log.Stands r) (q : Request) : (s.doIdentify q).log.Stands r := by
  unfold State.doIdentify
  split
  · exact State.refuse_stands h _ _ _
  · simp [h]

/-- Reading moves the pointer alone (R147). -/
theorem State.doExamine_stands (h : s.log.Stands r) (q : Request) : (s.doExamine q).log.Stands r := by
  unfold State.doExamine
  split
  · exact State.refuse_stands h _ _ _
  · obtain ⟨pointer, hread, -⟩ := s.log.afterRead_eq q
    rw [hread]
    exact State.answer_stands (by exact h) _ _ _ _

theorem State.doDeposit_stands (h : s.log.Stands r) (q : Request) : (s.doDeposit q).log.Stands r := by
  unfold State.doDeposit
  split
  · exact State.refuse_stands h _ _ _
  · next ht => exact State.answer_stands ((State.depositWord_log ht).symm ▸ h) _ _ _ _

theorem State.doInsert_stands (h : s.log.Stands r) (q : Request) : (s.doInsert q).log.Stands r := by
  unfold State.doInsert; dsimp only
  repeat' split
  · exact State.refuse_stands h _ _ _
  · exact State.refuse_stands h _ _ _
  · exact h

theorem State.doRemove_stands (h : s.log.Stands r) (q : Request) : (s.doRemove q).log.Stands r := by
  unfold State.doRemove
  split
  · exact State.refuse_stands h _ _ _
  · exact h

theorem State.doDay_stands (h : s.log.Stands r) (q : Request) : (s.doDay q).log.Stands r := by
  unfold State.doDay
  split
  · exact State.refuse_stands h _ _ _
  · exact State.answer_stands (by exact h) _ _ _ _

theorem State.doStep_stands (h : s.log.Stands r) (q : Request) : (s.doStep q).log.Stands r := by
  unfold State.doStep; dsimp only
  repeat' split
  · exact State.refuse_stands h _ _ _
  · exact State.refuse_stands h _ _ _
  · exact State.refuse_stands h _ _ _
  · exact State.answer_stands (State.tryStart_stands h _ _ _) _ _ _ _
  · exact State.answer_stands (State.resumeStep_stands (by exact h) _) _ _ _ _
  all_goals exact State.refuse_stands h _ _ _

theorem State.doWatchContinue_stands (h : s.log.Stands r) (q : Request) : (s.doWatchContinue q).log.Stands r := by
  unfold State.doWatchContinue State.handHoldEnd; dsimp only
  repeat' split
  · exact State.refuse_stands h _ _ _
  · refine State.answer_stands ?_ _ _ _ _
    rw [State.postAll_log, State.postAnyOrder_log]
    exact h
  · exact State.answer_stands h _ _ _ _

theorem State.doClear_stands (h : s.log.Stands r) (q : Request) : (s.doClear q).log.Stands r := by
  unfold State.doClear
  split
  · exact State.refuse_stands h _ _ _
  · next ht => exact State.answer_stands ((State.clearTable_log ht).symm ▸ h) _ _ _ _

theorem State.doPort_stands (h : s.log.Stands r) (q : Request) : (s.doPort q).log.Stands r := by
  unfold State.doPort
  split
  case h_3 => exact State.answer_stands (by rwa [State.restartPort_log]) _ _ _ _
  case h_4 => exact State.refuse_stands h _ _ _
  all_goals exact State.answer_stands (by exact h) _ _ _ _

theorem State.operate_stands (h : s.log.Stands r) {op : MgmtOp} (ho : op ≠ .release) (q : Request) :
    (s.operate op q).log.Stands r := by
  cases op with
  | release => exact absurd rfl ho
  | identify => exact State.doIdentify_stands h q
  | examine => exact State.doExamine_stands h q
  | deposit => exact State.doDeposit_stands h q
  | insert => exact State.doInsert_stands h q
  | remove => exact State.doRemove_stands h q
  | day => exact State.doDay_stands h q
  | step => exact State.doStep_stands h q
  | watchContinue => exact State.doWatchContinue_stands h q
  | lock => exact State.answer_stands (by exact h) _ _ _ _
  | reset => exact (State.reply_log s _ _ _ _ _).symm ▸ h
  | clear => exact State.doClear_stands h q
  | port => exact State.doPort_stands h q

theorem State.answerBusy_stands (h : s.log.Stands r) (op : MgmtOp) (q : Request) : (s.answerBusy op q).log.Stands r := by
  simp [State.answerBusy, h]

theorem State.manage_stands (h : s.log.Stands r) {op : MgmtOp} (ho : op ≠ .release) (q : Request) :
    (s.manage op q).log.Stands r := by
  unfold State.manage; dsimp only
  repeat' split
  · exact State.answerBusy_stands h op q
  · exact State.refuse_stands (by exact h) _ _ _
  · exact State.operate_stands (by exact h) ho q

/-! ## RELEASE (R148) -/

/-- A record that a RELEASE takes out of the Log is covered by it. -/
theorem LiftLog.release_stands {l : LiftLog} (h : l.Stands r) (n : Nat) :
    (l.release n).1.Stands r ∨ covered n r.seq = true := by
  obtain ⟨hsplit, hfreed, -⟩ := releaseSplit_spec n l.records
  obtain ⟨hmem, hclosed⟩ := h
  rw [hsplit] at hmem
  rcases List.mem_append.1 hmem with hmem | hmem
  · exact .inr (hfreed r hmem).2
  · exact .inl ⟨hmem, hclosed⟩

theorem State.manage_release_stands (h : s.log.Stands r) (q : Request) :
    (s.manage .release q).log.Stands r ∨ covered q.value.toNat r.seq = true := by
  by_cases hi : s.mgmt.inProgress = none
  · refine (LiftLog.release_stands h q.value.toNat).imp_left fun hkept => ?_
    rw [State.manage_release hi rfl]
    exact State.answer_stands (by exact hkept) _ _ _ _
  · rw [State.manage_busy hi]
    exact .inl (State.answerBusy_stands h _ _)

/-! ## Frames taken from a FIFO (R13) -/

theorem State.holdAfter_stands (h : s.log.Stands r) (i : Nat) : (s.holdAfter i).log.Stands r := by
  have finished := State.finish_stands h
  unfold State.holdAfter; dsimp only; split
  · exact finished
  · exact (State.enterHeld_log s.finish i).symm ▸ finished

theorem State.watchedFrame_stands (h : s.log.Stands r) (p : PortId) (f : Frame) : (s.watchedFrame p f).log.Stands r := by
  rw [← State.watchTest_log s (some p) p f] at h
  unfold State.watchedFrame
  generalize s.watchTest (some p) p f = x at h
  rcases x with ⟨t, _ | ⟨i, _ | _⟩⟩
  · exact State.routeFrame_stands h _ p f
  · exact State.holdAfter_stands (State.routeFrame_stands h _ p f) i
  · exact (State.enterHeld_log (t.setWatch _) i).symm ▸ h

theorem MgmtOp.eq_six_of_ofCode {n : Nat} (h : MgmtOp.ofCode n = some .release) : n = 6 := by
  unfold MgmtOp.ofCode at h
  split at h
  case h_6 => rfl
  all_goals cases h

/-- Of the requests RELEASE alone takes CLOSED records out (R148). -/
theorem State.managementFrame_stands (h : s.log.Stands r) (node : BitVec 4) (f : Frame) :
    (s.managementFrame node f).log.Stands r ∨
      8 ≤ f.data.length ∧ f.byte 0 = 6 ∧ covered (requestOf node f).value.toNat r.seq = true := by
  have malformed : (s.answerMalformed node f).log.Stands r := (State.offerReply_log s _ _).symm ▸ h
  unfold State.managementFrame
  split
  · exact .inl malformed
  · next hlen =>
    split
    · exact .inl malformed
    · next op hop =>
      by_cases ho : op = .release
      · subst ho
        exact (State.manage_release_stands h _).imp_right fun hc =>
          ⟨Nat.not_lt.1 hlen, BitVec.eq_of_toNat_eq (MgmtOp.eq_six_of_ofCode hop), hc⟩
      · exact .inl (State.manage_stands h ho _)

theorem State.takeFrame_stands (h : s.log.Stands r) (p : PortId) :
    (s.takeFrame p).log.Stands r ∨
      p = .portB ∧ ∃ f fs node, s.ports.snd.fifo = f :: fs ∧ requesterOf s.cfg.mreqBase f.id = some node ∧
        8 ≤ f.data.length ∧ f.byte 0 = 6 ∧ covered (requestOf node f).value.toNat r.seq = true := by
  unfold State.takeFrame
  split
  · exact .inl h
  · next f fs hfifo =>
    unfold State.handleFrame
    split
    · exact .inl (State.watchedFrame_stands (by exact h) _ f)
    · split
      · next node hnode =>
        exact (State.managementFrame_stands (by exact h) node f).imp_right fun k => ⟨rfl, f, fs, node, hfifo, hnode, k⟩
      · exact .inl (State.watchedFrame_stands (by exact h) _ f)

/-! ## Resets and the idle block -/

theorem State.startUp_log (s : State) : s.startUp.log = s.log.scan := by
  have fresh : s.volatileFresh.log = s.log.scan := rfl
  rw [← fresh]
  simp only [State.startUp, State.firstPages, State.firstFrames, State.judgeAtStart, State.sendPage_log,
    State.placeValveFrame_log, State.setChamber_log]

/-- The scan marks a CLOSED record DAMAGED or leaves it, and takes no mark away (R150). -/
theorem LiftLog.scan_closed {l : LiftLog} (h : l.Stands r) :
    ∃ d, { r with damaged := d } ∈ l.scan.records ∧ (r.damaged = true → d = true) :=
  ⟨_, List.mem_map.2 ⟨r, h.1, if_pos h.2⟩, fun hd => by rw [hd]; rfl⟩

theorem State.idle_log (s : State) : s.idle.log = s.log := by
  have queued (l : List (List Instr)) : (s.queueOne l).log = s.log := by unfold State.queueOne; split <;> rfl
  unfold State.idle
  repeat' split
  case isFalse.isTrue => exact queued _
  case isFalse.isFalse.isTrue => exact queued _
  all_goals rfl

/-! ## Commands -/

section
variable {t : State} {c : Instr} {effect : State → State}

/-- A command answers what its effect and all it sets off leave. -/
theorem eq_finish_of_exec (e : exec c s = run c effect s) (ht : exec c s = .next t) : t = (effect s).finish := by
  rw [e] at ht
  unfold run at ht
  split at ht <;> cases ht
  rfl

theorem exec_stands_of_effect (e : exec c s = run c effect s) (he : (effect s).log.Stands r) (ht : exec c s = .next t) :
    t.log.Stands r := by
  rw [eq_finish_of_exec e ht]
  exact State.finish_stands he

theorem exec_stands_of_log (e : exec c s = run c effect s) (h : s.log.Stands r) (he : (effect s).log = s.log)
    (ht : exec c s = .next t) : t.log.Stands r := exec_stands_of_effect e (he.symm ▸ h) ht

/-- An operator command reaches its consumer, or is dropped (R156). -/
theorem exec_stands_of_operator (e : exec c s = run c (fun s => s.unlessHeld effect) s) (h : s.log.Stands r)
    (he : (effect s).log.Stands r) (ht : exec c s = .next t) : t.log.Stands r :=
  exec_stands_of_effect e (by unfold State.unlessHeld; split; exacts [h, he]) ht

theorem exec_stands_of_request {op : MgmtOp} {q : Request} (e : exec c s = run c (fun s => s.manage op q) s)
    (h : s.log.Stands r) (ho : op ≠ .release) (ht : exec c s = .next t) : t.log.Stands r :=
  exec_stands_of_effect e (State.manage_stands h ho q) ht

/-- Every command but a reset, a RELEASE and the taking of a frame leaves a CLOSED record where it stands. -/
theorem exec_stands (h : s.log.Stands r) (hstart : ¬ ((∃ j, c = .powerOn j) ∨ c = .warmReset))
    (hrelease : ¬ ∃ q, c = .release q) (hframe : ¬ ∃ p, c = .frameTaken p) (ht : exec c s = .next t) : t.log.Stands r := by
  cases c with
  | powerOn j => exact absurd (.inl ⟨j, rfl⟩) hstart
  | warmReset => exact absurd (.inr rfl) hstart
  | release q => exact absurd ⟨q, rfl⟩ hrelease
  | frameTaken p => exact absurd ⟨p, rfl⟩ hframe
  | start a args => exact exec_stands_of_operator (exec_start a args s) h (State.startCommand_stands h a args) ht
  | pauseArm a => exact exec_stands_of_operator (exec_pauseArm a s) h (by simpa using h) ht
  | continueArm a => exact exec_stands_of_operator (exec_continueArm a s) h (State.continueCommand_stands h a) ht
  | abortArm a => exact exec_stands_of_operator (exec_abortArm a s) h (State.abortCommand_stands h a) ht
  | manualEnter a => exact exec_stands_of_operator (exec_manualEnter a s) h (by simpa using h) ht
  | manualExit a => exact exec_stands_of_operator (exec_manualExit a s) h (by simpa using h) ht
  | faultClear a => exact exec_stands_of_operator (exec_faultClear a s) h (by simpa using h) ht
  | packNow args =>
    exact exec_stands_of_operator (exec_packNow args s) h (State.toChamber_stands h args fun c => by simpa using h) ht
  | discharged args =>
    exact exec_stands_of_operator (exec_discharged args s) h (State.toChamber_stands h args (State.discharge_stands h)) ht
  | chamberFaultClear args =>
    exact exec_stands_of_operator (exec_chamberFaultClear args s) h
      (State.toChamber_stands h args fun c => by simpa using h) ht
  | identify q => exact exec_stands_of_request (exec_identify q s) h nofun ht
  | examine q => exact exec_stands_of_request (exec_examine q s) h nofun ht
  | deposit q => exact exec_stands_of_request (exec_deposit q s) h nofun ht
  | insertBin q => exact exec_stands_of_request (exec_insertBin q s) h nofun ht
  | removeBin q => exact exec_stands_of_request (exec_removeBin q s) h nofun ht
  | day q => exact exec_stands_of_request (exec_day q s) h nofun ht
  | stepArm q => exact exec_stands_of_request (exec_stepArm q s) h nofun ht
  | watchContinueProcess q => exact exec_stands_of_request (exec_watchContinueProcess q s) h nofun ht
  | watchContinueDiscard q => exact exec_stands_of_request (exec_watchContinueDiscard q s) h nofun ht
  | lock q => exact exec_stands_of_request (exec_lock q s) h nofun ht
  | reset q => exact exec_stands_of_request (exec_reset q s) h nofun ht
  | clear q => exact exec_stands_of_request (exec_clear q s) h nofun ht
  | portClear q => exact exec_stands_of_request (exec_portClear q s) h nofun ht
  | portSet q => exact exec_stands_of_request (exec_portSet q s) h nofun ht
  | portRestart q => exact exec_stands_of_request (exec_portRestart q s) h nofun ht
  | stepTimerExpiry a => exact exec_stands_of_effect (exec_stepTimerExpiry a s) (State.stepTimeout_stands h a) ht
  | durationTimerExpiry a => exact exec_stands_of_effect (exec_durationTimerExpiry a s) (State.durationRun_stands h a) ht
  | gapTimerExpiry a => exact exec_stands_of_effect (exec_gapTimerExpiry a s) (State.gapExpired_stands h a) ht
  | frameArrival p f => exact exec_stands_of_log (exec_frameArrival p f s) h rfl ht
  | errorPassive p => exact exec_stands_of_log (exec_errorPassive p s) h rfl ht
  | returnToActive p => exact exec_stands_of_log (exec_returnToActive p s) h rfl ht
  | busOff p => exact exec_stands_of_log (exec_busOff p s) h (State.goBusOff_log s p) ht
  | recoveryTimerExpiry p => exact exec_stands_of_log (exec_recoveryTimerExpiry p s) h (State.recover_log s p) ht
  | transmissionEnd p => exact exec_stands_of_log (exec_transmissionEnd p s) h (State.noteLeft_log _ _) ht
  | freshnessLimitExpiry i => exact exec_stands_of_log (exec_freshnessLimitExpiry i s) h (State.freshnessExpired_log s i) ht
  | holdTimeExpiry i => exact exec_stands_of_log (exec_holdTimeExpiry i s) h (State.holdExpired_log s i) ht
  | oneSecondTimerExpiry => exact exec_stands_of_log (exec_oneSecondTimerExpiry s) h (State.secondPassed_log s) ht
  | trueDelayExpiry g => exact exec_stands_of_log (exec_trueDelayExpiry g s) h (State.delayExpired_log s g) ht
  | repeatTimerExpiry => exact exec_stands_of_log (exec_repeatTimerExpiry s) h (State.repeatHighIdle_log s) ht
  | runDownTimerExpiry => exact exec_stands_of_log (exec_runDownTimerExpiry s) h (State.endRunDown_log s) ht
  | valveTick => exact exec_stands_of_log (exec_valveTick s) h (State.tick_log s) ht
  | stillFrameInterval d => exact exec_stands_of_log (exec_stillFrameInterval d s) h (State.stillFrame_log s d) ht
  | phaseTimerExpiry d => exact exec_stands_of_log (exec_phaseTimerExpiry d s) h (State.phaseExpired_log s d) ht
  | quietTimerExpiry d => exact exec_stands_of_log (exec_quietTimerExpiry d s) h (State.quietExpired_log s d) ht
  | periodTimerExpiry p => exact exec_stands_of_log (exec_periodTimerExpiry p s) h (State.periodExpired_log s p) ht
  | spacingTimerExpiry p => exact exec_stands_of_log (exec_spacingTimerExpiry p s) h (State.spacingExpired_log s p) ht
  | binUpdateComplete => exact exec_stands_of_log (exec_binUpdateComplete s) h (State.completeUpdate_log s) ht

/-- A POWER_ON or WARM_RESET leaves a CLOSED record in its place, marked or not (R150). -/
theorem exec_start_marks (h : s.log.Stands r) (hc : (∃ j, c = .powerOn j) ∨ c = .warmReset) (ht : exec c s = .next t) :
    ∃ d, { r with damaged := d } ∈ t.log.records ∧ (r.damaged = true → d = true) := by
  have started : t.log = s.log.scan := by
    rcases hc with ⟨j, rfl⟩ | rfl
    · rw [← Host.Outcome.next.inj ((exec_powerOn j s).symm.trans ht)]
      exact State.startUp_log { s with cal := s.cal.powered j }
    · rw [← Host.Outcome.next.inj ((exec_warmReset s).symm.trans ht)]
      exact State.startUp_log s
  rw [started]
  exact LiftLog.scan_closed h

end

end

/-- Settles O10: a CLOSED record is touched by the scan of a reset (`exec_start_marks`), by a RELEASE that covers it
(`State.manage_release_stands`, `State.takeFrame_stands`) and by no other command (`exec_stands`). -/
theorem closedRecordsStand : Obligations.ClosedRecordsStand := by
  unfold Obligations.ClosedRecordsStand
  intro s t r ht hmem hclosed
  have h : s.log.Stands r := ⟨hmem, hclosed⟩
  unfold step at ht
  split at ht
  · cases ht
    exact .inl ((State.idle_log s).symm ▸ hmem)
  · next c rest hpending =>
    have hrest : ({ s with pending := rest } : State).log.Stands r := h
    by_cases hstart : (∃ j, c = .powerOn j) ∨ c = .warmReset
    · obtain ⟨d, hd, hmark⟩ := exec_start_marks hrest hstart ht
      refine .inr (.inl ⟨d, hd, hmark, hstart.imp ?_ ?_⟩)
      · rintro ⟨j, rfl⟩
        exact ⟨j, rest, hpending⟩
      · rintro rfl
        exact ⟨rest, hpending⟩
    by_cases hrelease : ∃ q, c = .release q
    · obtain ⟨q, rfl⟩ := hrelease
      rw [eq_finish_of_exec (exec_release q _) ht]
      exact (State.manage_release_stands hrest q).imp (fun k => (State.finish_stands k).1)
        fun hcov => .inr ⟨_, hcov, .inl ⟨q, rest, hpending, rfl⟩⟩
    by_cases hframe : ∃ p, c = .frameTaken p
    · obtain ⟨p, rfl⟩ := hframe
      rw [eq_finish_of_exec (exec_frameTaken p _) ht]
      refine (State.takeFrame_stands hrest p).imp (fun k => (State.finish_stands k).1) ?_
      rintro ⟨rfl, f, fs, node, hfifo, hnode, hlen, hop, hcov⟩
      exact .inr ⟨_, hcov, .inr ⟨rest, f, fs, node, hpending, hfifo, hnode, hlen, hop, rfl⟩⟩
    exact .inl (exec_stands hrest hstart hrelease hframe ht).1

end Sys2Proof.Machine
end

section
/-! The statement on configuration (R152, R161, R162, Table 10-3), with what it needs: what is configured, apart from the counts and
volatile states that stand beside it in the same tables, and one lemma for each operation, that it leaves what is configured and arms
no entry of Frame Watch. An operation that can offer an own frame to Frame Watch may disarm an entry (`…_configuredAs`); one that
cannot is an equivalence (`configuredAs_…`). -/

namespace Sys2Proof.Machine

/-! ## What is configured -/

/-- An entry of Frame Watch after a reset (R152). -/
def WatchEntry.restarted (e : WatchEntry) : WatchEntry := { e with armed := false, hits := 0 }

theorem Watch.restarted_entries (w : Watch) : w.restarted.entries = w.entries.map WatchEntry.restarted := rfl

/-- What Table 10-3 gives to SERVICE level alone: the Config, Step, Program, Select and Tariff Tables, and the configured words of the
Route, Signal, Term, Group and Watch Tables, their entries as a reset leaves them. -/
def State.configured (s : State) :
    ConfigTable × List StepEntry × List ProgramEntry × List (Option Nat) × List TariffEntry × List RouteEntry ×
      List SignalEntry × List TermEntry × List GroupEntry × List WatchEntry :=
  (s.cfg, s.steps, s.programs, s.select, s.tariffs, s.routes.map RouteEntry.restarted, s.signals.map SignalEntry.restarted,
    s.terms.map TermEntry.restarted, s.groups.map GroupEntry.restarted, s.watch.entries.map WatchEntry.restarted)

/-- Entry `i` of Frame Watch is armed. -/
def State.armedAt (s : State) (i : Nat) : Prop := (s.watch.entries.map WatchEntry.armed)[i]? = some true

/-- The configured words are those of `s₀`, and no entry of Frame Watch is armed but those that `s₀` has armed. -/
def State.ConfiguredAs (s s₀ : State) : Prop := s.configured = s₀.configured ∧ ∀ i, s.armedAt i → s₀.armedAt i

theorem State.ConfiguredAs.refl (s : State) : s.ConfiguredAs s := ⟨rfl, fun _ => id⟩

section
variable {s t s₀ : State}

theorem State.ConfiguredAs.trans (h : s.ConfiguredAs s₀) (k : t.ConfiguredAs s) : t.ConfiguredAs s₀ :=
  ⟨k.1.trans h.1, fun i hi => h.2 i (k.2 i hi)⟩

end

/-! ## Entries: counts, results and volatile states move, configured words stand -/

theorem map_map_of_eq {α β : Type} {f : α → α} {k : α → β} (h : ∀ e, k (f e) = k e) (l : List α) : (l.map f).map k = l.map k := by
  rw [List.map_map]
  exact List.map_congr_left fun e _ => h e

theorem map_modify_of_eq {α β : Type} {f : α → α} {k : α → β} (h : ∀ e, k (f e) = k e) (l : List α) (i : Nat) :
    (l.modify i f).map k = l.map k := by
  induction l generalizing i with
  | nil => cases i <;> rfl
  | cons x l ih =>
    cases i with
    | zero => simp [h]
    | succ i => simp [ih]

theorem SignalEntry.take_restarted (e : SignalEntry) (f : Frame) : (e.take f).restarted = e.restarted := by
  unfold SignalEntry.take; dsimp only; split <;> rfl

theorem SignalEntry.limitReached_restarted (e : SignalEntry) : e.limitReached.restarted = e.restarted := by
  unfold SignalEntry.limitReached; split <;> rfl

theorem State.evaluateGroup_restarted (s : State) (g : GroupEntry) : (s.evaluateGroup g).restarted = g.restarted := by
  unfold State.evaluateGroup; repeat' split
  all_goals rfl

/-- Counting hits changes no word but the hits (R154). -/
theorem Watch.countHits_map {β : Type} {k : WatchEntry → β} (h : ∀ e n, k { e with hits := n } = k e) (w : Watch) (l : List Nat) :
    (w.countHits l).entries.map k = w.entries.map k := by
  show (l.foldl _ w.entries).map k = _
  generalize w.entries = es
  induction l generalizing es with
  | nil => rfl
  | cons i l ih => rw [List.foldl_cons, ih, map_modify_of_eq fun e => h e _]

/-! ## Updates -/

section
variable {s s₀ : State}

@[simp] theorem State.configuredAs_setPort (p : PortId) (x : Port) : (s.setPort p x).ConfiguredAs s₀ ↔ s.ConfiguredAs s₀ := .rfl
@[simp] theorem State.configuredAs_setArm (a : ArmId) (x : Arm) : (s.setArm a x).ConfiguredAs s₀ ↔ s.ConfiguredAs s₀ := .rfl
@[simp] theorem State.configuredAs_setChamber (c : ChamberId) (x : Chamber) :
    (s.setChamber c x).ConfiguredAs s₀ ↔ s.ConfiguredAs s₀ := .rfl
@[simp] theorem State.configuredAs_setWeighUnit (a : ArmId) (x : WeighUnit) :
    (s.setWeighUnit a x).ConfiguredAs s₀ ↔ s.ConfiguredAs s₀ := .rfl
@[simp] theorem State.configuredAs_setValve (c : Consumer) (x : ValveGroup) :
    (s.setValve c x).ConfiguredAs s₀ ↔ s.ConfiguredAs s₀ := .rfl
@[simp] theorem State.configuredAs_setBins (x : BinUnit) : (s.setBins x).ConfiguredAs s₀ ↔ s.ConfiguredAs s₀ := .rfl
@[simp] theorem State.configuredAs_setLog (x : LiftLog) : (s.setLog x).ConfiguredAs s₀ ↔ s.ConfiguredAs s₀ := .rfl
@[simp] theorem State.configuredAs_setMgmt (x : Management) : (s.setMgmt x).ConfiguredAs s₀ ↔ s.ConfiguredAs s₀ := .rfl
@[simp] theorem State.configuredAs_setArbiter (x : Arbiter) : (s.setArbiter x).ConfiguredAs s₀ ↔ s.ConfiguredAs s₀ := .rfl
@[simp] theorem State.configuredAs_post (e : Ev) : (s.post e).ConfiguredAs s₀ ↔ s.ConfiguredAs s₀ := .rfl
@[simp] theorem State.configuredAs_postAll (es : List Ev) : (s.postAll es).ConfiguredAs s₀ ↔ s.ConfiguredAs s₀ := .rfl
@[simp] theorem State.configuredAs_postNext (e : Ev) : (s.postNext e).ConfiguredAs s₀ ↔ s.ConfiguredAs s₀ := .rfl
@[simp] theorem State.configuredAs_postFirst (es : List Ev) : (s.postFirst es).ConfiguredAs s₀ ↔ s.ConfiguredAs s₀ := .rfl
@[simp] theorem State.configuredAs_touchPage (n : Nat) : (s.touchPage n).ConfiguredAs s₀ ↔ s.ConfiguredAs s₀ := .rfl
@[simp] theorem State.configuredAs_resetReplyLeft : s.resetReplyLeft.ConfiguredAs s₀ ↔ s.ConfiguredAs s₀ := .rfl
@[simp] theorem State.configuredAs_eitherFirst : s.eitherFirst.1.ConfiguredAs s₀ ↔ s.ConfiguredAs s₀ := .rfl

@[simp] theorem State.configuredAs_permuted {α : Type} (n : Nat) (l : List α) :
    (State.permuted n l s).1.ConfiguredAs s₀ ↔ s.ConfiguredAs s₀ := by
  obtain ⟨-, k, hk⟩ := State.permuted_spec n l s
  rw [hk]
  rfl

@[simp] theorem State.configuredAs_inAnyOrder {α : Type} (l : List α) :
    (s.inAnyOrder l).1.ConfiguredAs s₀ ↔ s.ConfiguredAs s₀ := State.configuredAs_permuted _ l

@[simp] theorem State.configuredAs_putAnywhere {α : Type} (x : α) (l : List α) :
    (s.putAnywhere x l).1.ConfiguredAs s₀ ↔ s.ConfiguredAs s₀ := by
  cases l <;> exact .rfl

@[simp] theorem State.configuredAs_postAnyOrder (es : List Ev) : (s.postAnyOrder es).ConfiguredAs s₀ ↔ s.ConfiguredAs s₀ := by
  simp [State.postAnyOrder]

/-- Tables that are written keep the configured words where their entries do. -/
theorem State.configuredAs_of_routes (h : s.ConfiguredAs s₀) {l : List RouteEntry}
    (hl : l.map RouteEntry.restarted = s.routes.map RouteEntry.restarted) : ({ s with routes := l } : State).ConfiguredAs s₀ :=
  h.trans ⟨by simp only [State.configured, hl], fun _ => id⟩

theorem State.configuredAs_of_signals (h : s.ConfiguredAs s₀) {l : List SignalEntry}
    (hl : l.map SignalEntry.restarted = s.signals.map SignalEntry.restarted) :
    ({ s with signals := l } : State).ConfiguredAs s₀ :=
  h.trans ⟨by simp only [State.configured, hl], fun _ => id⟩

theorem State.configuredAs_of_terms (h : s.ConfiguredAs s₀) {l : List TermEntry}
    (hl : l.map TermEntry.restarted = s.terms.map TermEntry.restarted) : ({ s with terms := l } : State).ConfiguredAs s₀ :=
  h.trans ⟨by simp only [State.configured, hl], fun _ => id⟩

theorem State.configuredAs_of_groups (h : s.ConfiguredAs s₀) {l : List GroupEntry}
    (hl : l.map GroupEntry.restarted = s.groups.map GroupEntry.restarted) : ({ s with groups := l } : State).ConfiguredAs s₀ :=
  h.trans ⟨by simp only [State.configured, hl], fun _ => id⟩

/-- Frame Watch may count, hold and disarm (R152). -/
theorem State.configuredAs_of_watch (h : s.ConfiguredAs s₀) {w : Watch}
    (hw : w.entries.map WatchEntry.restarted = s.watch.entries.map WatchEntry.restarted)
    (ha : ∀ i, (s.setWatch w).armedAt i → s.armedAt i) : (s.setWatch w).ConfiguredAs s₀ :=
  h.trans ⟨by simp only [State.configured, State.setWatch, hw], ha⟩

@[simp] theorem State.configuredAs_setWatch {w : Watch} (hw : w.entries = s.watch.entries) :
    (s.setWatch w).ConfiguredAs s₀ ↔ s.ConfiguredAs s₀ := by
  simp only [State.ConfiguredAs, State.configured, State.armedAt, State.setWatch, hw]

end

/-! ## Frame Watch -/

section
variable {s s₀ : State}

theorem State.countHits_configuredAs (h : s.ConfiguredAs s₀) (l : List Nat) :
    (s.setWatch (s.watch.countHits l)).ConfiguredAs s₀ := by
  refine State.configuredAs_of_watch h (Watch.countHits_map (fun _ _ => rfl) _ _) fun i hi => ?_
  rwa [State.armedAt, State.setWatch_watch, Watch.countHits_map fun _ _ => rfl] at hi

/-- Disarming one entry arms no other. -/
theorem State.disarmOne_configuredAs (h : s.ConfiguredAs s₀) {w : Watch} (i : Nat)
    (hw : w.entries = s.watch.entries.modify i fun e => { e with armed := false }) : (s.setWatch w).ConfiguredAs s₀ := by
  refine State.configuredAs_of_watch h ?_ fun j hj => ?_
  · rw [hw]
    exact map_modify_of_eq (fun e => by rfl) _ _
  · rw [State.armedAt, State.setWatch_watch, hw, List.getElem?_map, List.getElem?_modify] at hj
    rw [State.armedAt, List.getElem?_map]
    by_cases hij : i = j
    · simp [hij] at hj
    · simpa [hij] using hj

/-- With every entry disarmed nothing is armed (R158). -/
theorem State.disarmAll_configuredAs (h : s.ConfiguredAs s₀) {w : Watch}
    (hw : w.entries = s.watch.entries.map fun e => { e with armed := false }) : (s.setWatch w).ConfiguredAs s₀ := by
  refine State.configuredAs_of_watch h ?_ fun j hj => ?_
  · rw [hw]
    exact map_map_of_eq (fun e => by rfl) _
  · simp [State.armedAt, hw] at hj

end

/-! ## Ports and Frame Watch -/

section
variable {s s₀ : State}

@[simp] theorem State.configuredAs_noteLeft (l : List QFrame) : (s.noteLeft l).ConfiguredAs s₀ ↔ s.ConfiguredAs s₀ := by
  unfold State.noteLeft; split <;> simp

@[simp] theorem State.configuredAs_offerQueue (p : PortId) (q : QFrame) :
    (s.offerQueue p q).ConfiguredAs s₀ ↔ s.ConfiguredAs s₀ := by
  simp [State.offerQueue]

@[simp] theorem State.configuredAs_offerSlot (p : PortId) (n : Nat) (f : Frame) :
    (s.offerSlot p n f).ConfiguredAs s₀ ↔ s.ConfiguredAs s₀ := by
  simp [State.offerSlot]

@[simp] theorem State.configuredAs_restartPort (p : PortId) :
    (s.restartPort p).ConfiguredAs s₀ ↔ s.ConfiguredAs s₀ := by simp [State.restartPort]

@[simp] theorem State.configuredAs_forwardFrame (p : PortId) (cls : Nat) (f : Frame) :
    (s.forwardFrame p cls f).ConfiguredAs s₀ ↔ s.ConfiguredAs s₀ := by
  unfold State.forwardFrame; dsimp only; split <;> simp

@[simp] theorem State.configuredAs_mirrorReport (i : Nat) (own : Bool) (p : PortId) (f : Frame) :
    (s.mirrorReport i own p f).ConfiguredAs s₀ ↔ s.ConfiguredAs s₀ := by
  unfold State.mirrorReport; dsimp only; split <;> simp

theorem State.configuredAs_mirrors (own : Bool) (p : PortId) (f : Frame) (l : List Nat) :
    (l.foldl (fun s i => s.mirrorReport i own p f) s).ConfiguredAs s₀ ↔ s.ConfiguredAs s₀ := by
  induction l generalizing s with
  | nil => exact .rfl
  | cons i r ih => rw [List.foldl_cons, ih, State.configuredAs_mirrorReport]

@[simp] theorem State.watchTest_configuredAs (h : s.ConfiguredAs s₀) (r : Option PortId) (p : PortId) (f : Frame) :
    (s.watchTest r p f).1.ConfiguredAs s₀ := by
  have counted := State.countHits_configuredAs h (s.watch.hits r f)
  unfold State.watchTest; dsimp only
  repeat' split
  all_goals simp [counted, State.configuredAs_mirrors]

/-- A hold disarms its entry (R155). -/
@[simp] theorem State.enterHeld_configuredAs (h : s.ConfiguredAs s₀) (i : Nat) : (s.enterHeld i).ConfiguredAs s₀ :=
  (State.configuredAs_postFirst _).2 (State.disarmOne_configuredAs h i rfl)

@[simp] theorem State.configuredAs_placeOwn (d : OwnDest) (f : Frame) :
    (s.placeOwn d f).ConfiguredAs s₀ ↔ s.ConfiguredAs s₀ := by
  cases d <;> simp [State.placeOwn]

@[simp] theorem State.offerOwn_configuredAs (h : s.ConfiguredAs s₀) (d : OwnDest) (f : Frame) :
    (s.offerOwn d f).ConfiguredAs s₀ := by
  have tested := State.watchTest_configuredAs h none d.port f
  unfold State.offerOwn
  generalize s.watchTest none d.port f = x at tested
  rcases x with ⟨t, _ | ⟨i, _ | _⟩⟩
  case some.true => dsimp only; split <;> simp [tested]
  all_goals simp [tested]

/-! ## Valves and supply -/

@[simp] theorem State.placeValveFrame_configuredAs (h : s.ConfiguredAs s₀) (c : Consumer) :
    (s.placeValveFrame c).ConfiguredAs s₀ := by
  simp [h, State.placeValveFrame]

@[simp] theorem State.stopGroup_configuredAs (h : s.ConfiguredAs s₀) (c : Consumer) : (s.stopGroup c).ConfiguredAs s₀ := by
  unfold State.stopGroup; dsimp only; split <;> simp [h]

@[simp] theorem State.driveGroup_configuredAs (h : s.ConfiguredAs s₀) (c : Consumer) : (s.driveGroup c).ConfiguredAs s₀ := h

@[simp] theorem State.setTargets_configuredAs (h : s.ConfiguredAs s₀) (c : Consumer) (set : FnSet) (l : List Nat) (ramp : Nat) :
    (s.setTargets c set l ramp).ConfiguredAs s₀ := by
  unfold State.setTargets; dsimp only; repeat' split
  all_goals simp [h]

@[simp] theorem State.tickGroup_configuredAs (h : s.ConfiguredAs s₀) (c : Consumer) : (s.tickGroup c).ConfiguredAs s₀ := by
  unfold State.tickGroup; dsimp only; split <;> simp [h]

@[simp] theorem State.stillFrame_configuredAs (h : s.ConfiguredAs s₀) (c : Consumer) : (s.stillFrame c).ConfiguredAs s₀ := by
  unfold State.stillFrame; repeat' split
  all_goals simp [h]

@[simp] theorem State.offerHighIdle_configuredAs (h : s.ConfiguredAs s₀) (on : Bool) :
    (s.offerHighIdle on).ConfiguredAs s₀ := by
  simp [h, State.offerHighIdle]

@[simp] theorem State.judgeHighIdle_configuredAs (h : s.ConfiguredAs s₀) : s.judgeHighIdle.ConfiguredAs s₀ := by
  unfold State.judgeHighIdle; dsimp only; split <;> simp [h]

@[simp] theorem State.claim_configuredAs (h : s.ConfiguredAs s₀) (c : Consumer) (d : Nat) :
    (s.claim c d).1.ConfiguredAs s₀ := by
  simp [h, State.claim]

@[simp] theorem State.claimNone_configuredAs (h : s.ConfiguredAs s₀) (c : Consumer) : (s.claimNone c).ConfiguredAs s₀ := by
  simp [h, State.claimNone]

@[simp] theorem State.putCapacity_configuredAs (h : s.ConfiguredAs s₀) (n : Nat) : (s.putCapacity n).ConfiguredAs s₀ := by
  unfold State.putCapacity; dsimp only; split <;> simp [h]

/-! ## Signals -/

@[simp] theorem State.evaluateTermsOn_configuredAs (h : s.ConfiguredAs s₀) (l : List Nat) :
    (s.evaluateTermsOn l).ConfiguredAs s₀ :=
  State.configuredAs_of_terms h (map_map_of_eq (fun e => by split <;> rfl) _)

@[simp] theorem State.evaluateGroupsOn_configuredAs (h : s.ConfiguredAs s₀) (p : Nat → Bool) :
    (s.evaluateGroupsOn p).ConfiguredAs s₀ :=
  State.configuredAs_of_groups h (map_map_of_eq (fun e => by split; exacts [s.evaluateGroup_restarted e, rfl]) _)

@[simp] theorem State.evaluateOn_configuredAs (h : s.ConfiguredAs s₀) (l : List Nat) : (s.evaluateOn l).ConfiguredAs s₀ :=
  State.evaluateGroupsOn_configuredAs (State.evaluateTermsOn_configuredAs h l) _

@[simp] theorem State.takeSignals_configuredAs (h : s.ConfiguredAs s₀) (i : Nat) (f : Frame) :
    (s.takeSignals i f).ConfiguredAs s₀ :=
  State.configuredAs_of_signals h (map_map_of_eq (fun e => by split; exacts [e.take_restarted f, rfl]) _)

/-! ## Log and bins -/

@[simp] theorem State.configuredAs_openLift (a : ArmId) (n : Nat) : (s.openLift a n).ConfiguredAs s₀ ↔ s.ConfiguredAs s₀ := .rfl

@[simp] theorem State.configuredAs_enterRecord (n : Nat) (f : LogRecord → LogRecord) :
    (s.enterRecord n f).ConfiguredAs s₀ ↔ s.ConfiguredAs s₀ := .rfl
@[simp] theorem State.configuredAs_placeClosed (r : LogRecord) : (s.placeClosed r).ConfiguredAs s₀ ↔ s.ConfiguredAs s₀ := .rfl

@[simp] theorem State.configuredAs_writeManualTip (a : ArmId) (t : Option Nat) (b : Option BinData) :
    (s.writeManualTip a t b).ConfiguredAs s₀ ↔ s.ConfiguredAs s₀ := by
  unfold State.writeManualTip; split <;> simp

@[simp] theorem State.configuredAs_setRequest (a : ArmId) (q : DecisionRequest) :
    (s.setRequest a q).ConfiguredAs s₀ ↔ s.ConfiguredAs s₀ := .rfl
@[simp] theorem State.configuredAs_dropLastTag (a : ArmId) : (s.dropLastTag a).ConfiguredAs s₀ ↔ s.ConfiguredAs s₀ := .rfl

@[simp] theorem State.configuredAs_decideByTag (a : ArmId) (t : Nat) :
    (s.decideByTag a t).ConfiguredAs s₀ ↔ s.ConfiguredAs s₀ := by
  simp [State.decideByTag]

@[simp] theorem State.configuredAs_decideNoTag (a : ArmId) : (s.decideNoTag a).ConfiguredAs s₀ ↔ s.ConfiguredAs s₀ := by
  simp [State.decideNoTag]

@[simp] theorem State.configuredAs_lookUp (a : ArmId) (t : Nat) : (s.lookUp a t).ConfiguredAs s₀ ↔ s.ConfiguredAs s₀ := by
  unfold State.lookUp; dsimp only; split <;> simp

@[simp] theorem State.configuredAs_askDecision (a : ArmId) (n k : Nat) :
    (s.askDecision a n k).ConfiguredAs s₀ ↔ s.ConfiguredAs s₀ := by
  unfold State.askDecision; dsimp only; split <;> simp

@[simp] theorem State.configuredAs_withdrawRequest (a : ArmId) :
    (s.withdrawRequest a).ConfiguredAs s₀ ↔ s.ConfiguredAs s₀ := .rfl

@[simp] theorem State.configuredAs_tagTimeLimit (a : ArmId) : (s.tagTimeLimit a).ConfiguredAs s₀ ↔ s.ConfiguredAs s₀ := by
  unfold State.tagTimeLimit; split <;> simp

@[simp] theorem State.configuredAs_tagFrame (a : ArmId) (f : Frame) : (s.tagFrame a f).ConfiguredAs s₀ ↔ s.ConfiguredAs s₀ := by
  unfold State.tagFrame; dsimp only; repeat' split
  case isFalse.isFalse.isTrue => exact State.configuredAs_lookUp a _
  all_goals exact .rfl

@[simp] theorem State.configuredAs_serveManualTip (a : ArmId) (t : Nat) :
    (s.serveManualTip a t).ConfiguredAs s₀ ↔ s.ConfiguredAs s₀ := by
  simp [State.serveManualTip]

@[simp] theorem State.configuredAs_manualTip (a : ArmId) : (s.manualTip a).ConfiguredAs s₀ ↔ s.ConfiguredAs s₀ := by
  unfold State.manualTip; dsimp only; repeat' split
  all_goals simp

@[simp] theorem State.configuredAs_serveClose (t n : Nat) (b : Bool) :
    (s.serveClose t n b).ConfiguredAs s₀ ↔ s.ConfiguredAs s₀ := by
  unfold State.serveClose; split <;> exact .rfl

@[simp] theorem State.configuredAs_closeBin (t n : Nat) (b : Bool) : (s.closeBin t n b).ConfiguredAs s₀ ↔ s.ConfiguredAs s₀ := by
  unfold State.closeBin; split
  · rfl
  · simp

@[simp] theorem State.configuredAs_startUpdate (c : BinChange) : (s.startUpdate c).ConfiguredAs s₀ ↔ s.ConfiguredAs s₀ := .rfl

@[simp] theorem State.configuredAs_serveLookup (w : WaitingLookup) : (s.serveLookup w).ConfiguredAs s₀ ↔ s.ConfiguredAs s₀ := by
  cases w with
  | decision a => simp only [State.serveLookup]; split <;> simp
  | manualTip a t => simp [State.serveLookup]
  | closeUpdate t n b => simp [State.serveLookup]

@[simp] theorem State.configuredAs_serveLookups : s.serveLookups.ConfiguredAs s₀ ↔ s.ConfiguredAs s₀ :=
  State.configuredAs_postAnyOrder _

/-! ## Weighing -/

@[simp] theorem State.configuredAs_putWeigh (a : ArmId) (u : WeighUnit) :
    (s.putWeigh a u).ConfiguredAs s₀ ↔ s.ConfiguredAs s₀ := by
  unfold State.putWeigh; dsimp only; split <;> simp

@[simp] theorem State.configuredAs_openWindow (a : ArmId) (k : WeighState) (n : Nat) :
    (s.openWindow a k n).ConfiguredAs s₀ ↔ s.ConfiguredAs s₀ := by
  simp [State.openWindow]

@[simp] theorem State.configuredAs_collectGross (a : ArmId) (n : Nat) :
    (s.collectGross a n).ConfiguredAs s₀ ↔ s.ConfiguredAs s₀ := by
  unfold State.collectGross; split <;> simp

@[simp] theorem State.configuredAs_collectTare (a : ArmId) (n : Nat) :
    (s.collectTare a n).ConfiguredAs s₀ ↔ s.ConfiguredAs s₀ := by
  unfold State.collectTare; split <;> simp

@[simp] theorem State.configuredAs_stallWindow (a : ArmId) : (s.stallWindow a).ConfiguredAs s₀ ↔ s.ConfiguredAs s₀ := by
  unfold State.stallWindow; dsimp only; split <;> simp

@[simp] theorem State.configuredAs_weighToIdle (a : ArmId) :
    (s.weighToIdle a).ConfiguredAs s₀ ↔ s.ConfiguredAs s₀ := by simp [State.weighToIdle]

@[simp] theorem State.configuredAs_endWindow (a : ArmId) (v u w : Bool) :
    (s.endWindow a v u w).ConfiguredAs s₀ ↔ s.ConfiguredAs s₀ := by
  unfold State.endWindow; dsimp only; split <;> simp

@[simp] theorem State.configuredAs_sampleFrame (a : ArmId) (f : Frame) :
    (s.sampleFrame a f).ConfiguredAs s₀ ↔ s.ConfiguredAs s₀ := by
  unfold State.sampleFrame; dsimp only; repeat' split
  all_goals simp

@[simp] theorem State.configuredAs_gapExpired (a : ArmId) : (s.gapExpired a).ConfiguredAs s₀ ↔ s.ConfiguredAs s₀ := by
  unfold State.gapExpired; dsimp only; split <;> simp

@[simp] theorem State.configuredAs_weighTimeLimit (a : ArmId) : (s.weighTimeLimit a).ConfiguredAs s₀ ↔ s.ConfiguredAs s₀ := by
  simp [State.weighTimeLimit]

@[simp] theorem State.configuredAs_disturb (a : ArmId) : (s.disturb a).ConfiguredAs s₀ ↔ s.ConfiguredAs s₀ := by
  unfold State.disturb; dsimp only; split <;> simp

/-! ## Chambers -/

@[simp] theorem State.setChamberState_configuredAs (h : s.ConfiguredAs s₀) (c : ChamberId) (k : ChamberState) :
    (s.setChamberState c k).ConfiguredAs s₀ := by
  unfold State.setChamberState; dsimp only; split <;> simp [h]

@[simp] theorem State.configuredAs_judgeLoad (c : ChamberId) : (s.judgeLoad c).ConfiguredAs s₀ ↔ s.ConfiguredAs s₀ := by
  unfold State.judgeLoad; dsimp only; repeat' split
  all_goals simp

@[simp] theorem State.configuredAs_addMass (c : ChamberId) (n : Nat) : (s.addMass c n).ConfiguredAs s₀ ↔ s.ConfiguredAs s₀ := by
  simp [State.addMass]

@[simp] theorem State.enterPhase_configuredAs (h : s.ConfiguredAs s₀) (c : ChamberId) :
    (s.enterPhase c).ConfiguredAs s₀ := by simp [h, State.enterPhase]

@[simp] theorem State.nextPhase_configuredAs (h : s.ConfiguredAs s₀) (c : ChamberId) (p : StrokePhase) :
    (s.nextPhase c p).ConfiguredAs s₀ := by
  simp [h, State.nextPhase]

@[simp] theorem State.claimStroke_configuredAs (h : s.ConfiguredAs s₀) (c : ChamberId) : (s.claimStroke c).ConfiguredAs s₀ := by
  have claimed := State.claim_configuredAs h c.consumer (s.chamberSettings c).strokeDemand
  unfold State.claimStroke
  generalize s.claim c.consumer _ = x at claimed
  rcases x with ⟨t, _ | _⟩
  all_goals simp [claimed]

@[simp] theorem State.strokeTest_configuredAs (h : s.ConfiguredAs s₀) (c : ChamberId) : (s.strokeTest c).ConfiguredAs s₀ := by
  unfold State.strokeTest; dsimp only; split <;> simp [h]

@[simp] theorem State.endStroke_configuredAs (h : s.ConfiguredAs s₀) (c : ChamberId) :
    (s.endStroke c).ConfiguredAs s₀ := by simp [h, State.endStroke]

@[simp] theorem State.endPack_configuredAs (h : s.ConfiguredAs s₀) (c : ChamberId) (b : Bool) :
    (s.endPack c b).ConfiguredAs s₀ := by
  unfold State.endPack; dsimp only; split <;> simp [h]

theorem State.testPhase_configuredAs (h : s.ConfiguredAs s₀) {t : State} {c : ChamberId} (ht : s.testPhase c = some t) :
    t.ConfiguredAs s₀ := by
  unfold State.testPhase at ht; dsimp only at ht
  repeat' split at ht
  all_goals cases ht
  all_goals simp [h]

@[simp] theorem State.phaseRole_configuredAs (h : s.ConfiguredAs s₀) (c : ChamberId) : (s.phaseRole c).ConfiguredAs s₀ := by
  unfold State.phaseRole
  cases ht : s.testPhase c with
  | none => exact h
  | some t => exact State.testPhase_configuredAs h ht

@[simp] theorem State.enterQuiet_configuredAs (h : s.ConfiguredAs s₀) (c : ChamberId) :
    (s.enterQuiet c).ConfiguredAs s₀ := by simp [h, State.enterQuiet]

@[simp] theorem State.quietTest_configuredAs (h : s.ConfiguredAs s₀) (c : ChamberId) : (s.quietTest c).ConfiguredAs s₀ := by
  unfold State.quietTest; dsimp only; split <;> simp [h]

@[simp] theorem State.phaseEntered_configuredAs (h : s.ConfiguredAs s₀) (c : ChamberId) :
    (s.phaseEntered c).ConfiguredAs s₀ := by
  unfold State.phaseEntered
  split
  · exact State.testPhase_configuredAs h ‹_›
  · simp [h]

@[simp] theorem State.quietEvent_configuredAs (h : s.ConfiguredAs s₀) (c : ChamberId) : (s.quietEvent c).ConfiguredAs s₀ := by
  unfold State.quietEvent; repeat' split
  all_goals simp [h]

@[simp] theorem State.quietExpired_configuredAs (h : s.ConfiguredAs s₀) (c : ChamberId) :
    (s.quietExpired c).ConfiguredAs s₀ := by
  unfold State.quietExpired; dsimp only; split <;> simp [h]

@[simp] theorem State.configuredAs_autoPackTest (c : ChamberId) : (s.autoPackTest c).ConfiguredAs s₀ ↔ s.ConfiguredAs s₀ := by
  unfold State.autoPackTest; dsimp only; split <;> simp

@[simp] theorem State.configuredAs_takeTip (c : ChamberId) :
    (s.takeTip c).ConfiguredAs s₀ ↔ s.ConfiguredAs s₀ := by simp [State.takeTip]

@[simp] theorem State.configuredAs_ignoreChamberCommand (c : ChamberId) :
    (s.ignoreChamberCommand c).ConfiguredAs s₀ ↔ s.ConfiguredAs s₀ := by
  simp [State.ignoreChamberCommand]

@[simp] theorem State.phaseExpired_configuredAs (h : s.ConfiguredAs s₀) (c : ChamberId) :
    (s.phaseExpired c).ConfiguredAs s₀ := by
  unfold State.phaseExpired; dsimp only; split <;> simp [h]

@[simp] theorem State.chamberFaultClear_configuredAs (h : s.ConfiguredAs s₀) (c : ChamberId) :
    (s.chamberFaultClear c).ConfiguredAs s₀ := by
  unfold State.chamberFaultClear; dsimp only; split <;> simp [h]

@[simp] theorem State.resumeStroke_configuredAs (h : s.ConfiguredAs s₀) (c : ChamberId) :
    (s.resumeStroke c).ConfiguredAs s₀ := by
  unfold State.resumeStroke; dsimp only; split <;> simp [h]

@[simp] theorem State.packNow_configuredAs (h : s.ConfiguredAs s₀) (c : ChamberId) : (s.packNow c).ConfiguredAs s₀ := by
  unfold State.packNow; dsimp only; repeat' split
  all_goals simp [h]

@[simp] theorem State.suspendStroke_configuredAs (h : s.ConfiguredAs s₀) (c : ChamberId) :
    (s.suspendStroke c).ConfiguredAs s₀ := by
  simp [h, State.suspendStroke]

@[simp] theorem State.suspendWaiting_configuredAs (h : s.ConfiguredAs s₀) (c : ChamberId) :
    (s.suspendWaiting c).ConfiguredAs s₀ := by
  simp [h, State.suspendWaiting]

@[simp] theorem State.packPermitChange_configuredAs (h : s.ConfiguredAs s₀) (c : ChamberId) :
    (s.packPermitChange c).ConfiguredAs s₀ := by
  unfold State.packPermitChange; dsimp only; repeat' split
  all_goals simp [h]

@[simp] theorem State.chamberGranted_configuredAs (h : s.ConfiguredAs s₀) (c : ChamberId) :
    (s.chamberGranted c).ConfiguredAs s₀ := by
  unfold State.chamberGranted; dsimp only; repeat' split
  all_goals simp [h]

@[simp] theorem State.holdChamber_configuredAs (h : s.ConfiguredAs s₀) (c : ChamberId) : (s.holdChamber c).ConfiguredAs s₀ := by
  unfold State.holdChamber; dsimp only; split <;> simp [h]

@[simp] theorem State.chamberHoldEnd_configuredAs (h : s.ConfiguredAs s₀) (c : ChamberId) :
    (s.chamberHoldEnd c).ConfiguredAs s₀ := by
  unfold State.chamberHoldEnd; dsimp only; repeat' split
  all_goals simp [h]

@[simp] theorem State.chamberServiceEnd_configuredAs (h : s.ConfiguredAs s₀) (c : ChamberId) :
    (s.chamberServiceEnd c).ConfiguredAs s₀ := by
  unfold State.chamberServiceEnd; dsimp only; split <;> simp [h]

@[simp] theorem State.configuredAs_refuseDischarge (c : ChamberId) (r : DischargeRefusal) :
    (s.refuseDischarge c r).ConfiguredAs s₀ ↔ s.ConfiguredAs s₀ := by simp [State.refuseDischarge]

@[simp] theorem State.configuredAs_resetChamber (c : ChamberId) : (s.resetChamber c).ConfiguredAs s₀ ↔ s.ConfiguredAs s₀ := by
  simp [State.resetChamber]

@[simp] theorem State.configuredAs_discharge (c : ChamberId) : (s.discharge c).ConfiguredAs s₀ ↔ s.ConfiguredAs s₀ := by
  unfold State.discharge; repeat' split
  all_goals simp

/-! ## The lift cycle -/

@[simp] theorem State.setArmState_configuredAs (h : s.ConfiguredAs s₀) (a : ArmId) (k : ArmState) :
    (s.setArmState a k).ConfiguredAs s₀ := by
  unfold State.setArmState; dsimp only; repeat' split
  all_goals simp [h]

@[simp] theorem State.armStop_configuredAs (h : s.ConfiguredAs s₀) (a : ArmId) (k : ArmState) :
    (s.armStop a k).ConfiguredAs s₀ := by
  simp [h, State.armStop]

@[simp] theorem State.configuredAs_ignoreArmCommand (a : ArmId) :
    (s.ignoreArmCommand a).ConfiguredAs s₀ ↔ s.ConfiguredAs s₀ := by
  simp [State.ignoreArmCommand]

@[simp] theorem State.configuredAs_badArmCommand (a : ArmId) : (s.badArmCommand a).ConfiguredAs s₀ ↔ s.ConfiguredAs s₀ := by
  simp [State.badArmCommand]

@[simp] theorem State.configuredAs_closeRecord (a : ArmId) (n : Nat) (o : CycleOutcome) :
    (s.closeRecord a n o).ConfiguredAs s₀ ↔ s.ConfiguredAs s₀ := by
  unfold State.closeRecord; dsimp only; repeat' split
  all_goals simp

@[simp] theorem State.cycleEnd_configuredAs (h : s.ConfiguredAs s₀) (a : ArmId) (o : CycleOutcome) :
    (s.cycleEnd a o).ConfiguredAs s₀ := by
  unfold State.cycleEnd; dsimp only; split <;> simp [h]

@[simp] theorem State.armFault_configuredAs (h : s.ConfiguredAs s₀) (a : ArmId) (k : ArmFault) :
    (s.armFault a k).ConfiguredAs s₀ := by
  unfold State.armFault; split <;> simp [h]

@[simp] theorem State.configuredAs_tellBlock (a : ArmId) (k : EndKind) :
    (s.tellBlock a k).ConfiguredAs s₀ ↔ s.ConfiguredAs s₀ := by
  unfold State.tellBlock; repeat' split
  all_goals simp

@[simp] theorem State.enterRunning_configuredAs (h : s.ConfiguredAs s₀) (a : ArmId) : (s.enterRunning a).ConfiguredAs s₀ := by
  unfold State.enterRunning; dsimp only; repeat' split
  all_goals simp [h]

@[simp] theorem State.claimStep_configuredAs (h : s.ConfiguredAs s₀) (a : ArmId) : (s.claimStep a).ConfiguredAs s₀ := by
  unfold State.claimStep
  cases s.currentStep a with
  | none => exact h
  | some t =>
    have claimed := State.claim_configuredAs h a.consumer t.claimed
    dsimp only
    generalize s.claim a.consumer t.claimed = x at claimed
    rcases x with ⟨u, _ | _⟩
    all_goals simp [claimed]

@[simp] theorem State.configuredAs_loadStep (a : ArmId) (p : Nat) : (s.loadStep a p).ConfiguredAs s₀ ↔ s.ConfiguredAs s₀ := by
  unfold State.loadStep; dsimp only; split <;> simp

@[simp] theorem State.resumeStep_configuredAs (h : s.ConfiguredAs s₀) (a : ArmId) : (s.resumeStep a).ConfiguredAs s₀ := by
  unfold State.resumeStep; split <;> simp [h]

@[simp] theorem State.enterStep_configuredAs (h : s.ConfiguredAs s₀) (a : ArmId) (p : Nat) :
    (s.enterStep a p).ConfiguredAs s₀ := by
  unfold State.enterStep; dsimp only; split <;> simp [h]

@[simp] theorem State.goTo_configuredAs (h : s.ConfiguredAs s₀) (a : ArmId) (n p : Nat) : (s.goTo a n p).ConfiguredAs s₀ := by
  unfold State.goTo; dsimp only; repeat' split
  all_goals simp [h]

@[simp] theorem State.programDone_configuredAs (h : s.ConfiguredAs s₀) (a : ArmId) :
    (s.programDone a).ConfiguredAs s₀ := by simp [h, State.programDone]

@[simp] theorem State.configuredAs_markTip (a : ArmId) : (s.markTip a).ConfiguredAs s₀ ↔ s.ConfiguredAs s₀ := by
  unfold State.markTip; dsimp only; split <;> simp

@[simp] theorem State.passOn_configuredAs (h : s.ConfiguredAs s₀) (a : ArmId) (g : ProgramEntry) (p : Nat) (t : StepEntry) :
    (s.passOn a g p t).ConfiguredAs s₀ := by
  unfold State.passOn; dsimp only; repeat' split
  all_goals simp [h]

@[simp] theorem State.finishStep_configuredAs (h : s.ConfiguredAs s₀) (a : ArmId) : (s.finishStep a).ConfiguredAs s₀ := by
  unfold State.finishStep; dsimp only; repeat' split
  all_goals simp [h]

@[simp] theorem State.stepEnded_configuredAs (h : s.ConfiguredAs s₀) (a : ArmId) : (s.stepEnded a).ConfiguredAs s₀ := by
  unfold State.stepEnded; split <;> simp [h]

@[simp] theorem State.endEvent_configuredAs (h : s.ConfiguredAs s₀) (a : ArmId) : (s.endEvent a).ConfiguredAs s₀ := by
  unfold State.endEvent; repeat' split
  all_goals simp [h]

@[simp] theorem State.takeDecision_configuredAs (h : s.ConfiguredAs s₀) (a : ArmId) (b : Bool) :
    (s.takeDecision a b).ConfiguredAs s₀ := by
  unfold State.takeDecision; split <;> simp [h]

@[simp] theorem State.positionTest_configuredAs (h : s.ConfiguredAs s₀) (a : ArmId) : (s.positionTest a).ConfiguredAs s₀ := by
  unfold State.positionTest; split <;> simp [h]

@[simp] theorem State.stepTimeout_configuredAs (h : s.ConfiguredAs s₀) (a : ArmId) : (s.stepTimeout a).ConfiguredAs s₀ := by
  unfold State.stepTimeout; dsimp only; repeat' split
  all_goals simp [h]

@[simp] theorem State.durationRun_configuredAs (h : s.ConfiguredAs s₀) (a : ArmId) : (s.durationRun a).ConfiguredAs s₀ := by
  unfold State.durationRun; dsimp only; split <;> simp [h]

@[simp] theorem State.configuredAs_refuseStart (a : ArmId) (r : ArmRefusal) :
    (s.refuseStart a r).ConfiguredAs s₀ ↔ s.ConfiguredAs s₀ := by
  simp [State.refuseStart]

@[simp] theorem State.openCycle_configuredAs (h : s.ConfiguredAs s₀) (a : ArmId) (n p : Nat) (b : Bool) :
    (s.openCycle a n p b).ConfiguredAs s₀ := by
  simp [h, State.openCycle]

@[simp] theorem State.configuredAs_admissionFault (a : ArmId) : (s.admissionFault a).1.ConfiguredAs s₀ ↔ s.ConfiguredAs s₀ := by
  unfold State.admissionFault; dsimp only; repeat' split
  all_goals simp

@[simp] theorem State.admitCycle_configuredAs (h : s.ConfiguredAs s₀) (a : ArmId) (n p : Nat) (b : Bool) :
    (s.admitCycle a n p b).ConfiguredAs s₀ := by
  have judged := (State.configuredAs_admissionFault a).2 (State.openCycle_configuredAs h a n p b)
  unfold State.admitCycle
  generalize (s.openCycle a n p b).admissionFault a = x at judged
  rcases x with ⟨u, _ | k⟩
  all_goals simp [judged]

@[simp] theorem State.tryStart_configuredAs (h : s.ConfiguredAs s₀) (a : ArmId) (n : Nat) (b : Bool) :
    (s.tryStart a n b).ConfiguredAs s₀ := by
  unfold State.tryStart; split <;> simp [h]

/-! ## The arms outside a step -/

@[simp] theorem State.manualTargets_configuredAs (h : s.ConfiguredAs s₀) (a : ArmId) :
    (s.manualTargets a).ConfiguredAs s₀ := by
  simp [h, State.manualTargets]

@[simp] theorem State.manualGrant_configuredAs (h : s.ConfiguredAs s₀) (a : ArmId) : (s.manualGrant a).ConfiguredAs s₀ := by
  simp [h, State.manualGrant]

@[simp] theorem State.leaveManual_configuredAs (h : s.ConfiguredAs s₀) (a : ArmId) (k : ArmState) :
    (s.leaveManual a k).ConfiguredAs s₀ := by
  simp [h, State.leaveManual]

@[simp] theorem State.beginManual_configuredAs (h : s.ConfiguredAs s₀) (a : ArmId) : (s.beginManual a).ConfiguredAs s₀ := by
  have claimed (x : Arm) (d : Nat) : (((s.setArm a x).setArmState a .manual).claim a.consumer d).1.ConfiguredAs s₀ := by simp [h]
  unfold State.beginManual; dsimp only
  generalize hx : State.claim _ _ _ = x
  have k : x.1.ConfiguredAs s₀ := hx ▸ claimed _ _
  rcases x with ⟨t, _ | _⟩
  all_goals simp [k]

@[simp] theorem State.enterManual_configuredAs (h : s.ConfiguredAs s₀) (a : ArmId) : (s.enterManual a).ConfiguredAs s₀ := by
  unfold State.enterManual; repeat' split
  all_goals simp [h]

@[simp] theorem State.exitManual_configuredAs (h : s.ConfiguredAs s₀) (a : ArmId) : (s.exitManual a).ConfiguredAs s₀ := by
  unfold State.exitManual; split <;> simp [h]

@[simp] theorem State.joyEvent_configuredAs (h : s.ConfiguredAs s₀) (a : ArmId) : (s.joyEvent a).ConfiguredAs s₀ := by
  unfold State.joyEvent; split <;> simp [h]

@[simp] theorem State.positionEvent_configuredAs (h : s.ConfiguredAs s₀) (a : ArmId) : (s.positionEvent a).ConfiguredAs s₀ := by
  unfold State.positionEvent; dsimp only; repeat' split
  all_goals simp [h]

@[simp] theorem State.startCommand_configuredAs (h : s.ConfiguredAs s₀) (a : ArmId) (l : List Byte) :
    (s.startCommand a l).ConfiguredAs s₀ := by
  unfold State.startCommand; repeat' split
  all_goals simp [h]

@[simp] theorem State.pauseCommand_configuredAs (h : s.ConfiguredAs s₀) (a : ArmId) : (s.pauseCommand a).ConfiguredAs s₀ := by
  unfold State.pauseCommand; split <;> simp [h]

@[simp] theorem State.continueCommand_configuredAs (h : s.ConfiguredAs s₀) (a : ArmId) :
    (s.continueCommand a).ConfiguredAs s₀ := by
  unfold State.continueCommand; split <;> simp [h]

@[simp] theorem State.abortCommand_configuredAs (h : s.ConfiguredAs s₀) (a : ArmId) : (s.abortCommand a).ConfiguredAs s₀ := by
  unfold State.abortCommand; split <;> simp [h]

@[simp] theorem State.armFaultClear_configuredAs (h : s.ConfiguredAs s₀) (a : ArmId) : (s.armFaultClear a).ConfiguredAs s₀ := by
  unfold State.armFaultClear; split <;> simp [h]

@[simp] theorem State.armFrame_configuredAs (h : s.ConfiguredAs s₀) (a : ArmId) (f : Frame) :
    (s.armFrame a f).ConfiguredAs s₀ := by
  unfold State.armFrame; repeat' split
  all_goals simp [h]

@[simp] theorem State.guardChange_configuredAs (h : s.ConfiguredAs s₀) (a : ArmId) : (s.guardChange a).ConfiguredAs s₀ := by
  unfold State.guardChange; repeat' split
  all_goals simp [h]

@[simp] theorem State.manualPermitChange_configuredAs (h : s.ConfiguredAs s₀) (a : ArmId) :
    (s.manualPermitChange a).ConfiguredAs s₀ := by
  unfold State.manualPermitChange; split <;> simp [h]

@[simp] theorem State.armGranted_configuredAs (h : s.ConfiguredAs s₀) (a : ArmId) : (s.armGranted a).ConfiguredAs s₀ := by
  unfold State.armGranted; dsimp only; repeat' split
  all_goals simp [h]

@[simp] theorem State.fullEvent_configuredAs (h : s.ConfiguredAs s₀) (a : ArmId) : (s.fullEvent a).ConfiguredAs s₀ := by
  unfold State.fullEvent; split <;> simp [h]

@[simp] theorem State.bodyPortOff_configuredAs (h : s.ConfiguredAs s₀) (a : ArmId) : (s.bodyPortOff a).ConfiguredAs s₀ := by
  unfold State.bodyPortOff; dsimp only; repeat' split
  all_goals simp [h]

@[simp] theorem State.holdArm_configuredAs (h : s.ConfiguredAs s₀) (a : ArmId) : (s.holdArm a).ConfiguredAs s₀ := by
  unfold State.holdArm; dsimp only; split <;> simp [h]

@[simp] theorem State.armHoldEnd_configuredAs (h : s.ConfiguredAs s₀) (a : ArmId) : (s.armHoldEnd a).ConfiguredAs s₀ := by
  unfold State.armHoldEnd; dsimp only; repeat' split
  all_goals simp [h]

@[simp] theorem State.armServiceEnd_configuredAs (h : s.ConfiguredAs s₀) (a : ArmId) : (s.armServiceEnd a).ConfiguredAs s₀ := by
  unfold State.armServiceEnd; dsimp only; repeat' split
  all_goals simp [h]

/-! ## Readers -/

/-- The loss of SERVICE level disarms every entry (R158). -/
@[simp] theorem State.serviceLeft_configuredAs (h : s.ConfiguredAs s₀) : s.serviceLeft.ConfiguredAs s₀ := by
  unfold State.serviceLeft; dsimp only; split
  · exact (State.configuredAs_postAnyOrder _).2 (State.disarmAll_configuredAs h rfl)
  · exact State.disarmAll_configuredAs h rfl

@[simp] theorem State.judgeService_configuredAs (h : s.ConfiguredAs s₀) : s.judgeService.ConfiguredAs s₀ := by
  unfold State.judgeService; dsimp only; repeat' split
  all_goals simp [h]

@[simp] theorem State.groupReader_configuredAs (h : s.ConfiguredAs s₀) (r : RoleGroup) : (s.groupReader r).ConfiguredAs s₀ := by
  cases r <;> simp [h, State.groupReader]

@[simp] theorem State.routeTime_configuredAs (h : s.ConfiguredAs s₀) : s.routeTime.ConfiguredAs s₀ := by
  unfold State.routeTime; split <;> exact h

@[simp] theorem State.roleReader_configuredAs (h : s.ConfiguredAs s₀) (r : Role) : (s.roleReader r).ConfiguredAs s₀ := by
  cases r <;> simp [h, State.roleReader]

@[simp] theorem State.settleFrom_configuredAs (h : s.ConfiguredAs s₀) (old : State) (l : List Nat) :
    (State.settleFrom old l s).ConfiguredAs s₀ := by
  unfold State.settleFrom; dsimp only
  rw [State.configuredAs_postAll]
  split <;> split <;> simp [h]

@[simp] theorem State.signalFrame_configuredAs (h : s.ConfiguredAs s₀) (i : Nat) (f : Frame) :
    (s.signalFrame i f).ConfiguredAs s₀ :=
  State.settleFrom_configuredAs (State.evaluateOn_configuredAs (State.takeSignals_configuredAs h i f) _) _ _

theorem State.changeSignal_configuredAs (h : s.ConfiguredAs s₀) (i : Nat) {g : SignalEntry → SignalEntry}
    (hg : ∀ e, (g e).restarted = e.restarted) : (s.changeSignal i g).ConfiguredAs s₀ :=
  State.settleFrom_configuredAs (State.evaluateOn_configuredAs (State.configuredAs_of_signals h (map_modify_of_eq hg _ i)) _) _ _

@[simp] theorem State.freshnessExpired_configuredAs (h : s.ConfiguredAs s₀) (i : Nat) :
    (s.freshnessExpired i).ConfiguredAs s₀ := by
  unfold State.freshnessExpired; repeat' split
  · exact State.changeSignal_configuredAs h i SignalEntry.limitReached_restarted
  all_goals exact h

@[simp] theorem State.holdExpired_configuredAs (h : s.ConfiguredAs s₀) (i : Nat) : (s.holdExpired i).ConfiguredAs s₀ := by
  unfold State.holdExpired; repeat' split
  · exact State.changeSignal_configuredAs h i fun _ => rfl
  all_goals exact h

@[simp] theorem State.delayExpired_configuredAs (h : s.ConfiguredAs s₀) (g : Nat) : (s.delayExpired g).ConfiguredAs s₀ := by
  have run (k : Nat) : (s.groups.modify k GroupEntry.delayRun).map GroupEntry.restarted = s.groups.map GroupEntry.restarted :=
    map_modify_of_eq (fun _ => by rfl) _ _
  unfold State.delayExpired; repeat' split
  · exact State.settleFrom_configuredAs (State.configuredAs_of_groups h (run _)) _ _
  all_goals exact h

/-! ## Router and agenda -/

@[simp] theorem State.configuredAs_badChamberCommand : s.badChamberCommand.ConfiguredAs s₀ ↔ s.ConfiguredAs s₀ := .rfl

theorem State.toChamber_configuredAs (h : s.ConfiguredAs s₀) (args : List Byte) {f : State → ChamberId → State}
    (hf : ∀ c, (f s c).ConfiguredAs s₀) : (s.toChamber args f).ConfiguredAs s₀ := by
  unfold State.toChamber; split
  · exact h
  · exact hf _

@[simp] theorem State.chamberFrame_configuredAs (h : s.ConfiguredAs s₀) (f : Frame) : (s.chamberFrame f).ConfiguredAs s₀ := by
  unfold State.chamberFrame; repeat' split
  · exact h
  · exact State.toChamber_configuredAs h _ fun c => State.packNow_configuredAs h c
  · exact State.toChamber_configuredAs h _ fun c => (State.configuredAs_discharge c).2 h
  · exact State.toChamber_configuredAs h _ fun c => State.chamberFaultClear_configuredAs h c
  · exact h

@[simp] theorem State.deliver_configuredAs (h : s.ConfiguredAs s₀) (i : Nat) (c : RouteConsumer) (f : Frame) :
    (s.deliver i c f).ConfiguredAs s₀ := by
  cases c <;> simp [h, State.deliver]

@[simp] theorem State.configuredAs_dropHeld : s.dropHeld.ConfiguredAs s₀ ↔ s.ConfiguredAs s₀ := State.configuredAs_setWatch rfl

/-- The Router writes the counts of an entry alone (R14). -/
theorem State.countRoute_configuredAs (h : s.ConfiguredAs s₀) (i : Nat) {g : RouteEntry → RouteEntry}
    (hg : ∀ e, (g e).restarted = e.restarted) : (s.countRoute i g).ConfiguredAs s₀ :=
  State.configuredAs_of_routes h (map_modify_of_eq hg _ i)

@[simp] theorem State.forwardAndDeliver_configuredAs (h : s.ConfiguredAs s₀) (i : Nat) (e : RouteEntry) (p : PortId) (f : Frame) :
    (s.forwardAndDeliver i e p f).ConfiguredAs s₀ := by
  obtain ⟨t, ht, k | ⟨-, k⟩⟩ := s.forwardAndDeliver_spec i e p f
  all_goals
    have ht' : t.ConfiguredAs s₀ := by rw [ht]; exact h
    rw [k]
    simp [ht']

@[simp] theorem State.routeAction_configuredAs (h : s.ConfiguredAs s₀) (held : Bool) (i : Nat) (e : RouteEntry) (p : PortId)
    (f : Frame) : (s.routeAction held i e p f).ConfiguredAs s₀ := by
  have blocked : (s.countRoute i fun e => { e with blocked := satInc e.blocked }).ConfiguredAs s₀ :=
    State.countRoute_configuredAs h i fun _ => rfl
  unfold State.routeAction; repeat' split
  all_goals simp [h, blocked]

@[simp] theorem State.configuredAs_missFrame (p : PortId) (f : Frame) :
    (s.missFrame p f).ConfiguredAs s₀ ↔ s.ConfiguredAs s₀ := by
  unfold State.missFrame; dsimp only; split <;> simp

@[simp] theorem State.routeFrame_configuredAs (h : s.ConfiguredAs s₀) (held : Bool) (p : PortId) (f : Frame) :
    (s.routeFrame held p f).ConfiguredAs s₀ := by
  unfold State.routeFrame; repeat' split
  · exact (State.configuredAs_missFrame p f).2 h
  · exact h
  · exact State.routeAction_configuredAs (State.countRoute_configuredAs h _ fun _ => by rfl) _ _ _ _ _

@[simp] theorem State.configuredAs_holdWeighing :
    s.holdWeighing.ConfiguredAs s₀ ↔ s.ConfiguredAs s₀ := by simp [State.holdWeighing]

@[simp] theorem State.configuredAs_takeHold : s.takeHold.ConfiguredAs s₀ ↔ s.ConfiguredAs s₀ := by
  obtain ⟨l, k, -, e⟩ := s.takeHold_spec
  rw [e]
  exact State.configuredAs_holdWeighing

@[simp] theorem State.configuredAs_holdAgain : s.holdAgain.ConfiguredAs s₀ ↔ s.ConfiguredAs s₀ := by
  unfold State.holdAgain; split <;> simp

@[simp] theorem State.configuredAs_discardHeld : s.discardHeld.ConfiguredAs s₀ ↔ s.ConfiguredAs s₀ :=
  State.configuredAs_setWatch rfl

@[simp] theorem State.settleHeld_configuredAs (h : s.ConfiguredAs s₀) (b : Bool) (f : HeldFrame) :
    (s.settleHeld b f).ConfiguredAs s₀ := by
  unfold State.settleHeld; repeat' split
  all_goals simp [h]

@[simp] theorem State.unlessHeldAnew_configuredAs (h : s.ConfiguredAs s₀) {t : State} (ht : t.ConfiguredAs s₀) :
    (s.unlessHeldAnew t).ConfiguredAs s₀ := by
  unfold State.unlessHeldAnew; split
  · exact h
  · exact ht

theorem handle_configuredAs (h : s.ConfiguredAs s₀) (e : Ev) : (handle e s).ConfiguredAs s₀ := by
  cases e <;> simp [handle, h]

/-! ## Pages -/

@[simp] theorem State.configuredAs_setPage (n : Nat) (t : PageTimers) :
    (s.setPage n t).ConfiguredAs s₀ ↔ s.ConfiguredAs s₀ := .rfl
@[simp] theorem State.configuredAs_noteAs (n : Nat) : (s.noteAs n).ConfiguredAs s₀ ↔ s.ConfiguredAs s₀ := .rfl

@[simp] theorem State.sendPage_configuredAs (h : s.ConfiguredAs s₀) (n : Nat) : (s.sendPage n).ConfiguredAs s₀ := by
  simp [h, State.sendPage]

@[simp] theorem State.pageChanged_configuredAs (h : s.ConfiguredAs s₀) (n : Nat) : (s.pageChanged n).ConfiguredAs s₀ := by
  unfold State.pageChanged; dsimp only; split <;> simp [h]

theorem noteChanges_configuredAs (h : s.ConfiguredAs s₀) (n : Nat) : (noteChanges n s).ConfiguredAs s₀ := by
  induction n generalizing s with
  | zero => exact h
  | succ n ih =>
    unfold noteChanges
    split
    · exact h
    · exact ih (State.pageChanged_configuredAs h _)

@[simp] theorem State.notePages_configuredAs (h : s.ConfiguredAs s₀) : s.notePages.ConfiguredAs s₀ :=
  noteChanges_configuredAs h 32

theorem State.takeHead_configuredAs (h : s.ConfiguredAs s₀) (e : Ev) (r : List Ev) : (s.takeHead e r).ConfiguredAs s₀ :=
  State.notePages_configuredAs ((State.configuredAs_postAll _).2 (handle_configuredAs (by exact h) e))

theorem drain_configuredAs (h : s.ConfiguredAs s₀) (n : Nat) : (drain n s).ConfiguredAs s₀ := by
  induction n generalizing s with
  | zero => exact h
  | succ n ih =>
    unfold drain
    split
    · exact h
    · exact ih (State.takeHead_configuredAs h _ _)

/-- The hand-overs and the pages that follow a command leave the configured words and arm nothing. -/
@[simp] theorem State.finish_configuredAs (h : s.ConfiguredAs s₀) : s.finish.ConfiguredAs s₀ :=
  drain_configuredAs (State.notePages_configuredAs h) _

/-! ## Replies and timers -/

@[simp] theorem State.offerReply_configuredAs (h : s.ConfiguredAs s₀) (b : Bool) (f : Frame) :
    (s.offerReply b f).ConfiguredAs s₀ := State.offerOwn_configuredAs h _ f

@[simp] theorem State.reply_configuredAs (h : s.ConfiguredAs s₀) (op : MgmtOp) (n : Nat) (q : Request) (i : BitVec 16)
    (w : Word) : (s.reply op n q i w).ConfiguredAs s₀ := State.offerReply_configuredAs h _ _

@[simp] theorem State.configuredAs_requestEnds : s.requestEnds.ConfiguredAs s₀ ↔ s.ConfiguredAs s₀ := .rfl

theorem State.answer_configuredAs (h : s.ConfiguredAs s₀) (op : MgmtOp) (n : Nat) (q : Request) (w : Word) :
    (s.answer op n q w).ConfiguredAs s₀ := by simp [h, State.answer]

@[simp] theorem State.configuredAs_refusedValue (op : MgmtOp) (q : Request) (n : Nat) :
    (s.refusedValue op q n).1.ConfiguredAs s₀ ↔ s.ConfiguredAs s₀ := by
  unfold State.refusedValue
  repeat' split
  all_goals exact .rfl

theorem State.answerBusy_configuredAs (h : s.ConfiguredAs s₀) (op : MgmtOp) (q : Request) :
    (s.answerBusy op q).ConfiguredAs s₀ := by
  simp [h, State.answerBusy]

theorem State.refuse_configuredAs (h : s.ConfiguredAs s₀) (op : MgmtOp) (q : Request) (n : Nat) :
    (s.refuse op q n).ConfiguredAs s₀ := State.answer_configuredAs ((State.configuredAs_refusedValue op q n).2 h) op n q _

theorem State.repeatHighIdle_configuredAs (h : s.ConfiguredAs s₀) : s.repeatHighIdle.ConfiguredAs s₀ := by
  unfold State.repeatHighIdle; dsimp only; repeat' split
  all_goals simp [h]

theorem State.endRunDown_configuredAs (h : s.ConfiguredAs s₀) : s.endRunDown.ConfiguredAs s₀ := by
  unfold State.endRunDown; dsimp only; repeat' split
  all_goals simp [h]

theorem State.tick_configuredAs (h : s.ConfiguredAs s₀) : s.tick.ConfiguredAs s₀ := by
  have restarted : ({ s with valveTimer := .start Config.tickMs } : State).ConfiguredAs s₀ := h
  unfold State.tick; dsimp only
  rw [State.configuredAs_disturb, State.configuredAs_disturb]
  exact State.tickGroup_configuredAs (State.tickGroup_configuredAs
    (State.tickGroup_configuredAs (State.tickGroup_configuredAs restarted _) _) _) _

theorem State.secondPassed_configuredAs (h : s.ConfiguredAs s₀) : s.secondPassed.ConfiguredAs s₀ := by
  unfold State.secondPassed; split <;> exact h

theorem State.periodExpired_configuredAs (h : s.ConfiguredAs s₀) (p : Nat) : (s.periodExpired p).ConfiguredAs s₀ := by
  unfold State.periodExpired; repeat' split
  all_goals simp [h]

theorem State.spacingExpired_configuredAs (h : s.ConfiguredAs s₀) (p : Nat) : (s.spacingExpired p).ConfiguredAs s₀ := by
  unfold State.spacingExpired; dsimp only; repeat' split
  all_goals simp [h]

theorem State.goBusOff_configuredAs (h : s.ConfiguredAs s₀) (p : PortId) : (s.goBusOff p).ConfiguredAs s₀ := by
  unfold State.goBusOff; dsimp only; repeat' split
  all_goals simp [h]

theorem State.recover_configuredAs (h : s.ConfiguredAs s₀) (p : PortId) : (s.recover p).ConfiguredAs s₀ := by
  unfold State.recover; split <;> simp [h]

/-- The end of an update changes the Bin Table alone (R88 to R90). -/
theorem State.completeUpdate_configuredAs (h : s.ConfiguredAs s₀) : s.completeUpdate.ConfiguredAs s₀ := by
  unfold State.completeUpdate
  split
  · exact h
  · next c _ =>
    have applied : (s.applyUpdate c).ConfiguredAs s₀ := by cases c <;> exact h
    dsimp only
    split <;> simp [applied]

theorem State.unlessHeld_configuredAs (h : s.ConfiguredAs s₀) {f : State → State} (hf : (f s).ConfiguredAs s₀) :
    (s.unlessHeld f).ConfiguredAs s₀ := by
  unfold State.unlessHeld; split
  · exact (State.configuredAs_dropHeld).2 h
  · exact hf

/-! ## Requests without SERVICE level -/

/-- A DEPOSIT that needs no SERVICE level goes to the Bin staging or to the Calibration Table (Table 10-3). -/
theorem State.depositAllowed_of_noService (hs : s.mgmt.service = false) {n : Nat} (hl : s.depositAllowed n = true) :
    n = 8 ∨ n = 9 := by
  unfold State.depositAllowed at hl
  split at hl
  · exact .inl rfl
  · exact .inr rfl
  · exact absurd (hl.symm.trans hs) nofun

theorem State.depositWord_configuredAs (h : s.ConfiguredAs s₀) {q : Request} (ht : q.table = 8 ∨ q.table = 9) {r : State × Bool}
    (hr : s.depositWord q = .ok r) : r.1.ConfiguredAs s₀ := by
  rcases ht with ht | ht
  · have staged : s.writeStaging q = .ok r := by rwa [State.depositWord, ht] at hr
    unfold State.writeStaging at staged
    split at staged
    · obtain ⟨x, rfl⟩ := exceptMap_ok staged
      exact h
    · cases staged
  · rw [State.depositWord, ht] at hr
    obtain ⟨x, rfl⟩ := exceptMap_ok hr
    exact h

theorem State.doDeposit_configuredAs (h : s.ConfiguredAs s₀) (hs : s.mgmt.service = false) {q : Request}
    (hl : s.depositAllowed q.table = true) : (s.doDeposit q).ConfiguredAs s₀ := by
  unfold State.doDeposit
  split
  · exact State.refuse_configuredAs h _ _ _
  · next hr =>
    exact State.answer_configuredAs (State.depositWord_configuredAs h (State.depositAllowed_of_noService hs hl) hr) _ _ _ _

theorem State.doIdentify_configuredAs (h : s.ConfiguredAs s₀) (q : Request) : (s.doIdentify q).ConfiguredAs s₀ := by
  unfold State.doIdentify
  split
  · exact State.refuse_configuredAs h _ _ _
  · simp [h]

theorem State.doExamine_configuredAs (h : s.ConfiguredAs s₀) (q : Request) : (s.doExamine q).ConfiguredAs s₀ := by
  unfold State.doExamine
  split
  · exact State.refuse_configuredAs h _ _ _
  · exact State.answer_configuredAs (by exact h) _ _ _ _

theorem State.doInsert_configuredAs (h : s.ConfiguredAs s₀) (q : Request) : (s.doInsert q).ConfiguredAs s₀ := by
  unfold State.doInsert; dsimp only
  repeat' split
  · exact State.refuse_configuredAs h _ _ _
  · exact State.refuse_configuredAs h _ _ _
  · exact h

theorem State.doRemove_configuredAs (h : s.ConfiguredAs s₀) (q : Request) : (s.doRemove q).ConfiguredAs s₀ := by
  unfold State.doRemove
  split
  · exact State.refuse_configuredAs h _ _ _
  · exact h

theorem State.doDay_configuredAs (h : s.ConfiguredAs s₀) (q : Request) : (s.doDay q).ConfiguredAs s₀ := by
  unfold State.doDay
  split
  · exact State.refuse_configuredAs h _ _ _
  · exact State.answer_configuredAs (by exact h) _ _ _ _

/-- No operation that goes on without SERVICE level reaches a configured word (Table 10-3). -/
theorem State.operate_configuredAs (h : s.ConfiguredAs s₀) (hs : s.mgmt.service = false) {op : MgmtOp} {q : Request}
    (hl : s.levelHolds op q.table = true) : (s.operate op q).ConfiguredAs s₀ := by
  cases op with
  | identify => exact State.doIdentify_configuredAs h q
  | examine => exact State.doExamine_configuredAs h q
  | deposit => exact State.doDeposit_configuredAs h hs hl
  | insert => exact State.doInsert_configuredAs h q
  | remove => exact State.doRemove_configuredAs h q
  | release => exact State.answer_configuredAs (by exact h) _ _ _ _
  | day => exact State.doDay_configuredAs h q
  | lock => exact State.answer_configuredAs (by exact h) _ _ _ _
  | step | watchContinue | reset | clear | port => exact absurd (hl.symm.trans hs) nofun

/-- A request leaves the configured words where SERVICE level is missing (R161, R162). -/
theorem State.manage_configuredAs (h : s.ConfiguredAs s₀) (hs : s.mgmt.service = false) (op : MgmtOp) (q : Request) :
    (s.manage op q).ConfiguredAs s₀ := by
  by_cases hi : s.mgmt.inProgress = none
  · have taking : (s.taking op q).ConfiguredAs s₀ := h
    cases hj : s.judgeRequest op q with
    | some status =>
      rw [State.manage_judged hi hj]
      exact State.refuse_configuredAs taking _ _ _
    | none =>
      rw [State.manage_operates hi hj]
      exact State.operate_configuredAs taking hs (State.levelHolds_of_judged hj)
  · rw [State.manage_busy hi]
    exact State.answerBusy_configuredAs h op q

/-! ## Frames taken from a FIFO -/

theorem State.holdAfter_configuredAs (h : s.ConfiguredAs s₀) (i : Nat) : (s.holdAfter i).ConfiguredAs s₀ := by
  unfold State.holdAfter; dsimp only
  split <;> simp [h]

theorem State.watchedFrame_configuredAs (h : s.ConfiguredAs s₀) (p : PortId) (f : Frame) :
    (s.watchedFrame p f).ConfiguredAs s₀ := by
  have tested := State.watchTest_configuredAs h (some p) p f
  unfold State.watchedFrame
  generalize s.watchTest (some p) p f = x at tested
  rcases x with ⟨t, _ | ⟨i, _ | _⟩⟩
  · exact State.routeFrame_configuredAs tested _ p f
  · exact State.holdAfter_configuredAs (State.routeFrame_configuredAs tested _ p f) i
  · exact State.enterHeld_configuredAs ((State.configuredAs_setWatch rfl).2 tested) i

theorem State.managementFrame_configuredAs (h : s.ConfiguredAs s₀) (hs : s.mgmt.service = false) (n : BitVec 4) (f : Frame) :
    (s.managementFrame n f).ConfiguredAs s₀ := by
  unfold State.managementFrame State.answerMalformed; dsimp only
  repeat' split
  · exact State.offerReply_configuredAs h _ _
  · exact State.offerReply_configuredAs h _ _
  · exact State.manage_configuredAs h hs _ _

theorem State.takeFrame_configuredAs (h : s.ConfiguredAs s₀) (hs : s.mgmt.service = false) (p : PortId) :
    (s.takeFrame p).ConfiguredAs s₀ := by
  unfold State.takeFrame State.handleFrame
  repeat' split
  · exact h
  · exact State.watchedFrame_configuredAs (by exact h) _ _
  · exact State.managementFrame_configuredAs (by exact h) (by exact hs) _ _
  · exact State.watchedFrame_configuredAs (by exact h) _ _

/-! ## Resets and the idle block -/

/-- A reset keeps the configured words, with every entry of Frame Watch disarmed (R14, R21, R32, R35, R152). -/
theorem State.volatileFresh_configuredAs (h : s.ConfiguredAs s₀) : s.volatileFresh.ConfiguredAs s₀ := by
  refine h.trans ⟨?_, fun i hi => ?_⟩
  · have routes := map_map_of_eq (f := RouteEntry.restarted) (k := RouteEntry.restarted) (fun _ => rfl) s.routes
    have signals := map_map_of_eq (f := SignalEntry.restarted) (k := SignalEntry.restarted) (fun _ => rfl) s.signals
    have terms := map_map_of_eq (f := TermEntry.restarted) (k := TermEntry.restarted) (fun _ => rfl) s.terms
    have groups := map_map_of_eq (f := GroupEntry.restarted) (k := GroupEntry.restarted) (fun _ => rfl) s.groups
    have watch := map_map_of_eq (f := WatchEntry.restarted) (k := WatchEntry.restarted) (fun _ => rfl) s.watch.entries
    simp only [State.configured, State.volatileFresh, Watch.restarted_entries, routes, signals, terms, groups, watch]
  · have disarmed : s.volatileFresh.watch.entries = s.watch.entries.map WatchEntry.restarted := rfl
    simp [State.armedAt, disarmed, WatchEntry.restarted] at hi

theorem State.startUp_configuredAs (h : s.ConfiguredAs s₀) : s.startUp.ConfiguredAs s₀ := by
  have judged : ((s.volatileFresh.judgeAtStart .chamber0).judgeAtStart .chamber1).ConfiguredAs s₀ :=
    (State.configuredAs_setChamber _ _).2 ((State.configuredAs_setChamber _ _).2 (State.volatileFresh_configuredAs h))
  have placed : ((s.volatileFresh.judgeAtStart .chamber0).judgeAtStart .chamber1).firstFrames.ConfiguredAs s₀ := by
    unfold State.firstFrames
    exact State.placeValveFrame_configuredAs (State.placeValveFrame_configuredAs
      (State.placeValveFrame_configuredAs (State.placeValveFrame_configuredAs judged _) _) _) _
  unfold State.startUp State.firstPages
  exact State.sendPage_configuredAs (State.sendPage_configuredAs
    (State.sendPage_configuredAs (State.sendPage_configuredAs placed _) _) _) _

/-- 1 ms that passes moves timers alone. -/
theorem State.millisecond_configuredAs (h : s.ConfiguredAs s₀) : s.millisecond.ConfiguredAs s₀ := by
  have signals := map_map_of_eq (f := SignalEntry.tick) (k := SignalEntry.restarted) (fun _ => rfl) s.signals
  have groups := map_map_of_eq (f := GroupEntry.tick) (k := GroupEntry.restarted) (fun _ => rfl) s.groups
  exact h.trans ⟨by simp only [State.configured, State.millisecond, signals, groups], fun _ => id⟩

theorem State.idle_configuredAs (h : s.ConfiguredAs s₀) : s.idle.ConfiguredAs s₀ := by
  have queued (l : List (List Instr)) : (s.queueOne l).ConfiguredAs s₀ := by unfold State.queueOne; split <;> exact h
  unfold State.idle
  repeat' split
  · exact h
  · exact queued _
  · exact queued _
  · exact State.millisecond_configuredAs h

end

/-! ## Commands -/

section
variable {s t s₀ : State} {c : Instr} {effect : State → State}

theorem exec_configuredAs_of_effect (e : exec c s = run c effect s) (he : (effect s).ConfiguredAs s₀) (ht : exec c s = .next t) :
    t.ConfiguredAs s₀ := by
  rw [eq_finish_of_exec e ht]
  exact State.finish_configuredAs he

/-- An operator command reaches its consumer, or is dropped (R156). -/
theorem exec_configuredAs_of_operator (e : exec c s = run c (fun s => s.unlessHeld effect) s) (h : s.ConfiguredAs s₀)
    (he : (effect s).ConfiguredAs s₀) (ht : exec c s = .next t) : t.ConfiguredAs s₀ :=
  exec_configuredAs_of_effect e (State.unlessHeld_configuredAs h he) ht

theorem exec_configuredAs_of_request {op : MgmtOp} {q : Request} (e : exec c s = run c (fun s => s.manage op q) s)
    (h : s.ConfiguredAs s₀) (hs : s.mgmt.service = false) (ht : exec c s = .next t) : t.ConfiguredAs s₀ :=
  exec_configuredAs_of_effect e (State.manage_configuredAs h hs op q) ht

/-- Without SERVICE level every command leaves the configured words, and arms nothing. -/
theorem exec_configuredAs (h : s.ConfiguredAs s₀) (hs : s.mgmt.service = false) (ht : exec c s = .next t) :
    t.ConfiguredAs s₀ := by
  cases c with
  | powerOn j =>
    have powered : ({ s with cal := s.cal.powered j } : State).ConfiguredAs s₀ := h
    rw [← Host.Outcome.next.inj ((exec_powerOn j s).symm.trans ht)]
    exact State.startUp_configuredAs powered
  | warmReset =>
    rw [← Host.Outcome.next.inj ((exec_warmReset s).symm.trans ht)]
    exact State.startUp_configuredAs h
  | frameTaken p => exact exec_configuredAs_of_effect (exec_frameTaken p s) (State.takeFrame_configuredAs h hs p) ht
  | binUpdateComplete => exact exec_configuredAs_of_effect (exec_binUpdateComplete s) (State.completeUpdate_configuredAs h) ht
  | identify q => exact exec_configuredAs_of_request (exec_identify q s) h hs ht
  | examine q => exact exec_configuredAs_of_request (exec_examine q s) h hs ht
  | deposit q => exact exec_configuredAs_of_request (exec_deposit q s) h hs ht
  | insertBin q => exact exec_configuredAs_of_request (exec_insertBin q s) h hs ht
  | removeBin q => exact exec_configuredAs_of_request (exec_removeBin q s) h hs ht
  | release q => exact exec_configuredAs_of_request (exec_release q s) h hs ht
  | day q => exact exec_configuredAs_of_request (exec_day q s) h hs ht
  | stepArm q => exact exec_configuredAs_of_request (exec_stepArm q s) h hs ht
  | watchContinueProcess q => exact exec_configuredAs_of_request (exec_watchContinueProcess q s) h hs ht
  | watchContinueDiscard q => exact exec_configuredAs_of_request (exec_watchContinueDiscard q s) h hs ht
  | lock q => exact exec_configuredAs_of_request (exec_lock q s) h hs ht
  | reset q => exact exec_configuredAs_of_request (exec_reset q s) h hs ht
  | clear q => exact exec_configuredAs_of_request (exec_clear q s) h hs ht
  | portClear q => exact exec_configuredAs_of_request (exec_portClear q s) h hs ht
  | portSet q => exact exec_configuredAs_of_request (exec_portSet q s) h hs ht
  | portRestart q => exact exec_configuredAs_of_request (exec_portRestart q s) h hs ht
  | start a args => exact exec_configuredAs_of_operator (exec_start a args s) h (State.startCommand_configuredAs h a args) ht
  | pauseArm a => exact exec_configuredAs_of_operator (exec_pauseArm a s) h (State.pauseCommand_configuredAs h a) ht
  | continueArm a => exact exec_configuredAs_of_operator (exec_continueArm a s) h (State.continueCommand_configuredAs h a) ht
  | abortArm a => exact exec_configuredAs_of_operator (exec_abortArm a s) h (State.abortCommand_configuredAs h a) ht
  | manualEnter a => exact exec_configuredAs_of_operator (exec_manualEnter a s) h (State.enterManual_configuredAs h a) ht
  | manualExit a => exact exec_configuredAs_of_operator (exec_manualExit a s) h (State.exitManual_configuredAs h a) ht
  | faultClear a => exact exec_configuredAs_of_operator (exec_faultClear a s) h (State.armFaultClear_configuredAs h a) ht
  | packNow args =>
    exact exec_configuredAs_of_operator (exec_packNow args s) h
      (State.toChamber_configuredAs h args (State.packNow_configuredAs h)) ht
  | discharged args =>
    exact exec_configuredAs_of_operator (exec_discharged args s) h
      (State.toChamber_configuredAs h args fun c => (State.configuredAs_discharge c).2 h) ht
  | chamberFaultClear args =>
    exact exec_configuredAs_of_operator (exec_chamberFaultClear args s) h
      (State.toChamber_configuredAs h args (State.chamberFaultClear_configuredAs h)) ht
  | frameArrival p f => exact exec_configuredAs_of_effect (exec_frameArrival p f s) (by exact h) ht
  | errorPassive p => exact exec_configuredAs_of_effect (exec_errorPassive p s) (by exact h) ht
  | returnToActive p => exact exec_configuredAs_of_effect (exec_returnToActive p s) (by exact h) ht
  | transmissionEnd p =>
    exact exec_configuredAs_of_effect (exec_transmissionEnd p s) ((State.configuredAs_noteLeft _).2 (by exact h)) ht
  | gapTimerExpiry a => exact exec_configuredAs_of_effect (exec_gapTimerExpiry a s) ((State.configuredAs_gapExpired a).2 h) ht
  | busOff p => exact exec_configuredAs_of_effect (exec_busOff p s) (State.goBusOff_configuredAs h p) ht
  | recoveryTimerExpiry p => exact exec_configuredAs_of_effect (exec_recoveryTimerExpiry p s) (State.recover_configuredAs h p) ht
  | freshnessLimitExpiry i =>
    exact exec_configuredAs_of_effect (exec_freshnessLimitExpiry i s) (State.freshnessExpired_configuredAs h i) ht
  | holdTimeExpiry i => exact exec_configuredAs_of_effect (exec_holdTimeExpiry i s) (State.holdExpired_configuredAs h i) ht
  | trueDelayExpiry g => exact exec_configuredAs_of_effect (exec_trueDelayExpiry g s) (State.delayExpired_configuredAs h g) ht
  | stepTimerExpiry a => exact exec_configuredAs_of_effect (exec_stepTimerExpiry a s) (State.stepTimeout_configuredAs h a) ht
  | durationTimerExpiry a =>
    exact exec_configuredAs_of_effect (exec_durationTimerExpiry a s) (State.durationRun_configuredAs h a) ht
  | stillFrameInterval d => exact exec_configuredAs_of_effect (exec_stillFrameInterval d s) (State.stillFrame_configuredAs h d) ht
  | phaseTimerExpiry d => exact exec_configuredAs_of_effect (exec_phaseTimerExpiry d s) (State.phaseExpired_configuredAs h d) ht
  | quietTimerExpiry d => exact exec_configuredAs_of_effect (exec_quietTimerExpiry d s) (State.quietExpired_configuredAs h d) ht
  | periodTimerExpiry p =>
    exact exec_configuredAs_of_effect (exec_periodTimerExpiry p s) (State.periodExpired_configuredAs h p) ht
  | spacingTimerExpiry p =>
    exact exec_configuredAs_of_effect (exec_spacingTimerExpiry p s) (State.spacingExpired_configuredAs h p) ht
  | oneSecondTimerExpiry => exact exec_configuredAs_of_effect (exec_oneSecondTimerExpiry s) (State.secondPassed_configuredAs h) ht
  | repeatTimerExpiry => exact exec_configuredAs_of_effect (exec_repeatTimerExpiry s) (State.repeatHighIdle_configuredAs h) ht
  | runDownTimerExpiry => exact exec_configuredAs_of_effect (exec_runDownTimerExpiry s) (State.endRunDown_configuredAs h) ht
  | valveTick => exact exec_configuredAs_of_effect (exec_valveTick s) (State.tick_configuredAs h) ht

end

/-- Settles O9: without SERVICE level the command at the front of the queue leaves what is configured and arms nothing
(`exec_configuredAs`), and so does the block going on by itself (`State.idle_configuredAs`). -/
theorem configurationNeedsService : Obligations.ConfigurationNeedsService := by
  unfold Obligations.ConfigurationNeedsService
  intro s t hservice ht
  have stands : t.ConfiguredAs s := by
    unfold step at ht
    split at ht
    · cases ht
      exact State.idle_configuredAs (.refl s)
    · next c rest _ => exact exec_configuredAs (s := { s with pending := rest }) (by exact .refl s) hservice ht
  obtain ⟨hwords, harmed⟩ := stands
  simp only [State.configured, Prod.mk.injEq] at hwords
  obtain ⟨hcfg, hsteps, hprograms, hselect, htariffs, hroutes, hsignals, hterms, hgroups, hwatch⟩ := hwords
  refine ⟨hcfg, hsteps, hprograms, hselect, htariffs, hroutes, hsignals, hterms, hgroups, hwatch, fun i e d he hd hda => ?_⟩
  have hi : s.armedAt i := harmed i (by rw [State.armedAt, List.getElem?_map, hd, Option.map_some, hda])
  rw [State.armedAt, List.getElem?_map, he] at hi
  exact Option.some.inj hi

end Sys2Proof.Machine
end

section
/-! The statement on the test of a frame at Frame Watch (R154, R155, Table 10-6), with what it needs: the entries that match, the hits
counted, the hold match that decides and the frames of a mirror report. -/

namespace Sys2Proof.Machine

section
variable {r : Option PortId} {f : Frame} {w : Watch} {i : Nat} {e : WatchEntry}

/-! ## The entries that match (R154) -/

theorem WatchEntry.hit_iff :
    e.hit r f = true ↔ e.armed = true ∧ f.id &&& e.mask = e.id &&& e.mask ∧
      (r = none ∧ e.source = .own ∨ r = some .portC ∧ (e.source = .portC ∨ e.source = .any) ∨
        r = some .portB ∧ (e.source = .portB ∨ e.source = .any)) := by
  have fits : e.source.fits r = true ↔
      r = none ∧ e.source = .own ∨ r = some .portC ∧ (e.source = .portC ∨ e.source = .any) ∨
        r = some .portB ∧ (e.source = .portB ∨ e.source = .any) := by
    rcases r with _ | _ | _ <;> cases e.source <;> simp [WatchSource.fits]
  rw [← fits, WatchEntry.hit, Bool.and_eq_true, Bool.and_eq_true, decide_eq_true_iff]
  tauto

theorem Watch.mem_hits : i ∈ w.hits r f ↔ ∃ e, w.entries[i]? = some e ∧ e.hit r f = true := by
  unfold Watch.hits
  rw [List.mem_filter, List.mem_range]
  cases he : w.entries[i]? with
  | none => simp
  | some e => simpa using fun _ => (List.getElem?_eq_some_iff.1 he).1

theorem Watch.hits_nodup : (w.hits r f).Nodup := List.nodup_range.filter _

/-- With no match before entry `i` its match is the first. -/
theorem Watch.hits_eq_cons (he : w.entries[i]? = some e) (hit : e.hit r f = true)
    (first : ∀ j < i, ∀ d, w.entries[j]? = some d → ¬ d.hit r f = true) : ∃ l, w.hits r f = i :: l := by
  refine List.head?_eq_some_iff.1 ?_
  unfold Watch.hits
  rw [List.head?_filter, List.find?_range_eq_some, List.mem_range]
  refine ⟨by simpa only [he] using hit, (List.getElem?_eq_some_iff.1 he).1, fun j hj => ?_⟩
  cases hd : w.entries[j]? with
  | none => rfl
  | some d => simpa using first j hj d hd

/-- Entry `i` is the only one that matches. -/
theorem Watch.hits_eq_singleton (he : w.entries[i]? = some e) (hit : e.hit r f = true)
    (only : ∀ j d, j ≠ i → w.entries[j]? = some d → ¬ d.hit r f = true) : w.hits r f = [i] := by
  refine List.perm_singleton.1 ((List.perm_ext_iff_of_nodup Watch.hits_nodup (List.nodup_singleton i)).2 fun j => ?_)
  rw [Watch.mem_hits, List.mem_singleton]
  constructor
  · rintro ⟨d, hd, hhit⟩
    exact not_not.1 fun hj => only j d hj hd hhit
  · rintro rfl
    exact ⟨e, he, hit⟩

/-! ## The hits counted (R154) -/

theorem Watch.countHits_getElem? {l : List Nat} (hl : l.Nodup) (j : Nat) :
    (w.countHits l).entries[j]? = w.entries[j]?.map fun e => if j ∈ l then e.counted else e := by
  show (l.foldl (fun es i => es.modify i WatchEntry.counted) w.entries)[j]? = _
  generalize w.entries = es
  induction l generalizing es with
  | nil => simp
  | cons i l ih =>
    obtain ⟨hi, hl⟩ := List.nodup_cons.1 hl
    rw [List.foldl_cons, ih hl, List.getElem?_modify]
    by_cases hij : i = j
    · subst hij
      cases es[i]? <;> simp [hi]
    · simp [hij, Ne.symm hij]

/-- The matching entries have counted, the others stand. -/
theorem Watch.countHits_eq {entries : List WatchEntry} (hlen : entries.length = w.entries.length)
    (h : ∀ (i : Nat) (e : WatchEntry), w.entries[i]? = some e →
      (e.hit r f = true → entries[i]? = some e.counted) ∧ (¬ e.hit r f = true → entries[i]? = some e)) :
    w.countHits (w.hits r f) = { w with entries } := by
  have counted : (w.countHits (w.hits r f)).entries = entries := by
    refine List.ext_getElem? fun j => ?_
    rw [Watch.countHits_getElem? Watch.hits_nodup]
    cases hd : w.entries[j]? with
    | none => rw [Option.map_none, List.getElem?_eq_none (hlen ▸ List.getElem?_eq_none_iff.1 hd)]
    | some d =>
      have hmem : j ∈ w.hits r f ↔ d.hit r f = true := by simp [Watch.mem_hits, hd]
      simp only [Option.map_some, hmem]
      split
      · exact ((h j d hd).1 ‹_›).symm
      · exact ((h j d hd).2 ‹_›).symm
  rw [← counted]
  rfl

/-! ## The hold match that decides (R155) -/

theorem Watch.holdMatch_cons_hold (he : w.entries[i]? = some e) (hk : e.kind ≠ .mirror) (l : List Nat) :
    w.holdMatch (i :: l) = some (i, decide (e.kind = .holdBefore)) := by
  unfold Watch.holdMatch
  rw [he]
  dsimp only
  cases hkind : e.kind with
  | mirror => exact absurd hkind hk
  | holdAfter => rfl
  | holdBefore => rfl

theorem Watch.holdMatch_singleton_mirror (he : w.entries[i]? = some e) (hk : e.kind = .mirror) : w.holdMatch [i] = none := by
  simp only [Watch.holdMatch, he, hk]

end

/-! ## Frame Watch as a frame passes it -/

section
variable {s : State} {r : Option PortId} {p : PortId} {f : Frame} {i : Nat} {e : WatchEntry} {entries : List WatchEntry}

theorem State.watchTest_of_noHit (h : ∀ e ∈ s.watch.entries, ¬ e.hit r f = true) : s.watchTest r p f = (s, none) := by
  have none : s.watch.hits r f = [] := List.eq_nil_iff_forall_not_mem.2 fun i hi => by
    obtain ⟨e, he, hit⟩ := Watch.mem_hits.1 hi
    exact h e (List.mem_of_getElem? he) hit
  unfold State.watchTest
  rw [none]
  rfl

/-- A hold match comes first and no MIRROR matches: it is ignored while HELD, and decides while FREE (R155). -/
theorem State.watchTest_of_firstHold {l : List Nat} (hcount : s.watch.countHits (s.watch.hits r f) = { s.watch with entries })
    (hhits : s.watch.hits r f = i :: l) (he : entries[i]? = some e)
    (hold : ∀ j ∈ s.watch.hits r f, ∀ d, entries[j]? = some d → d.kind ≠ .mirror) :
    s.watchTest r p f =
      if s.watch.isHeld then
        (s.setWatch { s.watch with entries, holdIgnored := satInc s.watch.holdIgnored }, none)
      else (s.setWatch { s.watch with entries }, some (i, decide (e.kind = .holdBefore))) := by
  have noMirror : (s.watch.hits r f).filter (fun j => (entries[j]?.map WatchEntry.kind) == some .mirror) = [] := by
    rw [List.filter_eq_nil_iff]
    intro j hj
    cases hd : entries[j]? with
    | none => simp
    | some d => simpa using hold j hj d hd
  have decides : ({ s.watch with entries } : Watch).holdMatch (s.watch.hits r f) = some (i, decide (e.kind = .holdBefore)) := by
    rw [hhits]
    exact Watch.holdMatch_cons_hold he (hold i (by rw [hhits]; exact List.mem_cons_self) e he) l
  unfold State.watchTest
  simp only [hcount, State.setWatch_watch, noMirror, List.foldl_nil, decides]
  rfl

end

/-! ## The report of a MIRROR (Table 10-6) -/

section
variable {s : State} {r : Option PortId} {p : PortId} {f : Frame} {i : Nat} {e : WatchEntry} {entries : List WatchEntry}

@[simp] theorem State.offerQueue_watch (s : State) (p : PortId) (q : QFrame) : (s.offerQueue p q).watch = s.watch := by
  rw [State.offerQueue_eq]; rfl

@[simp] theorem State.offerQueue_cfg (s : State) (p : PortId) (q : QFrame) : (s.offerQueue p q).cfg = s.cfg := by
  rw [State.offerQueue_eq]; rfl

/-- A report moves the report count of Frame Watch on, and nothing else there. -/
theorem State.mirrorReport_watch (s : State) (i : Nat) (own : Bool) (p : PortId) (f : Frame) :
    (s.mirrorReport i own p f).watch = { s.watch with reportCount := (s.watch.reportCount + 1) % 256 } := by
  unfold State.mirrorReport
  dsimp only
  split <;> simp

/-- The entry's number stands above the 29 bits of the identifier, in the first of the four bytes. -/
theorem splitMsb_identifier (n i : Nat) :
    splitMsb 4 (n + i * 2 ^ 29) =
      [BitVec.ofNat 8 ((n + i * 2 ^ 29) / 2 ^ 24), BitVec.ofNat 8 (n / 2 ^ 16), BitVec.ofNat 8 (n / 2 ^ 8),
        BitVec.ofNat 8 n] := by
  simp only [splitMsb, List.cons.injEq, and_true]
  refine ⟨rfl, ?_, ?_, ?_⟩
  all_goals
    refine BitVec.eq_of_toNat_eq ?_
    simp only [BitVec.toNat_ofNat]
    omega

theorem mirrorHead_eq (wmir : CanId) (count i : Nat) (r : Option PortId) (p : PortId) (f : Frame) :
    mirrorHead wmir count i r.isNone p.second f =
      { id := wmir,
        data := [BitVec.ofNat 8 count,
          BitVec.ofNat 8 (f.data.length % 16 + (if r = none then 16 else 0) + (if p = .portB then 32 else 0)),
          BitVec.ofNat 8 ((f.id.toNat + i * 2 ^ 29) / 2 ^ 24), BitVec.ofNat 8 (f.id.toNat / 2 ^ 16),
          BitVec.ofNat 8 (f.id.toNat / 2 ^ 8), BitVec.ofNat 8 f.id.toNat, f.byte 0, f.byte 1] } := by
  have hp : (p.second = true) = (p = .portB) := by cases p <;> simp [PortId.second]
  simp only [mirrorHead, splitMsb_identifier, Option.isNone_iff_eq_none, hp]
  rfl

/-- A MIRROR is the only match: it makes its report, and no hold (R155). -/
theorem State.watchTest_of_onlyMirror (hcount : s.watch.countHits (s.watch.hits r f) = { s.watch with entries })
    (hhits : s.watch.hits r f = [i]) (he : entries[i]? = some e) (hk : e.kind = .mirror) :
    s.watchTest r p f = ((s.setWatch { s.watch with entries }).mirrorReport i r.isNone p f, none) := by
  have mirror : [i].filter (fun j => (entries[j]?.map WatchEntry.kind) == some .mirror) = [i] := by simp [he, hk]
  rw [hhits] at hcount
  unfold State.watchTest
  simp only [hhits, hcount, State.setWatch_watch, mirror, List.foldl_cons, List.foldl_nil, State.mirrorReport_watch]
  rw [Watch.holdMatch_singleton_mirror he hk]

end

/-- Settles O57: the matching entries count (`Watch.countHits_eq`); the first hold match is ignored or decides
(`State.watchTest_of_firstHold`), and a MIRROR alone makes its report (`State.watchTest_of_onlyMirror`, `mirrorHead_eq`). -/
theorem watchTestsEveryFrame : Obligations.WatchTestsEveryFrame := by
  unfold Obligations.WatchTestsEveryFrame
  intro s r p f hit entries hhit hlen hentries
  have hit_iff (e : WatchEntry) : hit e ↔ e.hit r f = true := (hhit e).trans WatchEntry.hit_iff.symm
  simp only [hit_iff] at hentries ⊢
  have hcount : s.watch.countHits (s.watch.hits r f) = { s.watch with entries } := Watch.countHits_eq hlen hentries
  refine ⟨State.watchTest_of_noHit, fun i e hold he hhit first => ?_,
    fun i e he hhit hk only head body u hhead hbody hu => ?_⟩
  · obtain ⟨l, hhits⟩ := Watch.hits_eq_cons he hhit first
    have holds : ∀ j ∈ s.watch.hits r f, ∀ d, entries[j]? = some d → d.kind ≠ .mirror := by
      intro j hj d hd
      obtain ⟨c, hc, hchit⟩ := Watch.mem_hits.1 hj
      rw [(hentries j c hc).1 hchit] at hd
      cases hd
      exact hold c (List.mem_of_getElem? hc) hchit
    rw [State.watchTest_of_firstHold hcount hhits ((hentries i e he).1 hhit) holds]
    exact ⟨fun hfree => if_neg (Bool.eq_false_iff.1 hfree), fun hheld => if_pos hheld⟩
  · rw [State.watchTest_of_onlyMirror hcount (Watch.hits_eq_singleton he hhit only) ((hentries i e he).1 hhit) hk]
    subst hu hhead hbody
    unfold State.mirrorReport
    dsimp only
    rw [mirrorHead_eq]
    refine ⟨fun hshort => ?_, fun hlong => ?_⟩
    · rw [if_neg (show ¬ 2 < f.dlc from Nat.not_lt.2 hshort)]
      rfl
    · rw [if_pos (show 2 < f.dlc from hlong), State.offerQueue_cfg]
      rfl

end Sys2Proof.Machine
end

section
/-! The statements on the machine as a whole: a step takes the command at the front of the queue, and every command is answered
(assumption 1), with what they need: the two starts cannot be ill-formed, and the refusal of a command that is. -/

namespace Sys2Proof.Machine

/-- A term that is no command of the block is refused, whatever its effect would be. -/
theorem run_illFormed {c : Instr} (h : c.wellFormed = false) (effect : State → State) (s : State) :
    run c effect s = .refused .notACommand := by
  unfold run; rw [if_neg (Bool.eq_false_iff.1 h)]

/-- A command is POWER_ON, WARM_RESET, or run with an effect of its own. -/
theorem exec_start_or_run (c : Instr) (s : State) :
    (∃ jumper, c = .powerOn jumper) ∨ c = .warmReset ∨ ∃ effect : State → State, exec c s = run c effect s := by
  by_cases hp : ∃ jumper, c = .powerOn jumper
  · exact .inl hp
  by_cases hw : c = .warmReset
  · exact .inr (.inl hw)
  obtain ⟨effect, e, -⟩ := exec_actsAs (fun jumper hj => hp ⟨jumper, hj⟩) hw s
  exact .inr (.inr ⟨effect, e⟩)

/-- Settles O1: the queue with `c` in front is never empty, so the step is by definition the dispatch of `c`. -/
theorem stepRunsTheFrontCommand : Obligations.StepRunsTheFrontCommand := by
  unfold Obligations.StepRunsTheFrontCommand
  intro c rest s
  rfl

/-- Settles O3: the two starts are always well-formed and answer their first state; every other command is `run` with an effect
(`exec_start_or_run`), which answers or is refused as the command is well-formed or not. -/
theorem everyCommandAnswersNext : Obligations.EveryCommandAnswersNext := by
  unfold Obligations.EveryCommandAnswersNext
  intro c s
  obtain ⟨jumper, rfl⟩ | rfl | ⟨effect, e⟩ := exec_start_or_run c s
  · exact ⟨fun _ => ⟨_, exec_powerOn jumper s⟩, nofun⟩
  · exact ⟨fun _ => ⟨_, exec_warmReset s⟩, nofun⟩
  · rw [e]
    exact ⟨fun h => ⟨_, run_wellFormed h effect s⟩, fun h => run_illFormed h effect s⟩

end Sys2Proof.Machine
end
